-- ==== Sys2Proof/Word.lean ====
section
/-! DEFINITION. The byte of the relay's links, and a point's image of 64 positions. -/

namespace Sys2Proof

/-- One byte of a frame (chapter 11). -/
abbrev Byte := BitVec 8

/-- The payload, the fields or the whole of a frame, first byte first. -/
abbrev Bytes := List Byte

/-- The image of one row or of one group of output points: position p is bit p (R170). -/
abbrev Image := BitVec 64

end Sys2Proof
end

