-- ==== Sys2Proof/Syntax.lean ====
section
/-! DEFINITION. The commands of the relay: one constructor for each row of spec/opcode_table.json. -/

namespace Sys2Proof

/-- The six status items of kind event (R165), whose FOLLOW lamps are stretched (R168). -/
inductive EventItem where
  | returnOverrun
  | cipherOverflow
  | genSteal
  | pizzFull
  | seqNoPlayer
  | seqHoldFull
  deriving DecidableEq, Repr

/-- A command. Frames carry their payload; an event carries the number of the unit it belongs to. A service of a
request carries nothing: the request stands at the head of the request queue (R157, log 5). -/
inductive Instr where
  /-- R15, R156: power-on reset; the strap inputs read `strap`. -/
  | powerOnReset (strap : Fin 4)
  /-- R5: a good SCAN frame. -/
  | scan (kind row : Byte) (image : Image)
  /-- R122: a good SHOE frame. -/
  | shoe (shoe : Byte) (sample : BitVec 16)
  /-- R154: a good HELLO frame. -/
  | hello
  /-- R156: a good REQUEST frame. -/
  | request (address tag code : Byte) (fields : Bytes)
  /-- R156: a good IDLE frame; its payload byte is ignored (R172). -/
  | idle (sender : Byte)
  /-- R153: a frame judged bad. -/
  | badFrame
  | linkTimerExpiry
  | echo
  | modeSetConfig
  | modeSetPlay
  | modeSetTune
  | tableWriteStop
  | tableWriteRank
  | tableWriteRoute
  | tableWriteTremulant
  | tableWriteCurve
  | tableWriteSeqdir
  | tableWriteSeqmem
  | tableWriteScan
  | tableWriteChamber
  | tableWriteLamp
  | tableReadStop
  | tableReadRank
  | tableReadRoute
  | tableReadTremulant
  | tableReadCurve
  | tableReadSeqdir
  | tableReadSeqmem
  | tableReadScan
  | tableReadChamber
  | tableReadLamp
  | tableReadActive
  | tableReadPizz
  | noSuchTable
  | unknownRequest
  | routeMask
  | chamberRaise
  | chamberLower
  | tuneSelect
  | tuneHoldAdd
  | tuneHoldRemove
  | tuneHoldClear
  | statusRead
  | snapshot
  | statusMask
  | cipherRead
  | cipherClear
  | pointQuery
  | releaseAll
  | relayReset
  /-- R160: a good frame from below other than IDLE, byte for byte. -/
  | extUpstreamFrame (bytes : Bytes)
  | extIdle
  | extBadFrame
  | extTimerExpiry
  /-- R141: a good CHSTATUS frame of chamber `c`. -/
  | chstatus (c : Fin 4) (windReady supplyOk : Bool) (boards : BitVec 16)
  | chamberBadFrame (c : Fin 4)
  | chamberLinkTimerExpiry (c : Fin 4)
  | windTimerExpiry (c : Fin 4)
  | settleTimerExpiry (c : Fin 4)
  | drainTimerExpiry (c : Fin 4)
  | driveSent (c : Fin 4)
  | controlSent (c : Fin 4)
  | groupAgeExpiry (c : Fin 4) (g : Fin 16)
  | controlAgeExpiry (c : Fin 4)
  | onTimerExpiry (c : Fin 4) (p : Fin 1024)
  | strikeTimerExpiry (c : Fin 4) (p : Fin 1024)
  | generatorLevelOff (g : Fin 32)
  | generatorReturnToZero (g : Fin 32)
  | pizzicatoExpiry (row : Fin 9) (key : Fin 64) (stop : Fin 320)
  | splitTimerExpiry (input : Fin 96)
  | stepTimerExpiry (player : Fin 8)
  | slewTimerExpiry (channel : Fin 4)
  | returnFrameSent
  | returnLineSilence
  | blinkClockTurn
  | lampStretchExpiry (item : EventItem)
  deriving DecidableEq, Repr

end Sys2Proof
end

