-- ==== Sys2Proof/Decode.lean ====
section
/-! DEFINITION. The frames of chapter 11: byte order, the check of R171, and the receivers that judge a frame and
give the command it is. The opcode table gives no row bits, so `decodeTableWord` knows no word (log 21). -/

namespace Sys2Proof

/-! ### Byte order (R170, R174) -/

/-- A number of one byte. -/
def byteOf (n : Nat) : Byte := BitVec.ofNat 8 n

/-- A number of two bytes, most significant byte first (R170). -/
def wordBytes (n : Nat) : Bytes := [byteOf (n / 256), byteOf n]

/-- The number that two bytes spell, most significant first (R170). -/
def wordOf (hi lo : Byte) : Nat := 256 * hi.toNat + lo.toNat

/-- The number that a run of image bytes spells: position p is bit p mod 8 of byte p div 8 (R170). -/
def imageNat : Bytes → Nat
  | [] => 0
  | b :: rest => b.toNat + 256 * imageNat rest

/-- The `k` image bytes of a number, byte 0 first (R170). -/
def imageBytes : Nat → Nat → Bytes
  | 0, _ => []
  | k + 1, n => byteOf n :: imageBytes k (n / 256)

/-! ### The check (R171) -/

/-- One bit of the check register: generator x^16 + x^12 + x^5 + 1. -/
def crcShift (r : BitVec 16) : BitVec 16 :=
  if r.msb then (r <<< 1) ^^^ 0x1021#16 else r <<< 1

/-- One byte taken into the check register, most significant bit first. -/
def crcByte (r : BitVec 16) (b : Byte) : BitVec 16 :=
  crcShift (crcShift (crcShift (crcShift (crcShift (crcShift (crcShift (crcShift
    (r ^^^ (b.zeroExtend 16 <<< 8)))))))))

/-- The check of a run of bytes: the register starts at all ones, with no final inversion. -/
def crc (bytes : Bytes) : BitVec 16 := bytes.foldl crcByte 0xFFFF#16

/-- The two check bytes, most significant first. -/
def crcBytes (bytes : Bytes) : Bytes := wordBytes (crc bytes).toNat

/-! ### The envelope (R170, R172) -/

/-- A frame of a type byte and a payload that fits one length byte. -/
def frameBytes (type : Byte) (payload : Bytes) : Bytes :=
  let body := type :: byteOf payload.length :: payload
  body ++ crcBytes body

/-- R172: the type and payload of a frame whose length byte and check agree with the bytes that arrived. A run of bytes of
another length than its length byte asks for is none: DESIGN CHOICE (log 36, unsafe). -/
def openFrame : Bytes → Option (Byte × Bytes)
  | type :: len :: rest =>
    let payload := rest.take len.toNat
    if rest.length = len.toNat + 2 ∧ rest.drop len.toNat = crcBytes (type :: len :: payload) then
      some (type, payload)
    else none
  | _ => none

/-! ### The receivers (R172) -/

/-- A frame that has arrived on the console link (R153, R172): codes 0x01 to 0x05 with bit 7 clear, each of the
length of its type; anything else is bad. -/
def receiveConsole (bytes : Bytes) : Instr :=
  match openFrame bytes with
  | none => .badFrame
  | some (type, payload) =>
    match type.toNat, payload with
    | 0x01, kind :: row :: image =>
      if image.length = 8 then .scan kind row (BitVec.ofNat 64 (imageNat image)) else .badFrame
    | 0x02, [shoe, hi, lo] => .shoe shoe (BitVec.ofNat 16 (wordOf hi lo))
    | 0x03, [] => .hello
    | 0x04, address :: tag :: code :: fields => .request address tag code fields
    | 0x05, [sender] => .idle sender
    | _, _ => .badFrame

/-- The payload lengths of the types a relay sends upward (R171). -/
def upstreamLengthOk (code length : Nat) : Bool :=
  match code with
  | 0x05 => length == 1
  | 0x11 => length == 8
  | 0x12 => decide (3 ≤ length)
  | 0x13 => length == 2
  | 0x14 => length == 3
  | _ => false

/-- R159, R172: a good frame from below; bit 7 of its type is the sender's attention flag. -/
def goodFromBelow (bytes : Bytes) : Bool :=
  match openFrame bytes with
  | none => false
  | some (type, payload) => upstreamLengthOk (type.toNat % 128) payload.length

/-- R159: the frame from below is an IDLE frame. -/
def idleFromBelow : Bytes → Bool
  | [] => false
  | type :: _ => type.toNat % 128 == 0x05

/-- A frame that has arrived on the extension link from below. -/
def receiveBelow (bytes : Bytes) : Instr :=
  if goodFromBelow bytes then
    if idleFromBelow bytes then .extIdle else .extUpstreamFrame bytes
  else .extBadFrame

/-- A frame that has arrived on chamber link `c`: code 0x31 with bit 7 clear, 3 payload bytes, of which bits 2..7 of
the first are ignored (R173). -/
def receiveChamber (c : Fin 4) (bytes : Bytes) : Instr :=
  match openFrame bytes with
  | some (type, [lines, lo, hi]) =>
    if type = 0x31#8 then
      .chstatus c (lines.getLsbD 0) (lines.getLsbD 1) (BitVec.ofNat 16 (imageNat [lo, hi]))
    else .chamberBadFrame c
  | _ => .chamberBadFrame c

/-! ### The senders -/

/-- The frame a console sends for a command that is one of its frames (R171). -/
def consoleFrame : Instr → Option Bytes
  | .scan kind row image => some (frameBytes 0x01#8 (kind :: row :: imageBytes 8 image.toNat))
  | .shoe shoe sample => some (frameBytes 0x02#8 (shoe :: wordBytes sample.toNat))
  | .hello => some (frameBytes 0x03#8 [])
  | .request address tag code fields => some (frameBytes 0x04#8 (address :: tag :: code :: fields))
  | .idle sender => some (frameBytes 0x05#8 [sender])
  | _ => none

/-- The CHSTATUS frame a chamber board sends (R173). -/
def chstatusFrame (windReady supplyOk : Bool) (boards : BitVec 16) : Bytes :=
  frameBytes 0x31#8 (byteOf (windReady.toNat + 2 * supplyOk.toNat) :: imageBytes 2 boards.toNat)

/-- The DRIVE frame of a group (R173). -/
def driveFrame (group : Nat) (image : Image) : Bytes :=
  frameBytes 0x21#8 (byteOf group :: imageBytes 8 image.toNat)

/-- The CONTROL frame of both lines (R173). -/
def controlFrame (blower supply : Bool) : Bytes :=
  frameBytes 0x22#8 [byteOf (blower.toNat + 2 * supply.toNat)]

/-- The command that a word of the opcode table spells: the table gives no row bits, so there is none (log 21). -/
def decodeTableWord (_nbits _w : Nat) : Option Instr := none

end Sys2Proof
end

