-- ==== Sys2Proof/Config.lean ====
section
/-! DEFINITION. What the part fixes (00 section 2.1), and the values the spec leaves open. The open
values have no body, so that nothing can be proved that rests on one of them. -/

namespace Sys2Proof.Config

/-- Requests the request queue holds (R157). -/
def requestCapacity : Nat := 4

/-- Frames the return queue holds (R158). -/
def returnCapacity : Nat := 32

/-- Time without a good frame that takes a console or extension link down, in ms (R153, R159). -/
def linkTime : Nat := 60

/-- Bad frames in a row that take the console link down (R153). -/
def badRunLimit : Nat := 8

/-- Good frames in a row that end training (R154). -/
def goodRunLimit : Nat := 3

/-- The chamber link timer in ms (R141). -/
def chamberLinkTime : Nat := 100

/-- The drain of a lowering in ms (R140). -/
def drainTime : Nat := 200

/-- The age in ms at which a DRIVE or CONTROL frame is sent again (R144). -/
def refreshAge : Nat := 18

/-- Entries of the pizzicato list (R50). -/
def pizzCapacity : Nat := 64

/-- Points of the tuning hold set (R58). -/
def tuningHoldCapacity : Nat := 4

/-- Points of a player's hold set (R111). -/
def playerHoldCapacity : Nat := 8

/-- Entries of a chamber's cipher list (R147). -/
def cipherCapacity : Nat := 32

/-- Stops with mapping that one key row may carry (R31). -/
def rowStopLimit : Nat := 64

/-- Silence of the return line before an IDLE frame, in ms (R158). -/
def silenceTime : Nat := 10

/-- Half a period of the blink clock in ms (R168). -/
def blinkHalf : Nat := 250

/-- How long a FOLLOW lamp of an event item stays lit, in ms (R168). -/
def stretchTime : Nat := 100

/-- DESIGN CHOICE (log 12), safe: the value bytes of an absent optional field, which R174 says are sent and
ignored, are not stated. One free byte for each reply and each place in it. -/
opaque absentByte : Nat → Nat → BitVec 8

/-- DESIGN CHOICE (log 13), safe: R172 gives a payload one length byte, and a PIZZ read can carry more than 255
bytes (R54, R176). What the length byte then reads is not stated. -/
opaque overlongLength : Nat → BitVec 8

/-- DESIGN CHOICE (log 11), safe: on a console link DOWN the Scan Image Unit's releases and the Trap Router's
report may come in either order (R91, R155). One free choice for each loss. -/
opaque routerTakesLossFirst : Nat → Bool

end Sys2Proof.Config
end

