-- ==== Sys2Proof/Machine/Tables.lean ====
section
/-! DEFINITION. The indexed table that holds every list of records in the machine, and the records the chapters
describe, each with its value after reset. -/

namespace Sys2Proof.Machine

/-! ### The indexed table (log 31) -/

/-- Records by index. An index that is not listed holds the table's reset record. -/
structure Table (α : Type) where
  entries : List (Nat × α)
  deriving DecidableEq, Repr

/-- The record listed for an index, or the reset record. -/
def lookupEntry {α : Type} (reset : α) (k : Nat) : List (Nat × α) → α
  | [] => reset
  | (j, v) :: rest => if j = k then v else lookupEntry reset k rest

/-- List a record at its place among rising indices. -/
def insertEntry {α : Type} (k : Nat) (v : α) : List (Nat × α) → List (Nat × α)
  | [] => [(k, v)]
  | (j, w) :: rest =>
    if k < j then (k, v) :: (j, w) :: rest
    else if k = j then (k, v) :: rest
    else (j, w) :: insertEntry k v rest

/-- A table with nothing listed: every index holds the reset record. -/
def Table.empty {α : Type} : Table α := ⟨[]⟩

/-- The record at an index. -/
def Table.get {α : Type} (t : Table α) (reset : α) (k : Nat) : α := lookupEntry reset k t.entries

/-- Write the record at an index, keeping the canonical form: the reset record is never listed. -/
def Table.put {α : Type} [DecidableEq α] (t : Table α) (reset : α) (k : Nat) (v : α) : Table α :=
  if v = reset then ⟨t.entries.filter (fun e => e.1 ≠ k)⟩ else ⟨insertEntry k v t.entries⟩

/-- Indices rise. -/
def indicesRise {α : Type} : List (Nat × α) → Bool
  | (j, _) :: (k, w) :: rest => decide (j < k) && indicesRise ((k, w) :: rest)
  | _ => true

/-- The canonical form: rising indices, and no entry equal to the reset record. -/
def Table.wf {α : Type} [DecidableEq α] (t : Table α) (reset : α) : Bool :=
  indicesRise t.entries && t.entries.all (fun e => decide (e.2 ≠ reset))

/-- The indices listed. -/
def Table.indices {α : Type} (t : Table α) : List Nat := t.entries.map (·.1)

/-- Every listed record changed by one function. -/
def Table.mapListed {α : Type} (f : α → α) (t : Table α) : Table α := ⟨t.entries.map (fun e => (e.1, f e.2))⟩

/-! ### Points -/

/-- "Chamber c point p". -/
structure Point where
  chamber : Nat
  point : Nat
  deriving DecidableEq, Repr

/-- The index of a point in a table of all 4 x 1024 points. -/
def Point.index (p : Point) : Nat := 1024 * p.chamber + p.point

/-- The point at an index. -/
def pointAt (k : Nat) : Point := ⟨k / 1024, k % 1024⟩

/-! ### Rows (chapter 1) -/

/-- The three kinds of row (R1). -/
inductive RowKind where
  | key
  | stop
  | input
  deriving DecidableEq, Repr

/-- What the Scan Image Unit holds for a row (R2). Stop rows use no lockout (R10). -/
structure Row where
  held : Image
  candidate : Option Image
  count : Nat
  lockout : Image
  deriving DecidableEq, Repr

/-- R15: an empty row. -/
def emptyRow : Row := ⟨0, none, 0, 0⟩

/-- The SCAN record of a key row (R3). -/
structure KeySetting where
  keyCount : Nat
  confirm : Nat
  deriving DecidableEq, Repr

/-- R3: key count 0, confirm count 1. -/
def resetKeySetting : KeySetting := ⟨0, 1⟩

/-! ### Ranks and stops (chapter 2) -/

inductive RankKind where
  | none
  | pipe
  | struck
  deriving DecidableEq, Repr

/-- R17: the ten fields of a rank. -/
structure RankRecord where
  kind : RankKind
  chamber : Nat
  base : Nat
  lowest : Int
  noteCount : Nat
  priority : Nat
  strikeLength : Nat
  period : Nat
  strikeTime : Nat
  cipherLimit : Nat
  deriving DecidableEq, Repr

/-- R20. -/
def resetRank : RankRecord := ⟨.none, 0, 0, 0, 1, 0, 20, 100, 50, 0⟩

inductive StopKind where
  | silent
  | tonal
  | struck
  | reiterate
  | tremulant
  | routeMask
  deriving DecidableEq, Repr

inductive Break where
  | silent
  | fold
  deriving DecidableEq, Repr

/-- R24: the ten fields of a stop. -/
structure StopRecord where
  kind : StopKind
  row : Nat
  rank : Nat
  offset : Int
  lowBreak : Break
  highBreak : Break
  borrow : Option Nat
  pizz : Option Nat
  tremulant : Nat
  group : Nat
  deriving DecidableEq, Repr

/-- R27. -/
def resetStop : StopRecord := ⟨.silent, 0, 0, 0, .silent, .silent, none, none, 0, 0⟩

/-! ### Claims and tuning (chapter 3) -/

/-- R50: an entry of the pizzicato list; SPENT when `spent`. -/
structure PizzEntry where
  row : Nat
  key : Nat
  stop : Nat
  target : Point
  remaining : Nat
  spent : Bool
  deriving DecidableEq, Repr

/-- R55: a tuning selection. -/
structure TuningSelection where
  rank : Nat
  row : Nat
  offset : Int
  deriving DecidableEq, Repr

/-! ### Pool (chapter 4) -/

/-- R71: what a generator serves. -/
inductive Client where
  | struck (p : Point)
  | tremulant (t : Nat)
  deriving DecidableEq, Repr

/-- R71: the fields of a SERVING generator; `level` is true for on. -/
structure Service where
  client : Client
  counter : Nat
  level : Bool
  period : Nat
  onValue : Nat
  deriving DecidableEq, Repr

/-- R74. -/
structure TremulantRecord where
  chamber : Nat
  point : Nat
  period : Nat
  onTime : Nat
  deriving DecidableEq, Repr

/-- R74. -/
def resetTremulant : TremulantRecord := ⟨0, 0, 400, 200⟩

/-! ### Routes (chapter 5) -/

inductive RouteTarget where
  | none
  | strike
  | hold
  | roll
  | sequence
  | releaseAll
  deriving DecidableEq, Repr

inductive Trigger where
  | edge
  | level
  | split
  deriving DecidableEq, Repr

inductive HoldKind where
  | hold
  | roll
  deriving DecidableEq, Repr

/-- R88: fields 1 to 15. `inverted` is polarity INVERTED, `masked` is mask MASKED. -/
structure RouteFields where
  target : RouteTarget
  trigger : Trigger
  inverted : Bool
  masked : Bool
  defer : Bool
  group : Nat
  rank : Nat
  note : Int
  sequences : List Nat
  tapRank : Nat
  tapNote : Int
  holdKind : HoldKind
  holdRank : Nat
  holdNote : Int
  splitTime : Nat
  deriving DecidableEq, Repr

inductive RouteState where
  | idle
  | pending
  | measuring
  | inService
  deriving DecidableEq, Repr

/-- R88: a route entry; `active` is input level ACTIVE, `timer` the split timer. -/
structure RouteEntry where
  fields : RouteFields
  state : RouteState
  active : Bool
  timer : Option Nat
  deriving DecidableEq, Repr

/-- R88: power-on values. -/
def resetRouteFields : RouteFields :=
  ⟨.none, .edge, false, true, false, 0, 0, 0, [], 0, 0, .hold, 0, 0, 500⟩

/-- R88: power-on values. -/
def resetRoute : RouteEntry := ⟨resetRouteFields, .idle, false, none⟩

/-! ### Sequences (chapter 6) -/

inductive ActionKind where
  | strike
  | holdOn
  | holdOff
  deriving DecidableEq, Repr

/-- R107: an action of a step. -/
structure Action where
  kind : ActionKind
  rank : Nat
  note : Int
  deriving DecidableEq, Repr

inductive StepKind where
  | timed
  | final
  deriving DecidableEq, Repr

/-- R107: a step record; `final` is END. -/
structure StepRecord where
  kind : StepKind
  duration : Nat
  actions : List Action
  deriving DecidableEq, Repr

/-- R107: power-on values. -/
def resetStep : StepRecord := ⟨.final, 1, []⟩

/-- R109: a directory entry. -/
structure SeqEntry where
  first : Option Nat
  loop : Bool
  deriving DecidableEq, Repr

/-- R109: power-on values. -/
def resetSeq : SeqEntry := ⟨none, false⟩

/-- R111: a player that is not IDLE: RUNNING, or FINISHING when `finishing`; `level` is origin LEVEL. -/
structure Run where
  finishing : Bool
  sequence : Nat
  level : Bool
  input : Nat
  step : Nat
  timer : Nat
  holds : List Point
  deriving DecidableEq, Repr

/-! ### Expression (chapter 7) -/

/-- R123: the six written fields of a channel. -/
structure CurveRecord where
  shoe : Option Nat
  stageCount : Nat
  hysteresis : Nat
  slew : Nat
  base : Nat
  curve : List (Nat × Nat)
  deriving DecidableEq, Repr

/-- R121. -/
def resetCurve : CurveRecord := ⟨none, 8, 0, 50, 0, [(0, 0), (1023, 1000)]⟩

/-- R121: a channel. -/
structure Channel where
  record : CurveRecord
  stage : Nat
  goal : Nat
  timer : Option Nat
  deriving DecidableEq, Repr

/-- R121. -/
def resetChannel : Channel := ⟨resetCurve, 0, 0, none⟩

/-! ### Chambers (chapter 8) -/

/-- R140: the phases of a lowering. -/
inductive LowerPhase where
  | clearing
  | draining
  | releasing
  deriving DecidableEq, Repr

/-- R134: the chamber state. -/
inductive ChamberState where
  | dark
  | blower
  | settle
  | enabled
  | lowering (phase : LowerPhase)
  | fault
  deriving DecidableEq, Repr

/-- R144: what the controller holds for a group of 64 points. -/
structure Group where
  driven : Image
  age : Nat
  forced : Bool
  deriving DecidableEq, Repr

/-- R145: driven image off, age 0, forced. -/
def resetGroup : Group := ⟨0, 0, true⟩

/-- R144: what the chamber link's transmitter is sending, with its content. -/
inductive Transmission where
  | free
  | drive (group : Nat) (image : Image)
  | control (blower supply : Bool)
  deriving DecidableEq, Repr

/-- R147: an entry of a cipher list. -/
structure CipherEntry where
  point : Nat
  rank : Nat
  count : Nat
  deriving DecidableEq, Repr

/-- The state of one Chamber Controller (R134, R135, R141, R144, R146, R147). Timers are in ms. -/
structure Chamber where
  state : ChamberState
  blower : Bool
  supply : Bool
  windTimer : Option Nat
  settleTimer : Option Nat
  drainTimer : Option Nat
  windTimeout : Nat
  settle : Nat
  present : Bool
  linkTimer : Option Nat
  windReady : Bool
  supplyOk : Bool
  boards : BitVec 16
  groups : Table Group
  lastGroup : Nat
  controlAge : Nat
  controlDue : Bool
  tx : Transmission
  guards : Table Bool
  onTimers : Table (Option Nat)
  ciphers : List CipherEntry
  deriving DecidableEq, Repr

/-- R134, R135, R141, R145, R146: power-on values. The age of the CONTROL frame is DESIGN CHOICE 0 (log 15, unsafe). -/
def resetChamber : Chamber where
  state := .dark
  blower := false
  supply := false
  windTimer := none
  settleTimer := none
  drainTimer := none
  windTimeout := 15
  settle := 300
  present := false
  linkTimer := some Config.chamberLinkTime
  windReady := false
  supplyOk := false
  boards := 0
  groups := .empty
  lastGroup := 15
  controlAge := 0
  controlDue := true
  tx := .free
  guards := .empty
  onTimers := .empty
  ciphers := []

/-! ### The console link (chapter 9) -/

inductive LinkState where
  | down
  | training
  | up
  deriving DecidableEq, Repr

/-- R157: a request held whole, with its tag. -/
structure Request where
  tag : Byte
  code : Byte
  fields : Bytes
  deriving DecidableEq, Repr

/-- R158: a frame of the return queue: the relay's own, of a type and payload, or one from below, byte for byte. -/
inductive UpFrame where
  | own (type : Byte) (payload : Bytes)
  | forwarded (bytes : Bytes)
  deriving DecidableEq, Repr

/-- R158: the frame on the return line, with the attention flag as it stood when the frame began to be sent. -/
structure LineFrame where
  frame : UpFrame
  attention : Bool
  deriving DecidableEq, Repr

/-! ### Modes and status (chapter 10) -/

inductive Mode where
  | config
  | play
  | tune
  deriving DecidableEq, Repr

/-- R165: the status items. -/
inductive StatusItem where
  | link
  | ext
  | mode
  | returnOverrun
  | state (c : Nat)
  | wind (c : Nat)
  | supply (c : Nat)
  | driverFault (c : Nat)
  | cipher
  | cipherOverflow
  | waiting
  | genSteal
  | pizzFull
  | seqNoPlayer
  | seqHoldFull
  deriving DecidableEq, Repr

inductive LampMode where
  | off
  | steady
  | blink
  | follow
  deriving DecidableEq, Repr

/-- R168: a LAMP record; `steady` is mode ON. -/
structure LampRecord where
  mode : LampMode
  item : StatusItem
  invert : Bool
  deriving DecidableEq, Repr

/-- R168: OFF, item 0 of group 0, invert no. -/
def resetLamp : LampRecord := ⟨.off, .link, false⟩

/-! ### Replies (R161) -/

/-- A reply code with what it carries (section 11.2). -/
inductive Reply where
  | done (data : Bytes)
  | busy
  | noSuchTable
  | badIndex
  | badRecord (field : Nat)
  | wrongMode
  | inconsistent (table index : Nat)
  | chamberBusy
  | unset
  deriving DecidableEq, Repr

end Sys2Proof.Machine
end

