-- ==== Sys2Proof/Machine/State.lean ====
section
/-! DEFINITION. The state of the relay, unit by unit (00 section 3), its value after power-on reset, and the reasons a
step could stop. -/

namespace Sys2Proof.Machine

/-- Console Port (R152, R157, R158). -/
structure Port where
  link : LinkState
  badRun : Nat
  goodRun : Nat
  timer : Option Nat
  requests : List Request
  returnQueue : List UpFrame
  line : Option LineFrame
  silence : Nat
  deriving DecidableEq, Repr

/-- Extension Port (R159). `sentDown` is the model's observation of the frames sent down (log 19). -/
structure Ext where
  up : Bool
  timer : Option Nat
  sentDown : List Bytes
  deriving DecidableEq, Repr

/-- Scan Image Unit (R2, R3). `releaseDue`: a route target has asked for a general release inside the command being
taken (R12, R96, log 17). -/
structure ScanUnit where
  keyRows : Table Row
  stopRows : Table Row
  inputRows : Table Row
  keySettings : Table KeySetting
  stopConfirm : Nat
  inputConfirm : Nat
  releaseDue : Bool
  deriving DecidableEq, Repr

/-- Unification Engine (R17, R24, R39, R55). -/
structure Engine where
  ranks : Table RankRecord
  stops : Table StopRecord
  active : Table (List Nat)
  tuning : Option TuningSelection
  deriving DecidableEq, Repr

/-- Claim Store (R47, R50, R58). -/
structure ClaimStore where
  counts : Table Nat
  pizz : List PizzEntry
  holds : List Point
  deriving DecidableEq, Repr

/-- Percussion and Generator Pool (R66, R70, R71, R74, R80). -/
structure Pool where
  strikes : Table (Option Nat)
  demand : Table Nat
  generators : Table (Option Service)
  tremulants : Table TremulantRecord
  tremDemand : Table Nat
  waiting : Table Bool
  deriving DecidableEq, Repr

/-- Trap Router (R88, R93). -/
structure Router where
  entries : Table RouteEntry
  maskDemand : Table Nat
  deriving DecidableEq, Repr

/-- Sequence Unit (R107, R109, R111). -/
structure Sequencer where
  memory : Table StepRecord
  directory : Table SeqEntry
  players : Table (Option Run)
  deriving DecidableEq, Repr

/-- Expression Unit (R121). -/
structure Expression where
  samples : Table Nat
  channels : Table Channel
  deriving DecidableEq, Repr

/-- Mode and Status (R163, R165, R167, R168). Flags, masks and stretches are indexed by the item's number. -/
structure Status where
  mode : Mode
  latched : Table Bool
  masked : Table Bool
  lamps : Table LampRecord
  stretch : Table (Option Nat)
  blinkOn : Bool
  blinkLeft : Nat
  strap : Fin 4
  heldNotice : Bool
  heldLamps : List (BitVec 16)
  deriving DecidableEq, Repr

/-- The relay. `pending` is the queue of commands waiting, first in, first out; `freeCount` is the model's own counter
of the free values used (log 28). -/
structure State where
  pending : List Instr
  port : Port
  ext : Ext
  scan : ScanUnit
  engine : Engine
  claims : ClaimStore
  pool : Pool
  router : Router
  sequencer : Sequencer
  expression : Expression
  chambers : Table Chamber
  status : Status
  freeCount : Nat
  deriving DecidableEq, Repr

/-- The spec names no event that stops the relay: a bad frame is discarded, a refused request is answered and a full
queue drops. There is no fault to raise. -/
inductive Fault where
  deriving DecidableEq, Repr

/-- The reasons a step gives no meaning. -/
inductive Refusal where
  /-- Raised only by an arm of `exec` that has no meaning yet; safe. No arm raises it. -/
  | notModelled (mnemonic : String)
  deriving DecidableEq, Repr

/-- What a command answers. -/
abbrev Answer := Host.Outcome State Fault Refusal

/-! ### After power-on reset -/

/-- R152, R157, R158. -/
def resetPort : Port := ⟨.down, 0, 0, none, [], [], none, 0⟩

/-- R159. -/
def resetExt : Ext := ⟨false, none, []⟩

/-- R3, R15. -/
def resetScan : ScanUnit := ⟨.empty, .empty, .empty, .empty, 2, 2, false⟩

/-- R20, R27, R39, R55. -/
def resetEngine : Engine := ⟨.empty, .empty, .empty, none⟩

/-- R65. -/
def resetClaims : ClaimStore := ⟨.empty, [], []⟩

/-- R87. -/
def resetPool : Pool := ⟨.empty, .empty, .empty, .empty, .empty, .empty⟩

/-- R106. -/
def resetRouter : Router := ⟨.empty, .empty⟩

/-- R120. -/
def resetSequencer : Sequencer := ⟨.empty, .empty, .empty⟩

/-- R132. -/
def resetExpression : Expression := ⟨.empty, .empty⟩

/-- R163, R165, R168. DESIGN CHOICE (unsafe): the strap inputs read 0 (log 1); the blink clock begins its on half
(log 14). -/
def resetStatus : Status :=
  ⟨.config, .empty, .empty, .empty, .empty, true, Config.blinkHalf, 0, false, []⟩

/-- The relay right after power-on reset, with no command waiting. -/
def State.reset : State where
  pending := []
  port := resetPort
  ext := resetExt
  scan := resetScan
  engine := resetEngine
  claims := resetClaims
  pool := resetPool
  router := resetRouter
  sequencer := resetSequencer
  expression := resetExpression
  chambers := .empty
  status := resetStatus
  freeCount := 0

/-! ### One unit replaced -/

def State.setPending (s : State) (x : List Instr) : State := { s with pending := x }
def State.setPort (s : State) (x : Port) : State := { s with port := x }
def State.setExt (s : State) (x : Ext) : State := { s with ext := x }
def State.setScan (s : State) (x : ScanUnit) : State := { s with scan := x }
def State.setEngine (s : State) (x : Engine) : State := { s with engine := x }
def State.setClaims (s : State) (x : ClaimStore) : State := { s with claims := x }
def State.setPool (s : State) (x : Pool) : State := { s with pool := x }
def State.setRouter (s : State) (x : Router) : State := { s with router := x }
def State.setSequencer (s : State) (x : Sequencer) : State := { s with sequencer := x }
def State.setExpression (s : State) (x : Expression) : State := { s with expression := x }
def State.setChambers (s : State) (x : Table Chamber) : State := { s with chambers := x }
def State.setStatus (s : State) (x : Status) : State := { s with status := x }
def State.setFreeCount (s : State) (x : Nat) : State := { s with freeCount := x }

end Sys2Proof.Machine
end

