-- ==== Sys2Proof/Machine/Access.lean ====
section
/-! DEFINITION. Reading and writing one record of one unit: the only places where a table of State is touched by
index. -/

namespace Sys2Proof.Machine

/-! ### Rows (R1, R2) -/

/-- The row of a kind and number. -/
def State.row (s : State) : RowKind → Nat → Row
  | .key, r => s.scan.keyRows.get emptyRow r
  | .stop, r => s.scan.stopRows.get emptyRow r
  | .input, r => s.scan.inputRows.get emptyRow r

/-- Write a row. -/
def State.setRow (s : State) (kind : RowKind) (r : Nat) (row : Row) : State :=
  match kind with
  | .key => s.setScan { s.scan with keyRows := s.scan.keyRows.put emptyRow r row }
  | .stop => s.setScan { s.scan with stopRows := s.scan.stopRows.put emptyRow r row }
  | .input => s.setScan { s.scan with inputRows := s.scan.inputRows.put emptyRow r row }

/-- The SCAN record of a key row (R3). -/
def State.keySetting (s : State) (r : Nat) : KeySetting := s.scan.keySettings.get resetKeySetting r

/-- Write the SCAN record of a key row. -/
def State.setKeySetting (s : State) (r : Nat) (x : KeySetting) : State :=
  s.setScan { s.scan with keySettings := s.scan.keySettings.put resetKeySetting r x }

/-- The rows of a kind (R1). -/
def rowCount : RowKind → Nat
  | .key => 9
  | .stop => 10
  | .input => 3

/-- The positions of an image that are down, ascending. -/
def positions (image : Image) : List Nat := (List.range 64).filter (fun p => image.getLsbD p)

/-- The image of the positions that satisfy a test. -/
def imageOf (f : Nat → Bool) : Image := BitVec.ofFnLE (fun i : Fin 64 => f i.val)

/-- The keys held on a key row, ascending. -/
def State.heldKeys (s : State) (r : Nat) : List Nat := positions (s.row .key r).held

/-- R10: the stop is drawn: its position is in its stop row's held image. -/
def State.drawn (s : State) (n : Nat) : Bool := (s.row .stop (n / 32)).held.getLsbD (n % 32)

/-- The drawn stops, in ascending stop number. -/
def State.drawnStops (s : State) : List Nat := (List.range 320).filter s.drawn

/-- R11: the contact of a route input is closed. -/
def State.contact (s : State) (i : Nat) : Bool := (s.row .input (i / 32)).held.getLsbD (i % 32)

/-! ### Unification Engine -/

/-- The rank record (R17). -/
def State.rank (s : State) (r : Nat) : RankRecord := s.engine.ranks.get resetRank r

/-- Write a rank record. -/
def State.setRank (s : State) (r : Nat) (x : RankRecord) : State :=
  s.setEngine { s.engine with ranks := s.engine.ranks.put resetRank r x }

/-- The stop record (R24). -/
def State.stop (s : State) (n : Nat) : StopRecord := s.engine.stops.get resetStop n

/-- Write a stop record. -/
def State.setStop (s : State) (n : Nat) (x : StopRecord) : State :=
  s.setEngine { s.engine with stops := s.engine.stops.put resetStop n x }

/-- The active stop list of a key row, oldest first (R39). -/
def State.active (s : State) (r : Nat) : List Nat := s.engine.active.get [] r

/-- Write an active stop list. -/
def State.setActive (s : State) (r : Nat) (x : List Nat) : State :=
  s.setEngine { s.engine with active := s.engine.active.put [] r x }

/-! ### Claim Store -/

/-- The claim count of a point (R47). -/
def State.claimCount (s : State) (p : Point) : Nat := s.claims.counts.get 0 p.index

/-- Write a claim count. -/
def State.setClaimCount (s : State) (p : Point) (n : Nat) : State :=
  s.setClaims { s.claims with counts := s.claims.counts.put 0 p.index n }

/-! ### Pool -/

/-- The strike timer of a point (R66). -/
def State.strikeTimer (s : State) (p : Point) : Option Nat := s.pool.strikes.get none p.index

/-- Write a strike timer. -/
def State.setStrikeTimer (s : State) (p : Point) (x : Option Nat) : State :=
  s.setPool { s.pool with strikes := s.pool.strikes.put none p.index x }

/-- The demand count of a struck point (R69). -/
def State.demandOf (s : State) (p : Point) : Nat := s.pool.demand.get 0 p.index

/-- Write a demand count. -/
def State.setDemand (s : State) (p : Point) (n : Nat) : State :=
  s.setPool { s.pool with demand := s.pool.demand.put 0 p.index n }

/-- A generator: none while IDLE (R71). -/
def State.generator (s : State) (g : Nat) : Option Service := s.pool.generators.get none g

/-- Write a generator. -/
def State.setGenerator (s : State) (g : Nat) (x : Option Service) : State :=
  s.setPool { s.pool with generators := s.pool.generators.put none g x }

/-- The tremulant record (R74). -/
def State.tremulant (s : State) (t : Nat) : TremulantRecord := s.pool.tremulants.get resetTremulant t

/-- Write a tremulant record. -/
def State.setTremulant (s : State) (t : Nat) (x : TremulantRecord) : State :=
  s.setPool { s.pool with tremulants := s.pool.tremulants.put resetTremulant t x }

/-- The demand count of a tremulant (R70). -/
def State.tremulantDemand (s : State) (t : Nat) : Nat := s.pool.tremDemand.get 0 t

/-- Write a tremulant's demand count. -/
def State.setTremulantDemand (s : State) (t : Nat) (n : Nat) : State :=
  s.setPool { s.pool with tremDemand := s.pool.tremDemand.put 0 t n }

/-- The point is in the waiting set (R80). -/
def State.isWaiting (s : State) (p : Point) : Bool := s.pool.waiting.get false p.index

/-- The current value of WAITING: the waiting set is non-empty (R80). -/
def State.waitingAny (s : State) : Bool := s.pool.waiting.entries.any (·.2)

/-! ### Trap Router -/

/-- The route entry of an input (R88). -/
def State.route (s : State) (i : Nat) : RouteEntry := s.router.entries.get resetRoute i

/-- Write a route entry. -/
def State.setRoute (s : State) (i : Nat) (x : RouteEntry) : State :=
  s.setRouter { s.router with entries := s.router.entries.put resetRoute i x }

/-- The mask demand of a route group (R93). -/
def State.maskDemand (s : State) (g : Nat) : Nat := s.router.maskDemand.get 0 g

/-- Write a mask demand. -/
def State.setMaskDemand (s : State) (g : Nat) (n : Nat) : State :=
  s.setRouter { s.router with maskDemand := s.router.maskDemand.put 0 g n }

/-! ### Sequence Unit -/

/-- A step record of sequence memory (R107). -/
def State.stepRecord (s : State) (i : Nat) : StepRecord := s.sequencer.memory.get resetStep i

/-- Write a step record. -/
def State.setStepRecord (s : State) (i : Nat) (x : StepRecord) : State :=
  s.setSequencer { s.sequencer with memory := s.sequencer.memory.put resetStep i x }

/-- A directory entry (R109). -/
def State.seqEntry (s : State) (q : Nat) : SeqEntry := s.sequencer.directory.get resetSeq q

/-- Write a directory entry. -/
def State.setSeqEntry (s : State) (q : Nat) (x : SeqEntry) : State :=
  s.setSequencer { s.sequencer with directory := s.sequencer.directory.put resetSeq q x }

/-- A player: none while IDLE (R111). -/
def State.player (s : State) (p : Nat) : Option Run := s.sequencer.players.get none p

/-- Write a player. -/
def State.setPlayer (s : State) (p : Nat) (x : Option Run) : State :=
  s.setSequencer { s.sequencer with players := s.sequencer.players.put none p x }

/-! ### Expression Unit -/

/-- The last sample of a shoe (R121). -/
def State.sample (s : State) (shoe : Nat) : Nat := s.expression.samples.get 0 shoe

/-- Write a last sample. -/
def State.setSample (s : State) (shoe : Nat) (x : Nat) : State :=
  s.setExpression { s.expression with samples := s.expression.samples.put 0 shoe x }

/-- An expression channel (R121). -/
def State.channel (s : State) (c : Nat) : Channel := s.expression.channels.get resetChannel c

/-- Write a channel. -/
def State.setChannel (s : State) (c : Nat) (x : Channel) : State :=
  s.setExpression { s.expression with channels := s.expression.channels.put resetChannel c x }

/-! ### Chamber Controllers -/

/-- A chamber (R134). -/
def State.chamber (s : State) (c : Nat) : Chamber := s.chambers.get resetChamber c

/-- Write a chamber. -/
def State.setChamber (s : State) (c : Nat) (x : Chamber) : State :=
  s.setChambers (s.chambers.put resetChamber c x)

/-- A group of a chamber (R144). -/
def Chamber.group (ch : Chamber) (g : Nat) : Group := ch.groups.get resetGroup g

/-- The chamber with a group written. -/
def Chamber.setGroup (ch : Chamber) (g : Nat) (x : Group) : Chamber :=
  { ch with groups := ch.groups.put resetGroup g x }

/-- The guard of a point of a chamber is set (R146). -/
def Chamber.guarded (ch : Chamber) (p : Nat) : Bool := ch.guards.get false p

/-- The on-timer of a point of a chamber (R146). -/
def Chamber.onTimer (ch : Chamber) (p : Nat) : Option Nat := ch.onTimers.get none p

/-- The chamber with the guard and the on-timer of a point written. -/
def Chamber.setGuard (ch : Chamber) (p : Nat) (guard : Bool) (timer : Option Nat) : Chamber :=
  { ch with guards := ch.guards.put false p guard, onTimers := ch.onTimers.put none p timer }

/-! ### Mode and Status -/

/-- The relay mode (R163). -/
def State.mode (s : State) : Mode := s.status.mode

/-- A LAMP record (R168). -/
def State.lamp (s : State) (n : Nat) : LampRecord := s.status.lamps.get resetLamp n

/-- Write a LAMP record. -/
def State.setLamp (s : State) (n : Nat) (x : LampRecord) : State :=
  s.setStatus { s.status with lamps := s.status.lamps.put resetLamp n x }

end Sys2Proof.Machine
end

