-- ==== Sys2Proof/Machine/Flags.lean ====
section
/-! DEFINITION. The status items, their latched and mask flags, attention and its NOTICE (R165 to R167), the lamps
(R168), and the return queue and return line that carry them (R158). -/

namespace Sys2Proof.Machine

/-! ### The items (R165) -/

/-- Group and number of an item. -/
def itemNumber : StatusItem → Nat × Nat
  | .link => (0, 0)
  | .ext => (0, 1)
  | .mode => (0, 2)
  | .returnOverrun => (0, 3)
  | .state c => (1, 4 * c)
  | .wind c => (1, 4 * c + 1)
  | .supply c => (1, 4 * c + 2)
  | .driverFault c => (1, 4 * c + 3)
  | .cipher => (2, 0)
  | .cipherOverflow => (2, 1)
  | .waiting => (2, 2)
  | .genSteal => (2, 3)
  | .pizzFull => (2, 4)
  | .seqNoPlayer => (3, 0)
  | .seqHoldFull => (3, 1)

/-- The items of a group in item order; none beyond group 3. -/
def groupItems : Nat → List StatusItem
  | 0 => [.link, .ext, .mode, .returnOverrun]
  | 1 => (List.range 4).flatMap (fun c => [.state c, .wind c, .supply c, .driverFault c])
  | 2 => [.cipher, .cipherOverflow, .waiting, .genSteal, .pizzFull]
  | 3 => [.seqNoPlayer, .seqHoldFull]
  | _ => []

/-- The item of a group and number, if there is one. -/
def itemAt (group no : Nat) : Option StatusItem := (groupItems group)[no]?

/-- All 27 items. -/
def allItems : List StatusItem := (List.range 4).flatMap groupItems

/-- The index of an item's flags. -/
def itemIndex (i : StatusItem) : Nat := 16 * (itemNumber i).1 + (itemNumber i).2

/-- The item has kind event; the others are state items. -/
def isEvent : StatusItem → Bool
  | .returnOverrun | .cipherOverflow | .genSteal | .pizzFull | .seqNoPlayer | .seqHoldFull => true
  | _ => false

/-- The status item of an event item. -/
def eventItem : EventItem → StatusItem
  | .returnOverrun => .returnOverrun
  | .cipherOverflow => .cipherOverflow
  | .genSteal => .genSteal
  | .pizzFull => .pizzFull
  | .seqNoPlayer => .seqNoPlayer
  | .seqHoldFull => .seqHoldFull

/-- The latched flag of an item. -/
def State.latched (s : State) (i : StatusItem) : Bool := s.status.latched.get false (itemIndex i)

/-- The mask flag of an item. -/
def State.maskedItem (s : State) (i : StatusItem) : Bool := s.status.masked.get false (itemIndex i)

/-- The stretch of an event item (R168, log 24). -/
def State.stretch (s : State) (i : StatusItem) : Option Nat := s.status.stretch.get none (itemIndex i)

/-- Write a latched flag. -/
def State.setLatched (s : State) (i : StatusItem) (b : Bool) : State :=
  s.setStatus { s.status with latched := s.status.latched.put false (itemIndex i) b }

/-- Write a mask flag. -/
def State.setMasked (s : State) (i : StatusItem) (b : Bool) : State :=
  s.setStatus { s.status with masked := s.status.masked.put false (itemIndex i) b }

/-- Write a stretch. -/
def State.setStretch (s : State) (i : StatusItem) (x : Option Nat) : State :=
  s.setStatus { s.status with stretch := s.status.stretch.put none (itemIndex i) x }

/-! ### Attention (R167) -/

/-- The item is latched and unmasked. -/
def State.raised (s : State) (i : StatusItem) : Bool := s.latched i && !s.maskedItem i

/-- R167: attention is true while any item is latched and unmasked. -/
def State.attention (s : State) : Bool := allItems.any s.raised

/-- The payload byte of a NOTICE: bit g while group g holds a latched unmasked flag (section 11.2). -/
def State.noticeGroups (s : State) : Byte :=
  byteOf ((List.range 4).foldr (fun g acc => ((groupItems g).any s.raised).toNat + 2 * acc) 0)

/-- The strap address as a byte. -/
def State.strapByte (s : State) : Byte := byteOf s.status.strap.val

/-- A NOTICE frame (section 11.2). -/
def State.noticeFrame (s : State) : UpFrame := .own 0x13#8 [s.strapByte, s.noticeGroups]

/-! ### The return line (R158) -/

/-- R157: the oldest request of the queue is being served. -/
def State.serving (s : State) : Bool := !s.port.requests.isEmpty

/-- R158: a free line takes the oldest frame of the queue, with the attention flag as it stands. -/
def startLine (s : State) : State :=
  match s.port.line, s.port.returnQueue with
  | none, f :: rest =>
    s.setPort { s.port with returnQueue := rest, line := some ⟨f, s.attention⟩ }
  | _, _ => s

/-- R165, R168: an item's flag is set, and the stretch of an event item starts again. -/
def setFlag (i : StatusItem) (s : State) : State :=
  let t := s.setLatched i true
  if isEvent i then t.setStretch i (some Config.stretchTime) else t

/-- R158: a frame is dropped and RETURN-OVERRUN is latched. A NOTICE this would cause is held while a request is being
served (R167); otherwise it is offered to the same full queue and dropped as well. -/
def overrun (s : State) : State :=
  let t := setFlag .returnOverrun s
  if t.attention && !s.attention && s.serving then
    t.setStatus { t.status with heldNotice := true }
  else t

/-- R158: a frame offered to the return queue. -/
def offer (f : UpFrame) (s : State) : State :=
  if s.port.returnQueue.length < Config.returnCapacity then
    startLine (s.setPort { s.port with returnQueue := s.port.returnQueue ++ [f] })
  else overrun s

/-- R167: what a change of flags or masks from `before` to `s` puts out: a NOTICE when attention has risen, held while a
request is being served. -/
def announce (before s : State) : State :=
  if s.attention && !before.attention then
    if s.serving then s.setStatus { s.status with heldNotice := true }
    else offer s.noticeFrame s
  else s

/-- R165: latch an item. -/
def latch (i : StatusItem) (s : State) : State := announce s (setFlag i s)

/-- R166: the latched flags of a group are cleared. A fall of attention queues no frame (R167). -/
def clearGroup (g : Nat) (s : State) : State := (groupItems g).foldl (fun t i => t.setLatched i false) s

/-! ### Current values (R165) -/

/-- The code of a chamber state; the phases of LOWERING are one state (R142, R176). -/
def stateCode : ChamberState → Nat
  | .dark => 0
  | .blower => 1
  | .settle => 2
  | .enabled => 3
  | .lowering _ => 4
  | .fault => 5

/-- R147: the current value of CIPHER. -/
def State.cipherAny (s : State) : Bool := (List.range 4).any (fun c => !(s.chamber c).ciphers.isEmpty)

/-- R165: a FOLLOW lamp of the item is lit. -/
def State.itemLit (s : State) (i : StatusItem) : Bool :=
  match i with
  | .link => decide (s.port.link = .up)
  | .ext => s.ext.up
  | .mode => decide (s.mode = .play)
  | .state c => decide ((s.chamber c).state = .enabled)
  | .wind c => (s.chamber c).windReady
  | .supply c => (s.chamber c).supplyOk
  | .driverFault c => decide ((s.chamber c).boards ≠ 0)
  | .cipher => s.cipherAny
  | .waiting => s.waitingAny
  | .returnOverrun | .cipherOverflow | .genSteal | .pizzFull | .seqNoPlayer | .seqHoldFull =>
    (s.stretch i).isSome

/-- The code of LINK (R176). -/
def linkCode : LinkState → Nat
  | .down => 0
  | .training => 1
  | .up => 2

/-- The code of MODE (R176). -/
def modeCode : Mode → Nat
  | .config => 0
  | .play => 1
  | .tune => 2

/-- R176: the current value of a state item as it is sent; nothing for an event item. -/
def State.itemValue (s : State) (i : StatusItem) : Bytes :=
  match i with
  | .link => [byteOf (linkCode s.port.link)]
  | .ext => [byteOf (!s.ext.up).toNat]
  | .mode => [byteOf (modeCode s.mode)]
  | .state c => [byteOf (stateCode (s.chamber c).state)]
  | .wind c => [byteOf (s.chamber c).windReady.toNat]
  | .supply c => [byteOf (s.chamber c).supplyOk.toNat]
  | .driverFault c => imageBytes 2 (s.chamber c).boards.toNat
  | .cipher => [byteOf s.cipherAny.toNat]
  | .waiting => [byteOf s.waitingAny.toNat]
  | .returnOverrun | .cipherOverflow | .genSteal | .pizzFull | .seqNoPlayer | .seqHoldFull => []

/-- R166, R176: a group as STATUS-READ returns it. -/
def State.groupData (s : State) (g : Nat) : Bytes :=
  (groupItems g).flatMap (fun i => s.itemValue i ++ [byteOf (s.latched i).toNat])

/-! ### Lamps (R168) -/

/-- R168: the output of a lamp, true for lit. -/
def State.lampOutput (s : State) (n : Nat) : Bool :=
  let l := s.lamp n
  match l.mode with
  | .off => false
  | .steady => true
  | .blink => s.status.blinkOn
  | .follow => xor (s.itemLit l.item) l.invert

/-- The 16 outputs, lamp n at bit n. -/
def State.lampOutputs (s : State) : BitVec 16 :=
  BitVec.ofNat 16 ((List.range 16).foldr (fun n acc => (s.lampOutput n).toNat + 2 * acc) 0)

/-- A LAMP frame of given outputs (section 11.2). -/
def State.lampFrame (s : State) (outputs : BitVec 16) : UpFrame :=
  .own 0x14#8 (s.strapByte :: imageBytes 2 outputs.toNat)

/-- R168: a LAMP frame held until the REPLY of the request being served; it carries the outputs as they were when it
was caused. DESIGN CHOICE (log 10, unsafe). -/
def holdLamps (before s : State) : State :=
  if s.lampOutputs = before.lampOutputs then s
  else s.setStatus { s.status with heldLamps := s.status.heldLamps ++ [s.lampOutputs] }

/-- R168: the LAMP frame of a command that has changed a lamp's output, held while a request is being served. One
command is one event: DEDUCED (log 9, unsafe). -/
def announceLamps (before s : State) : State :=
  if s.lampOutputs = before.lampOutputs then s
  else if s.serving then holdLamps before s
  else offer (s.lampFrame s.lampOutputs) s

/-- R167, R168: the held NOTICE and then the held LAMP frames are queued. A NOTICE or LAMP frame that these cause is
offered to the full queue that caused it, and is dropped. -/
def releaseHeld (s : State) : State :=
  let lamps := s.status.heldLamps
  let t := if s.status.heldNotice then offer s.noticeFrame s else s
  let u := lamps.foldl (fun u outputs => offer (u.lampFrame outputs) u) t
  u.setStatus { u.status with heldNotice := false, heldLamps := [] }

/-! ### What leaves on the return line (section 11.1) -/

/-- The bytes of a frame on the return line: bit 7 of the type of the relay's own frame is the attention flag (R172); a
forwarded frame is unchanged. The length byte of a payload over 255 bytes is free (log 13). -/
def LineFrame.wire (l : LineFrame) : Bytes :=
  match l.frame with
  | .forwarded bytes => bytes
  | .own type payload =>
    let typeByte := byteOf (type.toNat + 128 * l.attention.toNat)
    let lengthByte :=
      if payload.length ≤ 255 then byteOf payload.length else Config.overlongLength payload.length
    let body := typeByte :: lengthByte :: payload
    body ++ crcBytes body

end Sys2Proof.Machine
end

