-- ==== Sys2Proof/Machine/Mapping.lean ====
section
/-! DEFINITION. Ranks, classes of points, and the key-to-point mapping (chapter 2). -/

namespace Sys2Proof.Machine

/-- R18: the highest note H of a rank's compass. -/
def RankRecord.highest (r : RankRecord) : Int := r.lowest + r.noteCount - 1

/-- R18: the note lies in the rank's compass. -/
def RankRecord.inCompass (r : RankRecord) (n : Int) : Bool := decide (r.lowest ≤ n) && decide (n ≤ r.highest)

/-- R18: the point of note N: base point + (N - L) of the rank's chamber. -/
def RankRecord.pointOf (r : RankRecord) (n : Int) : Point := ⟨r.chamber, ((r.base : Int) + (n - r.lowest)).toNat⟩

/-- R18: the rank, of kind PIPE or STRUCK, occupies the point. -/
def RankRecord.covers (r : RankRecord) (p : Point) : Bool :=
  decide (r.kind ≠ .none) && decide (r.chamber = p.chamber) && decide (r.base ≤ p.point) &&
    decide (p.point < r.base + r.noteCount)

/-- R23: the rank a point belongs to: the lowest-numbered PIPE or STRUCK rank that occupies it. -/
def State.rankOf (s : State) (p : Point) : Option Nat := (List.range 48).find? (fun r => (s.rank r).covers p)

/-- R23: a pipe point. -/
def State.isPipe (s : State) (p : Point) : Bool :=
  match s.rankOf p with
  | some r => decide ((s.rank r).kind = .pipe)
  | none => false

/-- R23: a struck point. -/
def State.isStruck (s : State) (p : Point) : Bool :=
  match s.rankOf p with
  | some r => decide ((s.rank r).kind = .struck)
  | none => false

/-- R22: the point of a rank note, from the rank's mapping fields as they stand. -/
def State.notePoint (s : State) (rank : Nat) (note : Int) : Point := (s.rank rank).pointOf note

/-- The fields of a stop that the mapping reads (R33). -/
structure MappingFields where
  rank : Nat
  offset : Int
  lowBreak : Break
  highBreak : Break
  borrow : Option Nat
  deriving DecidableEq, Repr

/-- The mapping fields of a stop (R33). -/
def StopRecord.mapping (x : StopRecord) : MappingFields := ⟨x.rank, x.offset, x.lowBreak, x.highBreak, x.borrow⟩

/-- R56: a tuning selection maps with both breaks SILENT and no borrow rank. -/
def TuningSelection.mapping (x : TuningSelection) : MappingFields := ⟨x.rank, x.offset, .silent, .silent, none⟩

/-- R36: 12 added repeatedly until the note is at or above L: the first such note is L + (n - L) mod 12. -/
def foldUp (low n : Int) : Int := low + (n - low) % 12

/-- R37: 12 subtracted repeatedly until the note is at or below H: the first such note is H - (H - n) mod 12. -/
def foldDown (high n : Int) : Int := high - (high - n) % 12

/-- R34: the point of a note in the compass; silent outside it. -/
def RankRecord.noteOrSilent (r : RankRecord) (n : Int) : Option Point :=
  if r.inCompass n then some (r.pointOf n) else none

/-- R35: the target below the compass under a borrow rank, from that rank alone. -/
def borrowTarget (r : RankRecord) (n : Int) : Option Point :=
  if r.kind = .none then none else r.noteOrSilent n

/-- R33 to R37: the target of a note under a rank, its breaks and its borrow rank. -/
def noteTarget (r : RankRecord) (borrow : Option RankRecord) (low high : Break) (n : Int) : Option Point :=
  if r.kind = .none then none
  else if r.inCompass n then some (r.pointOf n)
  else if n < r.lowest then
    match borrow, low with
    | some b, _ => borrowTarget b n
    | none, .fold => r.noteOrSilent (foldUp r.lowest n)
    | none, .silent => none
  else
    match high with
    | .fold => r.noteOrSilent (foldDown r.highest n)
    | .silent => none

/-- R33: the target of key `k`: the note is k plus the offset. -/
def State.target (s : State) (m : MappingFields) (k : Nat) : Option Point :=
  noteTarget (s.rank m.rank) (m.borrow.map s.rank) m.lowBreak m.highBreak ((k : Int) + m.offset)

end Sys2Proof.Machine
end

