-- ==== Sys2Proof/Machine/Ops.lean ====
section
/-! DEFINITION. Operations shared by many commands: claims and their reports (chapter 3), the cipher guard (chapter 8),
loops over numbered units. -/

namespace Sys2Proof.Machine

/-- One operation for each of a list, in its order. -/
def forEach {α : Type} (xs : List α) (f : α → State → State) (s : State) : State := xs.foldl (fun t x => f x t) s

/-! ### The cipher guard (R146 to R149) -/

/-- R147: a change of cipher lists latches CIPHER when its current value has changed. -/
def latchCipherChange (before s : State) : State :=
  if s.cipherAny = before.cipherAny then s else latch .cipher s

/-- R146, R148: guard clear, on-timer stopped, and the entry, if any, out of the cipher list. -/
def clearGuard (p : Point) (s : State) : State :=
  let ch := s.chamber p.chamber
  let ch' := { ch.setGuard p.point false none with ciphers := ch.ciphers.filter (fun e => e.point ≠ p.point) }
  latchCipherChange s (s.setChamber p.chamber ch')

/-- R146: start a pipe point's on-timer in PLAY with its rank's cipher limit, in seconds, as it stands; a limit of 0
starts none. -/
def startOnTimer (p : Point) (s : State) : State :=
  if s.mode = .play ∧ s.isPipe p then
    match s.rankOf p with
    | some r =>
      if 0 < (s.rank r).cipherLimit then
        let ch := s.chamber p.chamber
        s.setChamber p.chamber (ch.setGuard p.point (ch.guarded p.point) (some (1000 * (s.rank r).cipherLimit)))
      else s
    | none => s
  else s

/-! ### Claims (R47, R48) -/

/-- R47, R48: one claim added; a rise (0 to 1) is reported to the Chamber Controller (R146). -/
def addClaim (p : Point) (s : State) : State :=
  let n := s.claimCount p
  let t := s.setClaimCount p (n + 1)
  if n = 0 then startOnTimer p t else t

/-- R47, R48: one claim removed; a fall (1 to 0) is reported to the Chamber Controller (R146). A removal answers an
earlier add, so a count of 0 has none to answer and stays (log 18). -/
def removeClaim (p : Point) (s : State) : State :=
  let n := s.claimCount p
  let t := s.setClaimCount p (n - 1)
  if n = 1 then clearGuard p t else t

end Sys2Proof.Machine
end

