-- ==== Sys2Proof/Machine/Expression.lean ====
section
/-! DEFINITION. Expression channels: levels, goals and slew (chapter 7). -/

namespace Sys2Proof.Machine

/-- R121: the working sample of a channel. -/
def State.workingSample (s : State) (c : Nat) : Nat :=
  match (s.channel c).record.shoe with
  | some shoe => s.sample shoe
  | none => 0

/-- R125, case 3: the level inside a segment; the quotient is truncated toward zero. -/
def segmentLevel (a b : Nat × Nat) (x : Nat) : Int :=
  (a.2 : Int) + (((x : Int) - a.1) * ((b.2 : Int) - a.2)).tdiv ((b.1 : Int) - a.1)

/-- R125, cases 2 and 3: the level of a sample at or past the first breakpoint of the rest of a curve. -/
def levelFrom (x : Nat) : Nat × Nat → List (Nat × Nat) → Int
  | a, [] => a.2
  | a, b :: rest => if x < b.1 then segmentLevel a b x else levelFrom x b rest

/-- R125: the level of a sample, in per mille open. A curve has at least two breakpoints (R123). -/
def curveLevel (curve : List (Nat × Nat)) (x : Nat) : Int :=
  match curve with
  | [] => 0
  | a :: rest => if x ≤ a.1 then a.2 else levelFrom x a rest

/-- R126, step 1: the raising threshold. -/
def raisingThreshold (n h : Nat) (y : Int) : Nat := ((n * max (y - h) 0 + 500) / 1000).toNat

/-- R126, step 2: the lowering threshold. -/
def loweringThreshold (n h : Nat) (y : Int) : Nat := ((n * min (y + h) 1000 + 500) / 1000).toNat

/-- R126, step 3: the goal against the current stage. -/
def goalOf (n h : Nat) (y : Int) (stage : Nat) : Nat :=
  if stage < raisingThreshold n h y then raisingThreshold n h y
  else if loweringThreshold n h y < stage then loweringThreshold n h y
  else stage

/-- R127: one stage toward the goal. -/
def stageToward (stage goal : Nat) : Nat :=
  if stage < goal then stage + 1 else if goal < stage then stage - 1 else stage

/-- R127: a move toward the goal, the timer starting with the slew as it stands; no move when the goal is reached. -/
def moveChannel (ch : Channel) : Channel :=
  if ch.goal = ch.stage then { ch with timer := none }
  else { ch with stage := stageToward ch.stage ch.goal, timer := some ch.record.slew }

/-- R127: a channel acts on a new goal: an idle one moves at once, a slewing one holds the goal. -/
def actOnGoal (ch : Channel) : Channel := if ch.timer.isNone then moveChannel ch else ch

/-- R126: the goal of a channel recomputed from its working sample. -/
def recomputeGoal (c : Nat) (s : State) : State :=
  let ch := s.channel c
  let y := curveLevel ch.record.curve (s.workingSample c)
  let goal := goalOf ch.record.stageCount ch.record.hysteresis y ch.stage
  s.setChannel c (actOnGoal { ch with goal := goal })

/-- The four channels and chambers, ascending. -/
def channels : List Nat := List.range 4

/-- R122: a sample taken: clamped to 1023, stored, and every channel that follows the shoe acts on it. A shoe above 3 is
ignored. -/
def takeSample (shoe sample : Nat) (s : State) : State :=
  if shoe ≤ 3 then
    let t := s.setSample shoe (min sample 1023)
    forEach (channels.filter (fun c => decide ((t.channel c).record.shoe = some shoe))) recomputeGoal t
  else s

/-- R124: a taken CURVE write acts on its channel. -/
def writeCurve (c : Nat) (x : CurveRecord) (s : State) : State :=
  let ch := s.channel c
  recomputeGoal c (s.setChannel c { ch with record := x, stage := min ch.stage x.stageCount })

/-- R127: the slew timer of a channel expires; an IDLE timer has no expiry. -/
def slewExpires (c : Nat) (s : State) : State :=
  let ch := s.channel c
  if ch.timer.isNone then s else s.setChannel c (moveChannel ch)

/-- R129: the stage index of a point of chamber `c`, if it is a stage point. -/
def State.stageIndex (s : State) (p : Point) : Option Nat :=
  let r := (s.channel p.chamber).record
  if r.base ≤ p.point ∧ p.point < r.base + r.stageCount then some (p.point - r.base) else none

/-- R129: the stage value of a stage index. -/
def State.stageValue (s : State) (c i : Nat) : Bool := decide (i < (s.channel c).stage)

end Sys2Proof.Machine
end

