-- ==== Sys2Proof/Machine/Pool.lean ====
section
/-! DEFINITION. Strikes, demand, generators and the waiting set (chapter 4). -/

namespace Sys2Proof.Machine

/-! ### Reading the pool -/

/-- R71: the generator that serves a client, if any; no client has two. -/
def State.servedBy (s : State) (c : Client) : Option Nat :=
  (List.range 32).find? (fun g => match s.generator g with
    | some v => decide (v.client = c)
    | none => false)

/-- The level of a generator; off while IDLE (R71). -/
def State.level (s : State) (g : Nat) : Bool :=
  match s.generator g with
  | some v => v.level
  | none => false

/-- R68: the driven value of a struck point. -/
def State.drivenValue (s : State) (p : Point) : Bool :=
  match s.servedBy (.struck p) with
  | some g => s.level g
  | none => (s.strikeTimer p).isSome

/-- R75: the value of a tremulant: its generator's level, off while it is not served. -/
def State.tremulantValue (s : State) (t : Nat) : Bool :=
  match s.servedBy (.tremulant t) with
  | some g => s.level g
  | none => false

/-- R21: the priority of a point's rank as it stands; 0 for a point of no rank, which no struck client is. -/
def State.priority (s : State) (p : Point) : Nat :=
  match s.rankOf p with
  | some r => (s.rank r).priority
  | none => 0

/-- The lowest-numbered IDLE generator. -/
def State.idleGenerator (s : State) : Option Nat := (List.range 32).find? (fun g => (s.generator g).isNone)

/-- The struck clients served, with their generators, in ascending generator number. -/
def State.struckClients (s : State) : List (Nat × Point) :=
  (List.range 32).filterMap (fun g => match s.generator g with
    | some ⟨.struck p, _, _, _, _⟩ => some (g, p)
    | _ => none)

/-- The first of a list with the least value; ties go to the earlier one. -/
def leastBy {α : Type} (value : α → Nat) : List α → Option α
  | [] => none
  | x :: rest =>
    match leastBy value rest with
    | none => some x
    | some y => if value x ≤ value y then some x else some y

/-- The first of a list with the greatest value; ties go to the earlier one. -/
def greatestBy {α : Type} (value : α → Nat) : List α → Option α
  | [] => none
  | x :: rest =>
    match greatestBy value rest with
    | none => some x
    | some y => if value y ≤ value x then some x else some y

/-- R76, R77: the struck client of lowest priority among those a test admits; ties go to the lowest generator. -/
def State.victim (s : State) (admits : Point → Bool) : Option (Nat × Point) :=
  leastBy (fun c => s.priority c.2) (s.struckClients.filter (fun c => admits c.2))

/-- R79: the waiting point of highest priority; ties go to the lowest chamber, then the lowest point. -/
def State.firstWaiting (s : State) : Option Point :=
  greatestBy s.priority ((s.pool.waiting.entries.filter (·.2)).map (fun e => pointAt e.1))

/-! ### Strikes (R67) -/

/-- R67: a strike on a struck point: absorbed while the point is served or its timer runs; otherwise the timer starts
with the rank's strike length as it stands. Only a struck point can be struck (R38, R105, R110, log 25). -/
def strike (p : Point) (s : State) : State :=
  match s.rankOf p with
  | none => s
  | some r =>
    if (s.rank r).kind = .struck then
      if (s.servedBy (.struck p)).isSome || (s.strikeTimer p).isSome then s
      else s.setStrikeTimer p (some (s.rank r).strikeLength)
    else s

/-! ### Grants (R73) -/

/-- R72, R73: P and A of a client's table as they stand. -/
def State.clientTimes (s : State) : Client → Nat × Nat
  | .struck p =>
    match s.rankOf p with
    | some r => ((s.rank r).period, (s.rank r).strikeTime)
    | none => (resetRank.period, resetRank.strikeTime)
  | .tremulant t => ((s.tremulant t).period, (s.tremulant t).onTime)

/-- R73: hand a generator to a client: counter 0, level on, P and A loaded; a running strike timer is cancelled. -/
def grant (g : Nat) (c : Client) (s : State) : State :=
  let times := s.clientTimes c
  let t := s.setGenerator g (some ⟨c, 0, true, times.1, times.2⟩)
  match c with
  | .struck p => t.setStrikeTimer p none
  | .tremulant _ => t

/-- R80: a point joins or leaves the waiting set; WAITING is latched when the set turns empty or non-empty. -/
def setWaiting (p : Point) (b : Bool) (s : State) : State :=
  let t := s.setPool { s.pool with waiting := s.pool.waiting.put false p.index b }
  if t.waitingAny = s.waitingAny then t else latch .waiting t

/-- R76, R77: the victim becomes WAITING, GEN-STEAL is latched, and the generator is granted to the client. -/
def steal (victim : Nat × Point) (c : Client) (s : State) : State :=
  grant victim.1 c (latch .genSteal (setWaiting victim.2 true s))

/-- R78, R79: a generator that becomes free is granted to the first waiting point, or becomes IDLE. -/
def freeGenerator (g : Nat) (s : State) : State :=
  match s.firstWaiting with
  | some p => grant g (.struck p) (setWaiting p false s)
  | none => s.setGenerator g none

/-! ### Demand (R69, R70) -/

/-- R76: the rise of a struck point's demand: an IDLE generator, a steal from a lower priority, or waiting with one
strike. -/
def demandRise (p : Point) (s : State) : State :=
  match s.idleGenerator with
  | some g => grant g (.struck p) s
  | none =>
    match s.victim (fun q => decide (s.priority q < s.priority p)) with
    | some v => steal v (.struck p) s
    | none => strike p (setWaiting p true s)

/-- R77: the rise of a tremulant's demand: an IDLE generator, or a steal with no comparison of priority. -/
def tremulantRise (t : Nat) (s : State) : State :=
  match s.idleGenerator with
  | some g => grant g (.tremulant t) s
  | none =>
    match s.victim (fun _ => true) with
    | some v => steal v (.tremulant t) s
    | none => s

/-- R78: the fall of a struck point's demand. -/
def demandFall (p : Point) (s : State) : State :=
  match s.servedBy (.struck p) with
  | some g => freeGenerator g s
  | none => setWaiting p false s

/-- R78: the fall of a tremulant's demand. -/
def tremulantFall (t : Nat) (s : State) : State :=
  match s.servedBy (.tremulant t) with
  | some g => freeGenerator g s
  | none => s

/-- R69: a struck point's demand raised by 1. -/
def raiseDemand (p : Point) (s : State) : State :=
  let n := s.demandOf p
  let t := s.setDemand p (n + 1)
  if n = 0 then demandRise p t else t

/-- R69: a struck point's demand lowered by 1. -/
def lowerDemand (p : Point) (s : State) : State :=
  let n := s.demandOf p
  let t := s.setDemand p (n - 1)
  if n = 1 then demandFall p t else t

/-- R70: a tremulant's demand raised by 1. -/
def raiseTremulant (t : Nat) (s : State) : State :=
  let n := s.tremulantDemand t
  let u := s.setTremulantDemand t (n + 1)
  if n = 0 then tremulantRise t u else u

/-- R70: a tremulant's demand lowered by 1. -/
def lowerTremulant (t : Nat) (s : State) : State :=
  let n := s.tremulantDemand t
  let u := s.setTremulantDemand t (n - 1)
  if n = 1 then tremulantFall t u else u

/-- R84, R85: every strike timer becomes IDLE, with no expiry. -/
def cancelStrikes (s : State) : State := s.setPool { s.pool with strikes := .empty }

/-- R66: a written rank record takes the items of the points that leave the struck class with it. -/
def dropUnstruck (s : State) : State :=
  let keep (e : Nat) : Bool := s.isStruck (pointAt e)
  s.setPool { s.pool with
    strikes := ⟨s.pool.strikes.entries.filter (fun e => keep e.1)⟩
    demand := ⟨s.pool.demand.entries.filter (fun e => keep e.1)⟩
    waiting := ⟨s.pool.waiting.entries.filter (fun e => keep e.1)⟩ }

end Sys2Proof.Machine
end

