-- ==== Sys2Proof/Machine/Image.lean ====
section
/-! DEFINITION. The next image of a chamber and the chamber link's transmitter (R143 to R145). -/

namespace Sys2Proof.Machine

/-- The classes of point, by the rows of R143. -/
inductive PointClass where
  | pipe
  | struck
  | stage (index : Nat)
  | tremulant
  | other
  deriving DecidableEq, Repr

/-- The tremulant's output point is the point (R74). -/
def State.tremulantAt (s : State) (p : Point) (t : Nat) : Bool :=
  decide ((s.tremulant t).chamber = p.chamber) && decide ((s.tremulant t).point = p.point)

/-- R143: the class of a point: the first row that applies. -/
def State.pointClass (s : State) (p : Point) : PointClass :=
  if s.isPipe p then .pipe
  else if s.isStruck p then .struck
  else
    match s.stageIndex p with
    | some i => .stage i
    | none => if (List.range 8).any (s.tremulantAt p) then .tremulant else .other

/-- R143: the value of a point in an ENABLED chamber. -/
def State.pointValue (s : State) (p : Point) : Bool :=
  match s.pointClass p with
  | .pipe => decide (0 < s.claimCount p) && !(s.chamber p.chamber).guarded p.point
  | .struck => s.drivenValue p
  | .stage i => s.stageValue p.chamber i
  | .tremulant => (List.range 8).any (fun t => s.tremulantAt p t && s.tremulantValue t)
  | .other => false

/-- R143: a point of the next image; every point is off unless the chamber is ENABLED. -/
def State.nextValue (s : State) (p : Point) : Bool :=
  decide ((s.chamber p.chamber).state = .enabled) && s.pointValue p

/-- R144: the next image of group `g`: point 64g + i at position i. -/
def State.nextImage (s : State) (c g : Nat) : Image :=
  if (s.chamber c).state = .enabled then imageOf (fun i => s.pointValue ⟨c, 64 * g + i⟩) else 0

/-- R144: a group is pending while it is forced, of age 18 ms or more, or changed. -/
def State.groupPending (s : State) (c g : Nat) : Bool :=
  let x := (s.chamber c).group g
  x.forced || decide (Config.refreshAge ≤ x.age) || decide (s.nextImage c g ≠ x.driven)

/-- R144: the groups in the order of choice: from the group after the last group sent, wrapping from 15 to 0. -/
def groupOrder (last : Nat) : List Nat := (List.range 16).map (fun i => (last + 1 + i) % 16)

/-- R144: the first pending group in the order of choice. -/
def State.pendingGroup (s : State) (c : Nat) : Option Nat :=
  (groupOrder (s.chamber c).lastGroup).find? (s.groupPending c)

/-- R144: a CONTROL frame is due. -/
def Chamber.controlIsDue (ch : Chamber) : Bool := ch.controlDue || decide (Config.refreshAge ≤ ch.controlAge)

/-- R144: the CONTROL frame starts, with both lines as they stand. -/
def startControl (ch : Chamber) : Chamber :=
  { ch with tx := .control ch.blower ch.supply, controlAge := 0, controlDue := false }

/-- R144: the DRIVE frame of group `g` starts: its content becomes the driven image, its age is 0, its forced mark is
cleared, and it is the last group sent. -/
def startDrive (ch : Chamber) (g : Nat) (image : Image) : Chamber :=
  { ch.setGroup g ⟨image, 0, false⟩ with tx := .drive g image, lastGroup := g }

/-- R144: a free transmitter chooses its next frame: a due CONTROL frame, else the first pending group, else nothing. -/
def transmit (c : Nat) (s : State) : State :=
  let ch := s.chamber c
  if ch.tx ≠ .free then s
  else if ch.controlIsDue then s.setChamber c (startControl ch)
  else
    match s.pendingGroup c with
    | some g => s.setChamber c (startDrive ch g (s.nextImage c g))
    | none => s

/-- R144: every free transmitter chooses; the four controllers are independent. -/
def transmitAll (s : State) : State := forEach (List.range 4) transmit s

/-- What follows the acts of a command: its LAMP frame (R168), and then the transmitters that are free choose, a frame
having fallen due or a group having changed (R144, log 8). -/
def conclude (before s : State) : State := transmitAll (announceLamps before s)

end Sys2Proof.Machine
end

