-- ==== Sys2Proof/Machine/Chambers.lean ====
section
/-! DEFINITION. The Chamber Controllers: bring-up, lowering, fault, chamber status, group and frame events, and the
cipher guard's expiry (chapter 8). -/

namespace Sys2Proof.Machine

/-! ### State and lines -/

/-- R142: a chamber written; STATE is latched when its state has changed. -/
def changeChamber (c : Nat) (x : Chamber) (s : State) : State :=
  let t := s.setChamber c x
  if stateCode x.state = stateCode (s.chamber c).state then t else latch (.state c) t

/-- R134: the lines of a chamber take values; a change makes a CONTROL frame due. -/
def Chamber.setLines (ch : Chamber) (blower supply : Bool) : Chamber :=
  { ch with
    blower := blower
    supply := supply
    controlDue := ch.controlDue || decide (blower ≠ ch.blower) || decide (supply ≠ ch.supply) }

/-- R139: entry to FAULT: the supply line goes off, the blower line keeps its value, the timers are cancelled. -/
def enterFault (c : Nat) (s : State) : State :=
  let ch := s.chamber c
  changeChamber c { ch.setLines ch.blower false with windTimer := none, settleTimer := none, state := .fault } s

/-- R140: the end of a lowering: the blower line goes off and the chamber becomes DARK. -/
def enterDark (c : Nat) (s : State) : State :=
  let ch := s.chamber c
  changeChamber c { ch.setLines false ch.supply with state := .dark } s

/-- R136: DARK to BLOWER: the blower line goes on and the wind timer starts. -/
def enterBlower (c : Nat) (s : State) : State :=
  let ch := s.chamber c
  changeChamber c
    { ch.setLines true ch.supply with state := .blower, windTimer := some (1000 * ch.windTimeout) } s

/-- R138: BLOWER to SETTLE: the wind timer is cancelled, the supply line goes on, the settle timer starts. -/
def enterSettle (c : Nat) (s : State) : State :=
  let ch := s.chamber c
  changeChamber c
    { ch.setLines ch.blower true with state := .settle, windTimer := none, settleTimer := some ch.settle } s

/-- R140: every one of the 16 groups is marked forced. -/
def Chamber.forceAll (ch : Chamber) : Chamber :=
  (List.range 16).foldl (fun x g => x.setGroup g { x.group g with forced := true }) ch

/-- R137, R140: entry to LOWERING in phase CLEARING; the lines are not changed. -/
def enterLowering (c : Nat) (s : State) : State :=
  let ch := s.chamber c
  changeChamber c { ch.forceAll with state := .lowering .clearing, windTimer := none, settleTimer := none } s

/-- R140: no group is marked forced. -/
def Chamber.noneForced (ch : Chamber) : Bool := (List.range 16).all (fun g => !(ch.group g).forced)

/-! ### Chamber status (R138, R141) -/

/-- R141, step 1: the link timer restarts, and the link is PRESENT. -/
def renewChamberLink (c : Nat) (s : State) : State :=
  s.setChamber c { s.chamber c with present := true, linkTimer := some Config.chamberLinkTime }

/-- R141: held wind-ready takes a value; a change latches WIND. -/
def setWind (c : Nat) (b : Bool) (s : State) : State :=
  let ch := s.chamber c
  let t := s.setChamber c { ch with windReady := b }
  if b = ch.windReady then t else latch (.wind c) t

/-- R141: held supply-ok takes a value; a change latches SUPPLY. -/
def setSupplyOk (c : Nat) (b : Bool) (s : State) : State :=
  let ch := s.chamber c
  let t := s.setChamber c { ch with supplyOk := b }
  if b = ch.supplyOk then t else latch (.supply c) t

/-- R141: the board fault list is replaced; a change latches DRIVER-FAULT. -/
def setBoards (c : Nat) (b : BitVec 16) (s : State) : State :=
  let ch := s.chamber c
  let t := s.setChamber c { ch with boards := b }
  if b = ch.boards then t else latch (.driverFault c) t

/-- R138: the chamber state reacts to a CHSTATUS frame. -/
def reactToStatus (c : Nat) (windReady supplyOk : Bool) (s : State) : State :=
  match (s.chamber c).state with
  | .blower => if windReady then enterSettle c s else s
  | .settle => if windReady then s else enterFault c s
  | .enabled => if windReady && supplyOk then s else enterFault c s
  | .dark | .lowering _ | .fault => s

/-- R141: a good CHSTATUS frame. -/
def takeStatus (c : Nat) (windReady supplyOk : Bool) (boards : BitVec 16) (s : State) : State :=
  reactToStatus c windReady supplyOk
    (setBoards c boards (setSupplyOk c supplyOk (setWind c windReady (renewChamberLink c s))))

/-- R141: a failure of the link moves a chamber that is coming up or ENABLED to FAULT. -/
def failIfUp (c : Nat) (s : State) : State :=
  match (s.chamber c).state with
  | .blower | .settle | .enabled => enterFault c s
  | .dark | .lowering _ | .fault => s

/-- R141: the chamber link timer expires; the board list is kept. A stopped timer has no expiry. That the held values go
false in FAULT and LOWERING too, where R139 and R140 speak of the link state alone, is DEDUCED (log 35, unsafe). -/
def chamberLinkExpires (c : Nat) (s : State) : State :=
  let ch := s.chamber c
  if ch.linkTimer.isNone then s
  else
    failIfUp c (setSupplyOk c false (setWind c false (s.setChamber c { ch with present := false, linkTimer := none })))

/-! ### Bring-up and lowering timers (R138, R140) -/

/-- R138: the wind timer expires in BLOWER. -/
def windExpires (c : Nat) (s : State) : State :=
  let ch := s.chamber c
  if ch.windTimer.isSome ∧ ch.state = .blower then enterFault c s else s

/-- R138: the settle timer expires in SETTLE and the held supply-ok is read. -/
def settleExpires (c : Nat) (s : State) : State :=
  let ch := s.chamber c
  if ch.settleTimer.isSome ∧ ch.state = .settle then
    if ch.supplyOk then changeChamber c { ch with state := .enabled, settleTimer := none } s else enterFault c s
  else s

/-- R140: the drain timer expires. -/
def drainExpires (c : Nat) (s : State) : State :=
  let ch := s.chamber c
  if ch.drainTimer.isSome ∧ ch.state = .lowering .draining then
    let t := s.setChamber c { ch with drainTimer := none }
    if ch.supply then
      changeChamber c { (t.chamber c).setLines ch.blower false with state := .lowering .releasing } t
    else enterDark c t
  else s

/-! ### Frames sent (R140, R144) -/

/-- R140: CLEARING ends when the DRIVE frame started for the last forced group has been sent in full. -/
def endClearing (c : Nat) (s : State) : State :=
  let ch := s.chamber c
  if ch.state = .lowering .clearing ∧ ch.noneForced then
    changeChamber c { ch with state := .lowering .draining, drainTimer := some Config.drainTime } s
  else s

/-- R140, R144: a DRIVE frame has been sent in full. -/
def driveEnds (c : Nat) (s : State) : State :=
  let ch := s.chamber c
  match ch.tx with
  | .drive _ _ => endClearing c (s.setChamber c { ch with tx := .free })
  | .free | .control _ _ => s

/-- R140, R144: a CONTROL frame has been sent in full; one that carried the supply line off ends RELEASING. -/
def controlEnds (c : Nat) (s : State) : State :=
  let ch := s.chamber c
  match ch.tx with
  | .control _ supply =>
    let t := s.setChamber c { ch with tx := .free }
    if ch.state = .lowering .releasing ∧ !supply then enterDark c t else t
  | .free | .drive _ _ => s

/-- R144: the age of a group's DRIVE frame reaches 18 ms. -/
def groupAges (c g : Nat) (s : State) : State :=
  let ch := s.chamber c
  let x := ch.group g
  s.setChamber c (ch.setGroup g { x with age := max x.age Config.refreshAge })

/-- R144: the age of the CONTROL frame reaches 18 ms. -/
def controlAges (c : Nat) (s : State) : State :=
  let ch := s.chamber c
  s.setChamber c { ch with controlAge := max ch.controlAge Config.refreshAge }

/-! ### The cipher guard (R147, R148) -/

/-- R147: a point's on-timer expires: the guard is set, the point is listed or CIPHER-OVERFLOW is latched, and CIPHER is
latched. An IDLE timer has no expiry. -/
def onTimerExpires (p : Point) (s : State) : State :=
  let ch := s.chamber p.chamber
  if (ch.onTimer p.point).isNone then s
  else
    let guarded := ch.setGuard p.point true none
    if ch.ciphers.length < Config.cipherCapacity then
      let entry : CipherEntry := ⟨p.point, (s.rankOf p).getD 0, s.claimCount p⟩
      latch .cipher (s.setChamber p.chamber { guarded with ciphers := ch.ciphers ++ [entry] })
    else latch .cipher (latch .cipherOverflow (s.setChamber p.chamber guarded))

/-- R148: one guarded point lifted; where claims remain its on-timer starts afresh. -/
def liftGuard (p : Point) (s : State) : State :=
  if (s.chamber p.chamber).guarded p.point then
    let t := clearGuard p s
    if 0 < t.claimCount p then startOnTimer p t else t
  else s

/-- The guarded points of a chamber, in ascending point number. -/
def State.guardedPoints (s : State) (c : Nat) : List Nat := (List.range 1024).filter (s.chamber c).guarded

/-- R148: every guarded point of a chamber lifted. -/
def liftChamber (c : Nat) (s : State) : State := forEach (s.guardedPoints c) (fun p => liftGuard ⟨c, p⟩) s

/-- R149: entry to TUNE: every guard is lifted and every list emptied, CIPHER latched if its value changes. -/
def liftAllGuards (s : State) : State :=
  let t := forEach (List.range 4)
    (fun c u => u.setChamber c { u.chamber c with guards := .empty, ciphers := [] }) s
  latchCipherChange s t

/-! ### RELAY-RESET (R145, R151) -/

/-- R145, R151: a controller at RELAY-RESET: power-on values, but the driven images are kept and a frame on the link
completes. -/
def Chamber.relayReset (ch : Chamber) : Chamber :=
  { (List.range 16).foldl (fun x g => x.setGroup g ⟨(ch.group g).driven, 0, true⟩) resetChamber with tx := ch.tx }

end Sys2Proof.Machine
end

