-- ==== Sys2Proof/Machine/Operands.lean ====
section
/-! DEFINITION. The fields of requests and replies: reading them in field order (R174, R175) and sending them (R174,
R176), for every table record. -/

namespace Sys2Proof.Machine

/-! ### Reading one field (R174) -/

/-- A number of one byte in a range. -/
def takeNat (lo hi : Nat) : Bytes → Option (Nat × Bytes)
  | b :: rest => if lo ≤ b.toNat ∧ b.toNat ≤ hi then some (b.toNat, rest) else none
  | [] => none

/-- A number of two bytes in a range. -/
def takeWord (lo hi : Nat) : Bytes → Option (Nat × Bytes)
  | a :: b :: rest => if lo ≤ wordOf a b ∧ wordOf a b ≤ hi then some (wordOf a b, rest) else none
  | _ => none

/-- A signed number of one byte in a range. -/
def takeInt (lo hi : Int) : Bytes → Option (Int × Bytes)
  | b :: rest => if lo ≤ b.toInt ∧ b.toInt ≤ hi then some (b.toInt, rest) else none
  | [] => none

/-- An enumeration: the values in the order of the field's definition. -/
def takeEnum {α : Type} (values : List α) : Bytes → Option (α × Bytes)
  | b :: rest =>
    match values[b.toNat]? with
    | some v => some (v, rest)
    | none => none
  | [] => none

/-- A yes/no byte: 0 no, 1 yes. -/
def takeYesNo : Bytes → Option (Bool × Bytes) := takeEnum [false, true]

/-- An optional field: a presence byte, then the value bytes, which are ignored when absent. -/
def takeOptional {α : Type} (size : Nat) (take : Bytes → Option (α × Bytes)) (bs : Bytes) : Option (Option α × Bytes) :=
  match takeYesNo bs with
  | some (true, rest) =>
    match take rest with
    | some (v, after) => some (some v, after)
    | none => none
  | some (false, rest) => if size ≤ rest.length then some (none, rest.drop size) else none
  | none => none

/-- The items of a list. -/
def takeItems {α : Type} (take : Bytes → Option (α × Bytes)) : Nat → Bytes → Option (List α × Bytes)
  | 0, bs => some ([], bs)
  | n + 1, bs =>
    match take bs with
    | none => none
    | some (v, rest) =>
      match takeItems take n rest with
      | none => none
      | some (vs, after) => some (v :: vs, after)

/-- A list: a count byte of at most `max`, then the items. -/
def takeList {α : Type} (max : Nat) (take : Bytes → Option (α × Bytes)) (bs : Bytes) : Option (List α × Bytes) :=
  match takeNat 0 max bs with
  | some (n, rest) => takeItems take n rest
  | none => none

/-- A number of one byte in 0..hi, or 0xFF for "none" or "ALL". -/
def takeNatOr (hi : Nat) : Bytes → Option (Option Nat × Bytes)
  | b :: rest =>
    if b.toNat = 0xFF then some (none, rest) else if b.toNat ≤ hi then some (some b.toNat, rest) else none
  | [] => none

/-- A number of two bytes in 0..hi, or 0xFFFF for "ALL". -/
def takeWordOr (hi : Nat) : Bytes → Option (Option Nat × Bytes)
  | a :: b :: rest =>
    if wordOf a b = 0xFFFF then some (none, rest)
    else if wordOf a b ≤ hi then some (some (wordOf a b), rest) else none
  | _ => none

/-- A group and item number, one byte each (log 23). -/
def takeItem : Bytes → Option (StatusItem × Bytes)
  | g :: n :: rest =>
    match itemAt g.toNat n.toNat with
    | some i => some (i, rest)
    | none => none
  | _ => none

/-! ### Reading fields in order (R175) -/

/-- R175: field `no` read; bytes that run out or a value out of range give BAD-RECORD with its number. -/
def field {α β : Type} (no : Nat) (take : Bytes → Option (α × Bytes)) (bs : Bytes)
    (next : α → Bytes → Except Nat β) : Except Nat β :=
  match take bs with
  | some (v, rest) => next v rest
  | none => .error no

/-- A test of field `no` against fields before it. -/
def test {β : Type} (no : Nat) (ok : Bool) (next : Except Nat β) : Except Nat β := if ok then next else .error no

/-- R175: bytes that remain after the last field, `no`, give BAD-RECORD with the number one above it. -/
def endFields {β : Type} (no : Nat) (bs : Bytes) (v : β) : Except Nat β :=
  if bs = [] then .ok v else .error (no + 1)

/-! ### Sending one field (R174) -/

/-- The byte of an enumeration. -/
def enumByte {α : Type} [BEq α] (values : List α) (v : α) : Byte := byteOf (values.idxOf v)

/-- A signed number of one byte. -/
def intByte (n : Int) : Byte := BitVec.ofInt 8 n

/-- A yes/no byte. -/
def yesNoByte (b : Bool) : Byte := byteOf b.toNat

/-- `size` value bytes of an absent optional field, from place `at_` of the reply: free values (log 12). -/
def absentBytes (fill : Nat → Byte) (place size : Nat) : Bytes := (List.range size).map (fun i => fill (place + i))

/-- An optional field. -/
def optionalBytes {α : Type} (fill : Nat → Byte) (place size : Nat) (send : α → Bytes) : Option α → Bytes
  | some v => yesNoByte true :: send v
  | none => yesNoByte false :: absentBytes fill place size

/-- A list: a count byte, then the items. -/
def listBytes {α : Type} (send : α → Bytes) (xs : List α) : Bytes := byteOf xs.length :: xs.flatMap send

/-- A chamber and point: one byte and two bytes. -/
def pointBytes (p : Point) : Bytes := byteOf p.chamber :: wordBytes p.point

/-- "none" in a numeric field of one byte. -/
def natOrBytes : Option Nat → Bytes
  | some n => [byteOf n]
  | none => [0xFF#8]

/-- A remaining time: 0 for a timer that is IDLE (R176). -/
def timerBytes (t : Option Nat) : Bytes := wordBytes (t.getD 0)

/-- A group and item number (log 23). -/
def itemBytes (i : StatusItem) : Bytes := [byteOf (itemNumber i).1, byteOf (itemNumber i).2]

/-! ### The enumerations, in the order of their definitions -/

/-- R17. -/
def rankKinds : List RankKind := [.none, .pipe, .struck]

/-- R24. -/
def stopKinds : List StopKind := [.silent, .tonal, .struck, .reiterate, .tremulant, .routeMask]

/-- R24. -/
def breaks : List Break := [.silent, .fold]

/-- R88. -/
def routeTargets : List RouteTarget := [.none, .strike, .hold, .roll, .sequence, .releaseAll]

/-- R88. -/
def triggers : List Trigger := [.edge, .level, .split]

/-- R88: NORMAL, INVERTED as `inverted`. -/
def polarities : List Bool := [false, true]

/-- R88, R90, R167: MASKED, OPEN as `masked`. -/
def masks : List Bool := [true, false]

/-- R88. -/
def holdKinds : List HoldKind := [.hold, .roll]

/-- R88. -/
def routeStates : List RouteState := [.idle, .pending, .measuring, .inService]

/-- R107. -/
def stepKinds : List StepKind := [.timed, .final]

/-- R107. -/
def actionKinds : List ActionKind := [.strike, .holdOn, .holdOff]

/-- R168. -/
def lampModes : List LampMode := [.off, .steady, .blink, .follow]

/-- R163. -/
def modes : List Mode := [.config, .play, .tune]

/-! ### RANK (R17 to R19) -/

/-- R19, step 2: the fields of a RANK record in order, with the limits of R18 tested at field 5. -/
def readRank (bs : Bytes) : Except Nat RankRecord :=
  field 1 (takeEnum rankKinds) bs fun kind bs =>
  field 2 (takeNat 0 3) bs fun chamber bs =>
  field 3 (takeWord 0 1023) bs fun base bs =>
  field 4 (takeInt (-24) 96) bs fun lowest bs =>
  field 5 (takeNat 1 97) bs fun noteCount bs =>
  test 5 (decide (lowest + noteCount - 1 ≤ 111) && decide (base + noteCount - 1 ≤ 1023)) <|
  field 6 (takeNat 0 15) bs fun priority bs =>
  field 7 (takeNat 5 250) bs fun strikeLength bs =>
  field 8 (takeWord 30 500) bs fun period bs =>
  field 9 (takeWord 1 (period - 1)) bs fun strikeTime bs =>
  field 10 (takeWord 0 600) bs fun cipherLimit bs =>
  endFields 10 bs ⟨kind, chamber, base, lowest, noteCount, priority, strikeLength, period, strikeTime, cipherLimit⟩

/-- The 14 bytes of a RANK record (R174). -/
def rankBytes (x : RankRecord) : Bytes :=
  [enumByte rankKinds x.kind, byteOf x.chamber] ++ wordBytes x.base ++
    [intByte x.lowest, byteOf x.noteCount, byteOf x.priority, byteOf x.strikeLength] ++
    wordBytes x.period ++ wordBytes x.strikeTime ++ wordBytes x.cipherLimit

/-! ### STOP (R24, R26) -/

/-- R26, step 2: the fields of a STOP record in order; a borrow rank or a pizzicato length needs kind TONAL. -/
def readStop (bs : Bytes) : Except Nat StopRecord :=
  field 1 (takeEnum stopKinds) bs fun kind bs =>
  field 2 (takeNat 0 8) bs fun row bs =>
  field 3 (takeNat 0 47) bs fun rank bs =>
  field 4 (takeInt (-24) 48) bs fun offset bs =>
  field 5 (takeEnum breaks) bs fun lowBreak bs =>
  field 6 (takeEnum breaks) bs fun highBreak bs =>
  field 7 (takeOptional 1 (takeNat 0 47)) bs fun borrow bs =>
  test 7 (borrow.isNone || decide (kind = .tonal)) <|
  field 8 (takeOptional 2 (takeWord 20 2000)) bs fun pizz bs =>
  test 8 (pizz.isNone || decide (kind = .tonal)) <|
  field 9 (takeNat 0 7) bs fun tremulant bs =>
  field 10 (takeNat 0 3) bs fun group bs =>
  endFields 10 bs ⟨kind, row, rank, offset, lowBreak, highBreak, borrow, pizz, tremulant, group⟩

/-- The 13 bytes of a STOP record (R174). -/
def stopBytes (fill : Nat → Byte) (x : StopRecord) : Bytes :=
  [enumByte stopKinds x.kind, byteOf x.row, byteOf x.rank, intByte x.offset, enumByte breaks x.lowBreak,
    enumByte breaks x.highBreak] ++
    optionalBytes fill 0 1 (fun b => [byteOf b]) x.borrow ++
    optionalBytes fill 1 2 wordBytes x.pizz ++
    [byteOf x.tremulant, byteOf x.group]

/-! ### ROUTE (R88, R89) -/

/-- R89: the trigger agrees with the target. -/
def triggerAgrees : Trigger → RouteTarget → Bool
  | .edge, .none | .edge, .strike | .edge, .sequence | .edge, .releaseAll => true
  | .level, .none | .level, .hold | .level, .roll | .level, .sequence => true
  | .split, .none => true
  | _, _ => false

/-- R89: no number of a sequence list appears twice. -/
def noRepeats : List Nat → Bool
  | [] => true
  | x :: rest => !rest.contains x && noRepeats rest

/-- R89, step 2: fields 1 to 15 of a ROUTE entry in order, with the pairings of fields 2 and 9. -/
def readRoute (bs : Bytes) : Except Nat RouteFields :=
  field 1 (takeEnum routeTargets) bs fun target bs =>
  field 2 (takeEnum triggers) bs fun trigger bs =>
  test 2 (triggerAgrees trigger target) <|
  field 3 (takeEnum polarities) bs fun inverted bs =>
  field 4 (takeEnum masks) bs fun masked bs =>
  field 5 takeYesNo bs fun defer bs =>
  field 6 (takeNat 0 3) bs fun group bs =>
  field 7 (takeNat 0 47) bs fun rank bs =>
  field 8 (takeInt (-24) 111) bs fun note bs =>
  field 9 (takeList 4 (takeNat 0 15)) bs fun sequences bs =>
  test 9 (noRepeats sequences && (decide (target ≠ .sequence) || !sequences.isEmpty)) <|
  field 10 (takeNat 0 47) bs fun tapRank bs =>
  field 11 (takeInt (-24) 111) bs fun tapNote bs =>
  field 12 (takeEnum holdKinds) bs fun holdKind bs =>
  field 13 (takeNat 0 47) bs fun holdRank bs =>
  field 14 (takeInt (-24) 111) bs fun holdNote bs =>
  field 15 (takeWord 50 2000) bs fun splitTime bs =>
  endFields 15 bs ⟨target, trigger, inverted, masked, defer, group, rank, note, sequences, tapRank, tapNote, holdKind,
    holdRank, holdNote, splitTime⟩

/-- Fields 1 to 15 of a ROUTE entry. -/
def routeFieldBytes (x : RouteFields) : Bytes :=
  [enumByte routeTargets x.target, enumByte triggers x.trigger, enumByte polarities x.inverted,
    enumByte masks x.masked, yesNoByte x.defer, byteOf x.group, byteOf x.rank, intByte x.note] ++
    listBytes (fun q => [byteOf q]) x.sequences ++
    [byteOf x.tapRank, intByte x.tapNote, enumByte holdKinds x.holdKind, byteOf x.holdRank, intByte x.holdNote] ++
    wordBytes x.splitTime

/-- R176: a ROUTE entry as TABLE-READ returns it. -/
def routeBytes (e : RouteEntry) : Bytes :=
  routeFieldBytes e.fields ++ [enumByte routeStates e.state, enumByte [true, false] e.active] ++ timerBytes e.timer

/-! ### TREMULANT (R74) -/

/-- R74, step 2. -/
def readTremulant (bs : Bytes) : Except Nat TremulantRecord :=
  field 1 (takeNat 0 3) bs fun chamber bs =>
  field 2 (takeWord 0 1023) bs fun point bs =>
  field 3 (takeWord 80 600) bs fun period bs =>
  field 4 (takeWord 1 (period - 1)) bs fun onTime bs =>
  endFields 4 bs ⟨chamber, point, period, onTime⟩

/-- The bytes of a TREMULANT record. -/
def tremulantBytes (x : TremulantRecord) : Bytes :=
  byteOf x.chamber :: wordBytes x.point ++ wordBytes x.period ++ wordBytes x.onTime

/-! ### CURVE (R123) -/

/-- A breakpoint: x and y, two bytes each. -/
def takeBreakpoint (bs : Bytes) : Option ((Nat × Nat) × Bytes) :=
  match takeWord 0 1023 bs with
  | none => none
  | some (x, rest) =>
    match takeWord 0 1000 rest with
    | none => none
    | some (y, after) => some ((x, y), after)

/-- R123: every x is strictly greater than the x before it. -/
def ascendingX : List (Nat × Nat) → Bool
  | a :: b :: rest => decide (a.1 < b.1) && ascendingX (b :: rest)
  | _ => true

/-- R123, step 2. -/
def readCurve (bs : Bytes) : Except Nat CurveRecord :=
  field 1 (takeNatOr 3) bs fun shoe bs =>
  field 2 (takeNat 1 16) bs fun stageCount bs =>
  field 3 (takeNat 0 100) bs fun hysteresis bs =>
  field 4 (takeWord 10 500) bs fun slew bs =>
  field 5 (takeWord 0 1023) bs fun base bs =>
  test 5 (decide (base + stageCount - 1 ≤ 1023)) <|
  field 6 (takeList 8 takeBreakpoint) bs fun curve bs =>
  test 6 (decide (2 ≤ curve.length) && ascendingX curve) <|
  endFields 6 bs ⟨shoe, stageCount, hysteresis, slew, base, curve⟩

/-- The six written fields of a CURVE record. -/
def curveFieldBytes (x : CurveRecord) : Bytes :=
  natOrBytes x.shoe ++ [byteOf x.stageCount, byteOf x.hysteresis] ++ wordBytes x.slew ++ wordBytes x.base ++
    listBytes (fun b => wordBytes b.1 ++ wordBytes b.2) x.curve

/-- R176: a channel as TABLE-READ returns it. -/
def curveBytes (ch : Channel) (sample : Nat) : Bytes :=
  curveFieldBytes ch.record ++ [byteOf ch.stage, byteOf ch.goal] ++ timerBytes ch.timer ++ wordBytes sample

/-! ### SEQDIR and SEQMEM (R107 to R109) -/

/-- R109. -/
def readSeqEntry (bs : Bytes) : Except Nat SeqEntry :=
  field 1 (takeOptional 2 (takeWord 0 1023)) bs fun first bs =>
  field 2 takeYesNo bs fun loop bs =>
  endFields 2 bs ⟨first, loop⟩

/-- The bytes of a SEQDIR record. -/
def seqEntryBytes (fill : Nat → Byte) (x : SeqEntry) : Bytes :=
  optionalBytes fill 0 2 wordBytes x.first ++ [yesNoByte x.loop]

/-- R107: an action: kind, rank, note. -/
def takeAction (bs : Bytes) : Option (Action × Bytes) :=
  match takeEnum actionKinds bs with
  | none => none
  | some (kind, bs) =>
    match takeNat 0 47 bs with
    | none => none
    | some (rank, bs) =>
      match takeInt (-24) 111 bs with
      | none => none
      | some (note, bs) => some (⟨kind, rank, note⟩, bs)

/-- R108, step 2. -/
def readStep (bs : Bytes) : Except Nat StepRecord :=
  field 1 (takeEnum stepKinds) bs fun kind bs =>
  field 2 (takeWord 1 1000) bs fun duration bs =>
  field 3 (takeList 3 takeAction) bs fun actions bs =>
  endFields 3 bs ⟨kind, duration, actions⟩

/-- The bytes of a SEQMEM record. -/
def stepBytes (x : StepRecord) : Bytes :=
  enumByte stepKinds x.kind :: wordBytes x.duration ++
    listBytes (fun a => [enumByte actionKinds a.kind, byteOf a.rank, intByte a.note]) x.actions

/-! ### SCAN, CHAMBER, LAMP (R3, R135, R168) -/

/-- R3: the record of a key row. -/
def readKeySetting (bs : Bytes) : Except Nat KeySetting :=
  field 1 (takeNat 0 64) bs fun keyCount bs =>
  field 2 (takeNat 1 3) bs fun confirm bs =>
  endFields 2 bs ⟨keyCount, confirm⟩

/-- R3: the record of all stop rows or of all input rows. -/
def readConfirm (bs : Bytes) : Except Nat Nat :=
  field 1 (takeNat 1 3) bs fun confirm bs =>
  endFields 1 bs confirm

/-- R135: wind timeout and settle. -/
def readChamber (bs : Bytes) : Except Nat (Nat × Nat) :=
  field 1 (takeNat 1 60) bs fun windTimeout bs =>
  field 2 (takeWord 50 2000) bs fun settle bs =>
  endFields 2 bs (windTimeout, settle)

/-- R168: mode, followed item, invert. -/
def readLamp (bs : Bytes) : Except Nat LampRecord :=
  field 1 (takeEnum lampModes) bs fun mode bs =>
  field 2 takeItem bs fun item bs =>
  field 3 takeYesNo bs fun invert bs =>
  endFields 3 bs ⟨mode, item, invert⟩

/-- The bytes of a LAMP record. -/
def lampBytes (x : LampRecord) : Bytes := enumByte lampModes x.mode :: itemBytes x.item ++ [yesNoByte x.invert]

/-- R176: an entry of the pizzicato list. -/
def pizzBytes (e : PizzEntry) : Bytes :=
  [byteOf e.row, byteOf e.key] ++ wordBytes e.stop ++ pointBytes e.target ++ wordBytes e.remaining ++
    [yesNoByte e.spent]

/-- R176: an entry of a cipher list. -/
def cipherBytes (e : CipherEntry) : Bytes := wordBytes e.point ++ [byteOf e.rank] ++ wordBytes e.count

/-! ### Replies (section 11.2) -/

/-- The reply codes. -/
def replyCode : Reply → Nat
  | .done _ => 0
  | .busy => 1
  | .noSuchTable => 2
  | .badIndex => 3
  | .badRecord _ => 4
  | .wrongMode => 5
  | .inconsistent _ _ => 6
  | .chamberBusy => 7
  | .unset => 8

/-- The data of a reply: a field number, a table code and index, or the data of a DONE. -/
def replyData : Reply → Bytes
  | .done data => data
  | .badRecord n => [byteOf n]
  | .inconsistent table index => byteOf table :: wordBytes index
  | .busy | .noSuchTable | .badIndex | .wrongMode | .chamberBusy | .unset => []

/-- A REPLY frame (section 11.2). -/
def State.replyFrame (s : State) (tag : Byte) (r : Reply) : UpFrame :=
  .own 0x12#8 (s.strapByte :: tag :: byteOf (replyCode r) :: replyData r)

end Sys2Proof.Machine
end

