-- ==== Sys2Proof/Machine/Sequences.lean ====
section
/-! DEFINITION. Players of effect sequences (chapter 6). -/

namespace Sys2Proof.Machine

/-- The eight players, ascending. -/
def players : List Nat := List.range 8

/-- R116: a player stops: its timer is cancelled, its hold set is emptied oldest first with one claim removed from each
point, and it becomes IDLE. -/
def stopPlayer (n : Nat) (s : State) : State :=
  match s.player n with
  | none => s
  | some run => forEach run.holds removeClaim (s.setPlayer n none)

/-- R116: every player that is not IDLE stops, in ascending number. -/
def stopAllPlayers (s : State) : State := forEach players stopPlayer s

/-- R113: one action of a TIMED step, applied by a player. -/
def applyAction (n : Nat) (a : Action) (s : State) : State :=
  match s.player n with
  | none => s
  | some run =>
    let p := s.notePoint a.rank a.note
    match a.kind with
    | .strike => strike p s
    | .holdOn =>
      if p ∈ run.holds then s
      else if Config.playerHoldCapacity ≤ run.holds.length then latch .seqHoldFull s
      else addClaim p (s.setPlayer n (some { run with holds := run.holds ++ [p] }))
    | .holdOff =>
      if p ∈ run.holds then
        removeClaim p (s.setPlayer n (some { run with holds := run.holds.filter (fun q => q ≠ p) }))
      else s

/-- R113: a player moves to a TIMED step: its actions in list order, then the step timer of 10 × duration ms. -/
def applyStep (n i : Nat) (s : State) : State :=
  let step := s.stepRecord i
  let t := match s.player n with
    | none => s
    | some run => s.setPlayer n (some { run with step := i })
  let u := forEach step.actions (applyAction n) t
  match u.player n with
  | none => u
  | some run => u.setPlayer n (some { run with timer := 10 * step.duration })

/-- R112: the first step of a started player: a TIMED step is applied, and an END step stops the player, whatever its
loop field. A sequence that the directory no longer defines has no step to take (R105, log 25). -/
def takeFirstStep (n : Nat) (s : State) : State :=
  match s.player n with
  | none => s
  | some run =>
    match (s.seqEntry run.sequence).first with
    | none => stopPlayer n s
    | some i => if (s.stepRecord i).kind = .timed then applyStep n i s else stopPlayer n s

/-- R114: a RUNNING player moves to the next step, step 1023 followed by step 0. An END step sends a looped player to
its first step, when it is an EDGE player or a RUNNING LEVEL player, and stops any other. -/
def moveOn (n : Nat) (s : State) : State :=
  match s.player n with
  | none => s
  | some run =>
    let i := (run.step + 1) % 1024
    if (s.stepRecord i).kind = .timed then applyStep n i s
    else if (s.seqEntry run.sequence).loop then takeFirstStep n s
    else stopPlayer n s

/-- The lowest-numbered IDLE player. -/
def State.idlePlayer (s : State) : Option Nat := players.find? (fun n => (s.player n).isNone)

/-- R112: assign players to the sequences of a delivery, in list order; SEQ-NO-PLAYER for each that finds none. The
numbers of the players started come with the state. -/
def assignPlayers (level : Bool) (input : Nat) : List Nat → State → List Nat × State
  | [], s => ([], s)
  | q :: rest, s =>
    match s.idlePlayer with
    | none => assignPlayers level input rest (latch .seqNoPlayer s)
    | some n =>
      let (started, t) := assignPlayers level input rest (s.setPlayer n (some ⟨false, q, level, input, 0, 0, []⟩))
      (n :: started, t)

/-- R112: a delivery: players are assigned, and then each takes its first step, in list order. -/
def startDelivery (level : Bool) (input : Nat) (sequences : List Nat) (s : State) : State :=
  let (started, t) := assignPlayers level input sequences s
  forEach started takeFirstStep t

/-- The player was started by the entry of an input. -/
def State.playsFor (s : State) (input n : Nat) : Bool :=
  match s.player n with
  | some run => decide (run.input = input)
  | none => false

/-- R95: a player started by the entry is RUNNING or FINISHING. -/
def State.anyPlaysFor (s : State) (input : Nat) : Bool := players.any (s.playsFor input)

/-- R95, R116: every player started by the entry stops. -/
def stopPlayersOf (input : Nat) (s : State) : State := forEach (players.filter (s.playsFor input)) stopPlayer s

/-- The player was started by the entry and is RUNNING. -/
def State.runsFor (s : State) (input n : Nat) : Bool :=
  match s.player n with
  | some run => decide (run.input = input) && !run.finishing
  | none => false

/-- R95, R116: every RUNNING player started by the entry stops. -/
def stopRunningOf (input : Nat) (s : State) : State := forEach (players.filter (s.runsFor input)) stopPlayer s

/-- R115: a RUNNING player becomes FINISHING and keeps its step and timer. -/
def finishPlayer (n : Nat) (s : State) : State :=
  match s.player n with
  | none => s
  | some run => s.setPlayer n (some { run with finishing := true })

/-- R95, R115: every RUNNING player started by the entry becomes FINISHING. -/
def finishRunningOf (input : Nat) (s : State) : State := forEach (players.filter (s.runsFor input)) finishPlayer s

end Sys2Proof.Machine
end

