-- ==== Sys2Proof/Machine/Router.lean ====
section
/-! DEFINITION. The Trap Router: levels, masks, triggers and targets (chapter 5). -/

namespace Sys2Proof.Machine

/-- The 96 route inputs, ascending. -/
def inputs : List Nat := List.range 96

/-- R92: the entry is effectively masked. -/
def State.maskedRoute (s : State) (i : Nat) : Bool :=
  (s.route i).fields.masked || decide (0 < s.maskDemand (s.route i).fields.group) || decide (s.mode ≠ .play)

/-- Write an entry's state and split timer. -/
def setRouteState (i : Nat) (x : RouteState) (timer : Option Nat) (s : State) : State :=
  s.setRoute i { s.route i with state := x, timer := timer }

/-! ### Targets (R94 to R96) -/

/-- R95: EDGE delivery of a SEQUENCE target. -/
def toggleSequences (i : Nat) (sequences : List Nat) (s : State) : State :=
  if s.anyPlaysFor i then stopPlayersOf i s else startDelivery false i sequences s

/-- R96, R12: a general release is asked for; it follows the rest of the command's transition run. -/
def askRelease (s : State) : State := s.setScan { s.scan with releaseDue := true }

/-- R94: an EDGE entry delivers its target. -/
def deliver (i : Nat) (s : State) : State :=
  let f := (s.route i).fields
  match f.target with
  | .strike => strike (s.notePoint f.rank f.note) s
  | .sequence => toggleSequences i f.sequences s
  | .releaseAll => askRelease s
  | .none | .hold | .roll => s

/-- Why a LEVEL service ends (R95, R102, R104). -/
inductive EndCause where
  | deactivation
  | masking
  | leaving
  deriving DecidableEq, Repr

/-- R94: a HOLD or ROLL begins on a point. -/
def startHold (kind : HoldKind) (p : Point) (s : State) : State :=
  match kind with
  | .hold => addClaim p s
  | .roll => raiseDemand p s

/-- R94: a HOLD or ROLL ends on a point. -/
def endHold (kind : HoldKind) (p : Point) (s : State) : State :=
  match kind with
  | .hold => removeClaim p s
  | .roll => lowerDemand p s

/-- R94: service start of a LEVEL or SPLIT entry. -/
def startService (i : Nat) (s : State) : State :=
  let f := (s.route i).fields
  match f.trigger with
  | .split => startHold f.holdKind (s.notePoint f.holdRank f.holdNote) s
  | .edge | .level =>
    match f.target with
    | .hold => startHold .hold (s.notePoint f.rank f.note) s
    | .roll => startHold .roll (s.notePoint f.rank f.note) s
    | .sequence => startDelivery true i f.sequences s
    | .none | .strike | .releaseAll => s

/-- R95: the end of a SEQUENCE service: players finish on a deactivation and stop on a masking; on leaving PLAY the
Sequence Unit stops them itself (R104). -/
def endSequences (cause : EndCause) (i : Nat) (s : State) : State :=
  match cause with
  | .deactivation => finishRunningOf i s
  | .masking => stopRunningOf i s
  | .leaving => s

/-- R94: service end of a LEVEL or SPLIT entry. -/
def endService (cause : EndCause) (i : Nat) (s : State) : State :=
  let f := (s.route i).fields
  match f.trigger with
  | .split => endHold f.holdKind (s.notePoint f.holdRank f.holdNote) s
  | .edge | .level =>
    match f.target with
    | .hold => endHold .hold (s.notePoint f.rank f.note) s
    | .roll => endHold .roll (s.notePoint f.rank f.note) s
    | .sequence => endSequences cause i s
    | .none | .strike | .releaseAll => s

/-- R99: the tap strike of a SPLIT entry. -/
def tapStrike (i : Nat) (s : State) : State :=
  let f := (s.route i).fields
  strike (s.notePoint f.tapRank f.tapNote) s

/-! ### Trigger rules (R97 to R99) -/

/-- The LEVEL service of an IDLE, unmasked, ACTIVE entry begins (R98). An entry of target NONE serves no effect and stays
IDLE (R88). -/
def beginLevel (i : Nat) (s : State) : State :=
  if (s.route i).fields.target = .none then s else startService i (setRouteState i .inService none s)

/-- The SPLIT timing of an IDLE, unmasked, ACTIVE entry begins with the full split time (R99). -/
def beginSplit (i : Nat) (s : State) : State :=
  setRouteState i .measuring (some (s.route i).fields.splitTime) s

/-- R97, R104: an activation of an EDGE entry. A masked edge is deferred in PLAY alone: in CONFIG and TUNE an activation
changes the level and nothing else. -/
def activateEdge (i : Nat) (s : State) : State :=
  let e := s.route i
  if e.fields.target = .none ∨ e.state ≠ .idle then s
  else if s.maskedRoute i then
    if e.fields.defer && decide (s.mode = .play) then setRouteState i .pending none s else s
  else deliver i s

/-- R97 to R99: an activation, the level being ACTIVE already. -/
def activate (i : Nat) (s : State) : State :=
  let e := s.route i
  match e.fields.trigger with
  | .edge => activateEdge i s
  | .level => if e.state = .idle ∧ !s.maskedRoute i then beginLevel i s else s
  | .split => if e.state = .idle ∧ !s.maskedRoute i then beginSplit i s else s

/-- R97 to R99: a deactivation, the level being INACTIVE already. -/
def deactivate (i : Nat) (s : State) : State :=
  let e := s.route i
  match e.fields.trigger, e.state with
  | .level, .inService => endService .deactivation i (setRouteState i .idle none s)
  | .split, .measuring => tapStrike i (setRouteState i .idle none s)
  | .split, .inService => endService .deactivation i (setRouteState i .idle none s)
  | _, _ => s

/-- R97 to R99: the entry becomes effectively masked. -/
def becomeMasked (i : Nat) (s : State) : State :=
  let e := s.route i
  match e.state with
  | .inService => endService .masking i (setRouteState i .idle none s)
  | .measuring => setRouteState i .idle none s
  | .idle | .pending => s

/-- R97 to R99: the entry becomes unmasked. -/
def becomeUnmasked (i : Nat) (s : State) : State :=
  let e := s.route i
  match e.fields.trigger, e.state with
  | .edge, .pending => deliver i (setRouteState i .idle none s)
  | .level, .idle => if e.active then beginLevel i s else s
  | .split, .idle => if e.active then beginSplit i s else s
  | _, _ => s

/-! ### Levels (R91) -/

/-- R91: the level takes a value; a change is an activation or a deactivation. -/
def setLevel (i : Nat) (active : Bool) (s : State) : State :=
  let e := s.route i
  if active = e.active then s
  else
    let t := s.setRoute i { e with active := active }
    if active then activate i t else deactivate i t

/-- R91: the level a contact gives an entry: INACTIVE while the console link is not UP. -/
def State.contactLevel (s : State) (i : Nat) (closed : Bool) : Bool :=
  decide (s.port.link = .up) && xor closed (s.route i).fields.inverted

/-- R91: a transition of an input row: PRESS closes the contact, RELEASE opens it. -/
def inputTransition (i : Nat) (press : Bool) (s : State) : State := setLevel i (s.contactLevel i press) s

/-- R91: the report of a console link DOWN: every ACTIVE level becomes INACTIVE, in ascending input number. -/
def routerLinkLoss (s : State) : State := forEach inputs (fun i => setLevel i false) s

/-! ### Masks (R90, R92, R93) -/

/-- R90, R92: the mask field takes a value; a change of the effective mask is taken. -/
def writeMask (i : Nat) (masked : Bool) (s : State) : State :=
  let e := s.route i
  let t := s.setRoute i { e with fields := { e.fields with masked := masked } }
  match s.maskedRoute i, t.maskedRoute i with
  | false, true => becomeMasked i t
  | true, false => becomeUnmasked i t
  | _, _ => t

/-- R93: the entries of a group whose mask is OPEN, ascending. -/
def State.openInputs (s : State) (g : Nat) : List Nat :=
  inputs.filter (fun i => decide ((s.route i).fields.group = g) && !(s.route i).fields.masked)

/-- R93: a group's mask demand raised by 1; from 0 to 1 the group's OPEN entries become masked. -/
def raiseMask (g : Nat) (s : State) : State :=
  let n := s.maskDemand g
  let t := s.setMaskDemand g (n + 1)
  if n = 0 ∧ s.mode = .play then forEach (t.openInputs g) becomeMasked t else t

/-- R93: a group's mask demand lowered by 1; from 1 to 0, in PLAY, the group's OPEN entries become unmasked. -/
def lowerMask (g : Nat) (s : State) : State :=
  let n := s.maskDemand g
  let t := s.setMaskDemand g (n - 1)
  if n = 1 ∧ s.mode = .play then forEach (t.openInputs g) becomeUnmasked t else t

/-! ### General release, entering and leaving PLAY (R102 to R104) -/

/-- R102: an entry at the signal of a general release. -/
def routeReleased (i : Nat) (s : State) : State :=
  match (s.route i).state with
  | .inService => endService .masking i (setRouteState i .idle none s)
  | .measuring | .pending => setRouteState i .idle none s
  | .idle => s

/-- R102: the signal of a general release. -/
def routerReleased (s : State) : State := forEach inputs routeReleased s

/-- R103: an entry on entry to PLAY. -/
def routeEnterPlay (i : Nat) (s : State) : State :=
  let e := s.route i
  if s.maskedRoute i || !e.active then s
  else
    match e.fields.trigger with
    | .edge => s
    | .level => beginLevel i s
    | .split => beginSplit i s

/-- R103: entry to PLAY. -/
def routerEnterPlay (s : State) : State := forEach inputs routeEnterPlay s

/-- R104: an entry on leaving PLAY. -/
def routeLeavePlay (i : Nat) (s : State) : State :=
  match (s.route i).state with
  | .inService => endService .leaving i (setRouteState i .idle none s)
  | .measuring | .pending => setRouteState i .idle none s
  | .idle => s

/-- R104: leaving PLAY; the group mask demands are then set to 0. -/
def routerLeavePlay (s : State) : State :=
  let t := forEach inputs routeLeavePlay s
  t.setRouter { t.router with maskDemand := .empty }

end Sys2Proof.Machine
end

