-- ==== Sys2Proof/Machine/Engine.lean ====
section
/-! DEFINITION. The Unification Engine: couplings, active stop lists, pizzicato, tuning (chapter 3), and the drawing
of tremulant and mask stops (R25). -/

namespace Sys2Proof.Machine

/-! ### Stops -/

/-- R25: the stops with mapping. -/
def StopKind.hasMapping : StopKind → Bool
  | .tonal | .struck | .reiterate => true
  | .silent | .tremulant | .routeMask => false

/-! ### Couplings (R40, R51, R53) -/

/-- R51: a pizzicato entry at the tail of the list, or PIZZ-FULL. -/
def addPizz (e : PizzEntry) (s : State) : State :=
  if s.claims.pizz.length < Config.pizzCapacity then
    s.setClaims { s.claims with pizz := s.claims.pizz ++ [e] }
  else latch .pizzFull s

/-- The entry names the coupling (row, key, stop). -/
def PizzEntry.names (e : PizzEntry) (r k n : Nat) : Bool :=
  decide (e.row = r) && decide (e.key = k) && decide (e.stop = n)

/-- R50: the entry of a coupling, if any. -/
def State.pizzEntry (s : State) (r k n : Nat) : Option PizzEntry := s.claims.pizz.find? (fun e => e.names r k n)

/-- R53: the entry of a coupling is deleted; the others keep their order. -/
def deletePizz (r k n : Nat) (s : State) : State :=
  s.setClaims { s.claims with pizz := s.claims.pizz.filter (fun e => !e.names r k n) }

/-- R40: coupling (r, k, n) starts. -/
def startCoupling (r k n : Nat) (s : State) : State :=
  let x := s.stop n
  match s.target x.mapping k with
  | none => s
  | some p =>
    match x.kind with
    | .tonal =>
      match x.pizz with
      | none => addClaim p s
      | some length => addPizz ⟨r, k, n, p, length, false⟩ (addClaim p s)
    | .struck => strike p s
    | .reiterate => raiseDemand p s
    | .silent | .tremulant | .routeMask => s

/-- R53, R40: the end of a TONAL coupling with a point target: one claim removed unless its entry is SPENT; the entry
is deleted. -/
def endTonal (r k n : Nat) (p : Point) (s : State) : State :=
  match s.pizzEntry r k n with
  | none => removeClaim p s
  | some e => if e.spent then deletePizz r k n s else deletePizz r k n (removeClaim e.target s)

/-- R40: coupling (r, k, n) ends. -/
def endCoupling (r k n : Nat) (s : State) : State :=
  let x := s.stop n
  match s.target x.mapping k with
  | none => s
  | some p =>
    match x.kind with
    | .tonal => endTonal r k n p s
    | .reiterate => lowerDemand p s
    | .struck | .silent | .tremulant | .routeMask => s

/-- R44: the couplings of a key with every stop of its row's list start, oldest first. -/
def startKey (r k : Nat) (s : State) : State := forEach (s.active r) (startCoupling r k) s

/-- R44: the couplings of a key with every stop of its row's list end, oldest first. -/
def endKey (r k : Nat) (s : State) : State := forEach (s.active r) (endCoupling r k) s

/-! ### Tuning couplings (R56) -/

/-- R56: the tuning coupling of key `k` under a selection starts. -/
def startTuning (sel : TuningSelection) (k : Nat) (s : State) : State :=
  match s.target sel.mapping k with
  | none => s
  | some p =>
    match (s.rank sel.rank).kind with
    | .pipe => addClaim p s
    | .struck => strike p s
    | .none => s

/-- R56: the tuning coupling of key `k` under a selection ends. -/
def endTuning (sel : TuningSelection) (k : Nat) (s : State) : State :=
  match s.target sel.mapping k with
  | none => s
  | some p => if (s.rank sel.rank).kind = .pipe then removeClaim p s else s

/-- R57, R62: a tuning coupling starts for each key held on the selected row. -/
def startTuningRow (sel : TuningSelection) (s : State) : State := forEach (s.heldKeys sel.row) (startTuning sel) s

/-- R57, R63: every tuning coupling of a selection ends. -/
def endTuningRow (sel : TuningSelection) (s : State) : State := forEach (s.heldKeys sel.row) (endTuning sel) s

/-- R58, R59: the tuning hold set is emptied, oldest first, with one claim removed from each point. -/
def emptyTuningHolds (s : State) : State :=
  forEach s.claims.holds removeClaim (s.setClaims { s.claims with holds := [] })

/-! ### Transitions (R41, R42, R44) -/

/-- R44, R56: a transition of a key row, by the relay mode. -/
def keyTransition (r k : Nat) (press : Bool) (s : State) : State :=
  match s.mode with
  | .config => s
  | .play => if press then startKey r k s else endKey r k s
  | .tune =>
    match s.engine.tuning with
    | none => s
    | some sel =>
      if sel.row = r then (if press then startTuning sel k s else endTuning sel k s) else s

/-- R41: a stop with mapping joins its row's list at the tail. -/
def joinList (n : Nat) (s : State) : State :=
  let r := (s.stop n).row
  s.setActive r (s.active r ++ [n])

/-- R42: a stop leaves its row's list. -/
def leaveList (n : Nat) (s : State) : State :=
  let r := (s.stop n).row
  s.setActive r ((s.active r).filter (fun m => m ≠ n))

/-- R41, R25: a stop is drawn in PLAY. -/
def drawStop (n : Nat) (s : State) : State :=
  let x := s.stop n
  match x.kind with
  | .tonal | .struck | .reiterate =>
    forEach (s.heldKeys x.row) (fun k => startCoupling x.row k n) (joinList n s)
  | .tremulant => raiseTremulant x.tremulant s
  | .routeMask => raiseMask x.group s
  | .silent => s

/-- R42, R25: a stop is cancelled in PLAY. -/
def cancelStop (n : Nat) (s : State) : State :=
  let x := s.stop n
  match x.kind with
  | .tonal | .struck | .reiterate =>
    leaveList n (forEach (s.heldKeys x.row) (fun k => endCoupling x.row k n) s)
  | .tremulant => lowerTremulant x.tremulant s
  | .routeMask => lowerMask x.group s
  | .silent => s

/-- R41, R42: a transition of a stop row acts in PLAY alone. -/
def stopTransition (n : Nat) (press : Bool) (s : State) : State :=
  if s.mode = .play then (if press then drawStop n s else cancelStop n s) else s

/-! ### Entering and leaving modes (R60 to R63) -/

/-- The nine key rows, ascending. -/
def keyRows : List Nat := List.range 9

/-- R60, R103: a drawn stop taken up on entry to PLAY. The mask demand it raises masks no entry there. -/
def drawAtEntry (n : Nat) (s : State) : State :=
  let x := s.stop n
  match x.kind with
  | .tonal | .struck | .reiterate => joinList n s
  | .tremulant => raiseTremulant x.tremulant s
  | .routeMask => s.setMaskDemand x.group (s.maskDemand x.group + 1)
  | .silent => s

/-- R60: entry to PLAY. -/
def engineEnterPlay (s : State) : State :=
  let t := forEach s.drawnStops drawAtEntry s
  forEach keyRows (fun r u => forEach (u.heldKeys r) (startKey r) u) t

/-- R61, R84: a drawn TREMULANT stop lowers its demand on leaving PLAY. -/
def cancelAtLeaving (n : Nat) (s : State) : State :=
  if (s.stop n).kind = .tremulant then lowerTremulant (s.stop n).tremulant s else s

/-- R61: leaving PLAY: every coupling ends, the lists and the pizzicato list are left empty, and the drawn TREMULANT
stops lower their demand. -/
def engineLeavePlay (s : State) : State :=
  let t := forEach keyRows (fun r u => forEach (u.heldKeys r) (endKey r) u) s
  let u := t.setEngine { t.engine with active := .empty }
  let v := u.setClaims { u.claims with pizz := [] }
  forEach v.drawnStops cancelAtLeaving v

/-- R62: entry to TUNE. -/
def engineEnterTune (s : State) : State :=
  match s.engine.tuning with
  | none => s
  | some sel => startTuningRow sel s

/-- R63: leaving TUNE: every tuning coupling ends, then the hold set is emptied. -/
def engineLeaveTune (s : State) : State :=
  let t := match s.engine.tuning with
    | none => s
    | some sel => endTuningRow sel s
  emptyTuningHolds t

end Sys2Proof.Machine
end

