-- ==== Sys2Proof/Machine/Rows.lean ====
section
/-! DEFINITION. The Scan Image Unit: the confirm filter, transition runs, general release, link loss, key counts
(chapter 1). -/

namespace Sys2Proof.Machine

/-- The positions below a number. -/
def below (n : Nat) : Image := imageOf (fun p => decide (p < n))

/-! ### Transition runs (R8, R9) -/

/-- R8: the run of an accepted row: every RELEASE in ascending position, then every PRESS; `true` is a PRESS. -/
def runOf (old new : Image) : List (Nat × Bool) :=
  (positions (old &&& ~~~new)).map (fun p => (p, false)) ++ (positions (new &&& ~~~old)).map (fun p => (p, true))

/-- R9: one transition handed to the consumer of its row kind. -/
def handOn (kind : RowKind) (r : Nat) (t : Nat × Bool) (s : State) : State :=
  match kind with
  | .key => keyTransition r t.1 t.2 s
  | .stop => stopTransition (32 * r + t.1) t.2 s
  | .input => inputTransition (32 * r + t.1) t.2 s

/-- R8: a run handed on whole and in its order. -/
def handRun (kind : RowKind) (r : Nat) (run : List (Nat × Bool)) (s : State) : State :=
  forEach run (handOn kind r) s

/-! ### General release (R13) -/

/-- R13: a row at a general release: held positions join the lockout, the held image is emptied, the candidate is
cleared, and a RELEASE is handed on for each position that was held. -/
def releaseRow (kind : RowKind) (r : Nat) (s : State) : State :=
  let row := s.row kind r
  handRun kind r (runOf row.held 0) (s.setRow kind r ⟨0, none, 0, row.lockout ||| row.held⟩)

/-- R13: a general release: key rows, then input rows, then the signal to the Trap Router (R102), the Sequence Unit
(R116) and the Claim Store (R59), which act on different state (log 16). -/
def generalRelease (s : State) : State :=
  let t := forEach (List.range 9) (releaseRow .key) s
  let u := forEach (List.range 3) (releaseRow .input) t
  emptyTuningHolds (stopAllPlayers (routerReleased u))

/-- A general release asked for inside the command is carried out (R12). -/
def releaseOnce (s : State) : State :=
  if s.scan.releaseDue then generalRelease (s.setScan { s.scan with releaseDue := false }) else s

/-- R12: general releases asked for by the run are taken after it. One that a general release itself asks for is taken
after it, finds every row empty and asks for no other (log 17). -/
def drainReleases (s : State) : State := releaseOnce (releaseOnce s)

/-! ### Arrival of a frame (R5 to R7) -/

/-- The confirm count that governs a row (R3). -/
def State.confirmOf (s : State) (kind : RowKind) (r : Nat) : Nat :=
  match kind with
  | .key => (s.keySetting r).confirm
  | .stop => s.scan.stopConfirm
  | .input => s.scan.inputConfirm

/-- R6: the positions of a row that a raw image may show. -/
def State.rowPositions (s : State) (kind : RowKind) (r : Nat) : Image :=
  match kind with
  | .key => below (s.keySetting r).keyCount
  | .stop | .input => below 32

/-- R6: the lockout after a raw image: positions shown up leave it. Stop rows have none (R10). -/
def lockoutAfter (kind : RowKind) (row : Row) (raw : Image) : Image :=
  match kind with
  | .stop => row.lockout
  | .key | .input => row.lockout &&& raw

/-- R6: the effective image. -/
def effectiveImage (kind : RowKind) (row : Row) (raw : Image) : Image :=
  match kind with
  | .stop => raw
  | .key | .input => raw &&& ~~~(row.lockout &&& raw)

/-- R7: candidate and count after an effective image. -/
def considered (row : Row) (eff : Image) : Row :=
  if eff = row.held then { row with candidate := none, count := 0 }
  else if row.candidate = some eff then { row with count := row.count + 1 }
  else { row with candidate := some eff, count := 1 }

/-- R7: the candidate accepted when its count reaches or exceeds the confirm count. -/
def accepted (confirm : Nat) (row : Row) : Row :=
  match row.candidate with
  | some image => if confirm ≤ row.count then { row with held := image, candidate := none, count := 0 } else row
  | none => row

/-- R6: a raw image with the bits that are no positions of the row dropped. For a key row the positions at or above the
key count are dropped from the image only; the lockout holds none of them (R2). -/
def State.rawImage (s : State) (kind : RowKind) (r : Nat) (image : Image) : Image := image &&& s.rowPositions kind r

/-- R6 to R8: a frame for a row in range. -/
def takeRow (kind : RowKind) (r : Nat) (image : Image) (s : State) : State :=
  let row := s.row kind r
  let raw := s.rawImage kind r image
  let next := accepted (s.confirmOf kind r)
    (considered { row with lockout := lockoutAfter kind row raw } (effectiveImage kind row raw))
  handRun kind r (runOf row.held next.held) (s.setRow kind r next)

/-- R5: the kind of a row-kind byte, if the relay knows it. -/
def rowKindOf (kind : Nat) : Option RowKind :=
  match kind with
  | 0 => some .key
  | 1 => some .stop
  | 2 => some .input
  | _ => none

/-- R5: a SCAN frame handed to the Scan Image Unit; an unknown kind or a row out of range is ignored. -/
def takeScan (kind r : Nat) (image : Image) (s : State) : State :=
  match rowKindOf kind with
  | none => s
  | some k => if r < rowCount k then drainReleases (takeRow k r image s) else s

/-! ### Link loss (R14) -/

/-- R14: a row at a console link DOWN: the held image is emptied with one RELEASE for each position held. -/
def loseRow (kind : RowKind) (r : Nat) (s : State) : State :=
  let row := s.row kind r
  handRun kind r (runOf row.held 0) (s.setRow kind r { row with held := 0 })

/-- R14: the candidate and the lockout of a row are cleared. -/
def clearRow (kind : RowKind) (r : Nat) (s : State) : State :=
  s.setRow kind r { s.row kind r with candidate := none, count := 0, lockout := 0 }

/-- R14: the Scan Image Unit at a console link DOWN. -/
def scanLinkLoss (s : State) : State :=
  let t := forEach (List.range 9) (loseRow .key) s
  let u := forEach (List.range 3) (loseRow .input) t
  let v := forEach (List.range 9) (clearRow .key) u
  let w := forEach (List.range 10) (clearRow .stop) v
  forEach (List.range 3) (clearRow .input) w

/-! ### Key counts (R4) -/

/-- R4: a write of a key row's record: a lower key count releases the held positions at or above it and trims the
lockout; any change of key count clears the candidate. -/
def writeKeySetting (r : Nat) (x : KeySetting) (s : State) : State :=
  let old := s.keySetting r
  let t := s.setKeySetting r x
  if x.keyCount = old.keyCount then t
  else
    let row := t.row .key r
    let kept := row.held &&& below x.keyCount
    handRun .key r (runOf row.held kept) (t.setRow .key r ⟨kept, none, 0, row.lockout &&& below x.keyCount⟩)

end Sys2Proof.Machine
end

