-- ==== Sys2Proof/Machine/Links.lean ====
section
/-! DEFINITION. The console link and the extension link (chapter 9), the return line (R158), the blink clock and the lamp
stretches (R168), and power-on reset. -/

namespace Sys2Proof.Machine

/-! ### Power-on reset -/

/-- POWER_ON_RESET: every block takes its power-on state and the strap inputs are read (R15, R156, R169). The
transmitters' first choice is left to the next command (log 8). -/
def execPowerOnReset (strap : Fin 4) (s : State) : Answer :=
  .next { State.reset with
    pending := s.pending
    status := { resetStatus with strap := strap }
    freeCount := s.freeCount }

/-! ### The console link (R152 to R155) -/

/-- R153: a good frame in TRAINING or UP sets the bad-frame run to 0 and restarts the link timer. -/
def renewLink (s : State) : State := s.setPort { s.port with badRun := 0, timer := some Config.linkTime }

/-- R152: the link state takes a new value; LINK is latched. -/
def enterLink (x : LinkState) (s : State) : State := latch .link (s.setPort { s.port with link := x })

/-- R154: a good frame other than HELLO in TRAINING; the third one in a row takes the link to UP. -/
def train (s : State) : State :=
  if s.port.goodRun + 1 < Config.goodRunLimit then s.setPort { s.port with goodRun := s.port.goodRun + 1 }
  else enterLink .up (s.setPort { s.port with goodRun := 0 })

/-- R153, R154, R156: a good frame other than HELLO: discarded in DOWN, where it changes nothing; counted in TRAINING;
taken by its type in UP. -/
def goodFrame (take : State → State) (s : State) : Answer :=
  match s.port.link with
  | .down => .next s
  | .training => .next (conclude s (train (renewLink s)))
  | .up => .next (conclude s (take (renewLink s)))

/-- R160: a frame goes down the extension link while that link is UP. -/
def forwardDown (bytes : Bytes) (s : State) : State :=
  if s.ext.up then s.setExt { s.ext with sentDown := s.ext.sentDown ++ [bytes] } else s

/-- R160: a console frame goes down unchanged. -/
def forwardFrame (i : Instr) (s : State) : State :=
  match consoleFrame i with
  | some bytes => forwardDown bytes s
  | none => s

/-- R155, R14, R91: the Scan Image Unit's part of a link loss and the Trap Router's. The spec gives no order; where the
order matters the choice is a free value (log 11). -/
def reportLoss (s : State) : State :=
  let scanFirst := routerLinkLoss (scanLinkLoss s)
  let routerFirst := scanLinkLoss (routerLinkLoss s)
  if scanFirst = routerFirst then scanFirst
  else
    let chosen := if Config.routerTakesLossFirst s.freeCount then routerFirst else scanFirst
    chosen.setFreeCount (s.freeCount + 1)

/-- R155: the link enters DOWN. -/
def enterDown (s : State) : State :=
  reportLoss (enterLink .down
    (s.setPort { s.port with timer := none, badRun := 0, goodRun := 0, requests := s.port.requests.take 1 }))

/-- R153: a bad frame in TRAINING or UP. -/
def countBad (s : State) : State :=
  if s.port.badRun + 1 < Config.badRunLimit then
    s.setPort { s.port with badRun := s.port.badRun + 1, goodRun := 0 }
  else enterDown s

/-! ### Frames from the console (R156) -/

/-- SCAN (R5, R156). -/
def execScan (kind row : Byte) (image : Image) (s : State) : Answer :=
  goodFrame (fun t => forwardFrame (.scan kind row image) (takeScan kind.toNat row.toNat image t)) s

/-- SHOE (R122, R156). -/
def execShoe (shoe : Byte) (sample : BitVec 16) (s : State) : Answer :=
  goodFrame (fun t => forwardFrame (.shoe shoe sample) (takeSample shoe.toNat sample.toNat t)) s

/-- R154, section 11.2: 5 keyboards, 320 stops, 96 route inputs, 4 chambers, 48 ranks, hardware revision 1. -/
def State.helloReply (s : State) : UpFrame :=
  .own 0x11#8 (s.strapByte :: byteOf 5 :: wordBytes 320 ++ [byteOf 96, byteOf 4, byteOf 48, byteOf 1])

/-- R154, step 3: the link state after a HELLO. -/
def startTraining (s : State) : State :=
  match s.port.link with
  | .down =>
    enterLink .training
      (s.setPort { s.port with badRun := 0, goodRun := 0, timer := some Config.linkTime })
  | .training => renewLink (s.setPort { s.port with goodRun := 0 })
  | .up => renewLink s

/-- HELLO (R154). -/
def execHello (s : State) : Answer :=
  .next (conclude s (startTraining (forwardFrame .hello (offer s.helloReply s))))

/-- R157: a request offered to the request queue, or turned away with BUSY. -/
def queueRequest (r : Request) (s : State) : State :=
  if s.port.requests.length < Config.requestCapacity then
    s.setPort { s.port with requests := s.port.requests ++ [r] }
  else offer (s.replyFrame r.tag .busy) s

/-- REQUEST (R156, R157). -/
def execRequest (address tag code : Byte) (fields : Bytes) (s : State) : Answer :=
  goodFrame
    (fun t =>
      if address = t.strapByte then queueRequest ⟨tag, code, fields⟩ t
      else forwardFrame (.request address tag code fields) t) s

/-- IDLE (R156). Its payload byte is ignored (R172). -/
def execIdle (_sender : Byte) (s : State) : Answer := goodFrame id s

/-- BAD_FRAME (R153): in DOWN it changes nothing. -/
def execBadFrame (s : State) : Answer :=
  if s.port.link = .down then .next s else .next (conclude s (countBad s))

/-- LINK_TIMER_EXPIRY (R153). A timer that is IDLE has no expiry. -/
def execLinkTimerExpiry (s : State) : Answer :=
  .next (conclude s (if s.port.timer.isSome then enterDown s else s))

/-! ### The extension link (R159, R160) -/

/-- R159: a change of the extension link state; EXT is latched. -/
def setExtUp (b : Bool) (s : State) : State :=
  if s.ext.up = b then s else latch .ext (s.setExt { s.ext with up := b })

/-- R159: a good frame from below restarts the extension timer and brings the link UP. -/
def renewExt (s : State) : State := setExtUp true (s.setExt { s.ext with timer := some Config.linkTime })

/-- EXT_UPSTREAM_FRAME (R160). The EXT latch comes before the frame is queued (log 20). -/
def execExtUpstreamFrame (bytes : Bytes) (s : State) : Answer :=
  .next (conclude s (offer (.forwarded bytes) (renewExt s)))

/-- EXT_IDLE (R160). -/
def execExtIdle (s : State) : Answer := .next (conclude s (renewExt s))

/-- EXT_BAD_FRAME: a bad frame from below changes nothing (R159). -/
def execExtBadFrame (s : State) : Answer := .next s

/-- EXT_TIMER_EXPIRY (R159). -/
def execExtTimerExpiry (s : State) : Answer :=
  .next (conclude s
    (if s.ext.timer.isSome then setExtUp false (s.setExt { s.ext with timer := none }) else s))

/-! ### The return line (R158) -/

/-- RETURN_FRAME_SENT: the frame on the line has been sent; a waiting frame follows it (R158). -/
def execReturnFrameSent (s : State) : Answer :=
  .next (conclude s
    (if s.port.line.isSome then startLine (s.setPort { s.port with line := none, silence := 0 }) else s))

/-- R158: the return line is free and nothing waits. -/
def State.lineQuiet (s : State) : Bool := s.port.line.isNone && s.port.returnQueue.isEmpty

/-- R171, R172: the relay's IDLE frame; its payload is the strap address. -/
def State.idleFrame (s : State) : UpFrame := .own 0x05#8 [s.strapByte]

/-- RETURN_LINE_SILENCE: 10 ms of silence with nothing waiting put out an IDLE frame (R158). -/
def execReturnLineSilence (s : State) : Answer :=
  .next (conclude s (if s.lineQuiet then offer s.idleFrame s else s))

/-! ### The blink clock and the stretches (R168) -/

/-- BLINK_CLOCK_TURN. -/
def execBlinkClockTurn (s : State) : Answer :=
  .next (conclude s
    (s.setStatus { s.status with blinkOn := !s.status.blinkOn, blinkLeft := Config.blinkHalf }))

/-- LAMP_STRETCH_EXPIRY. -/
def execLampStretchExpiry (item : EventItem) (s : State) : Answer :=
  .next (conclude s (s.setStretch (eventItem item) none))

end Sys2Proof.Machine
end

