-- ==== Sys2Proof/Machine/Modes.lean ====
section
/-! DEFINITION. The cross-check (R164) and the change of relay mode in every block (R163). -/

namespace Sys2Proof.Machine

/-! ### The cross-check, table by table (R30 to R32, R75, R130, R105, R110) -/

/-- R30: what a stop's kind asks of its ranks. -/
def State.stopAgrees (s : State) (x : StopRecord) : Bool :=
  match x.kind with
  | .silent | .tremulant | .routeMask => true
  | .tonal =>
    decide ((s.rank x.rank).kind = .pipe) &&
      (match x.borrow with
       | some b => decide ((s.rank b).kind = .pipe)
       | none => true)
  | .struck | .reiterate => decide ((s.rank x.rank).kind = .struck)

/-- R30, R31: the first stop of a list to fail, with the stops with mapping counted by row so far. -/
def State.failingStop (s : State) (counts : Table Nat) : List Nat → Option Nat
  | [] => none
  | n :: rest =>
    let x := s.stop n
    let count := counts.get 0 x.row + 1
    if x.kind.hasMapping then
      if s.stopAgrees x && decide (count ≤ Config.rowStopLimit) then
        s.failingStop (counts.put 0 x.row count) rest
      else some n
    else s.failingStop counts rest

/-- R32: two ranks share a point. -/
def RankRecord.overlaps (a b : RankRecord) : Bool :=
  decide (a.kind ≠ .none) && decide (b.kind ≠ .none) && decide (a.chamber = b.chamber) &&
    decide (a.base < b.base + b.noteCount) && decide (b.base < a.base + a.noteCount)

/-- R32: a rank fails when it shares a point with a lower-numbered rank. -/
def State.rankFails (s : State) (r : Nat) : Bool := (List.range r).any (fun q => (s.rank r).overlaps (s.rank q))

/-- R75: the tremulant is named by a TREMULANT stop, drawn or not. -/
def State.namedTremulant (s : State) (t : Nat) : Bool :=
  (List.range 320).any (fun n => decide ((s.stop n).kind = .tremulant) && decide ((s.stop n).tremulant = t))

/-- The output point of a tremulant (R74). -/
def TremulantRecord.output (x : TremulantRecord) : Point := ⟨x.chamber, x.point⟩

/-- R75: a named tremulant fails on a rank point or on the point of a lower-numbered named tremulant. -/
def State.tremulantFails (s : State) (t : Nat) : Bool :=
  s.namedTremulant t &&
    ((s.rankOf (s.tremulant t).output).isSome ||
      (List.range t).any (fun u => s.namedTremulant u && decide ((s.tremulant u).output = (s.tremulant t).output)))

/-- R130: a channel fails when a stage point is a rank point or the output point of a named tremulant. -/
def State.channelFails (s : State) (c : Nat) : Bool :=
  let r := (s.channel c).record
  (List.range r.stageCount).any (fun i =>
    let p : Point := ⟨c, r.base + i⟩
    (s.rankOf p).isSome ||
      (List.range 8).any (fun t => decide ((s.tremulant t).output = p) && s.namedTremulant t))

/-- R105, R110: the rank has the kind, and the note lies in its compass. -/
def State.noteFits (s : State) (kind : RankKind) (rank : Nat) (note : Int) : Bool :=
  decide ((s.rank rank).kind = kind) && (s.rank rank).inCompass note

/-- R105: what a route entry asks of the ranks and the directory. -/
def State.routeAgrees (s : State) (f : RouteFields) : Bool :=
  match f.trigger with
  | .split =>
    s.noteFits .struck f.tapRank f.tapNote &&
      s.noteFits (match f.holdKind with | .hold => .pipe | .roll => .struck) f.holdRank f.holdNote
  | .edge | .level =>
    match f.target with
    | .none | .releaseAll => true
    | .strike | .roll => s.noteFits .struck f.rank f.note
    | .hold => s.noteFits .pipe f.rank f.note
    | .sequence => f.sequences.all (fun q => (s.seqEntry q).first.isSome)

/-- R110: what an action asks of its rank. -/
def State.actionAgrees (s : State) (a : Action) : Bool :=
  match a.kind with
  | .strike => s.noteFits .struck a.rank a.note
  | .holdOn | .holdOff => s.noteFits .pipe a.rank a.note

/-- R110: the first step of a walk to hold a failing action; the walk ends at the first END step or after `fuel`
steps. -/
def State.failingStep (s : State) : Nat → Nat → Option Nat
  | 0, _ => none
  | fuel + 1, i =>
    let step := s.stepRecord i
    match step.kind with
    | .final => none
    | .timed => if step.actions.all s.actionAgrees then s.failingStep fuel ((i + 1) % 1024) else some i

/-- R110: the walk of a sequence; an undefined sequence is passed. -/
def State.failingSequence (s : State) (q : Nat) : Option Nat :=
  match (s.seqEntry q).first with
  | none => none
  | some i => s.failingStep 1024 i

/-- The codes of the tables (section 11.2). -/
inductive TableName where
  | stop
  | rank
  | route
  | tremulant
  | curve
  | seqdir
  | seqmem
  | scan
  | chamber
  | lamp
  | active
  | pizz
  deriving DecidableEq, Repr

/-- Section 11.2: the code of a table. -/
def tableCode : TableName → Nat
  | .stop => 1
  | .rank => 2
  | .route => 3
  | .tremulant => 4
  | .curve => 5
  | .seqdir => 6
  | .seqmem => 7
  | .scan => 8
  | .chamber => 9
  | .lamp => 10
  | .active => 11
  | .pizz => 12

/-- A failure with the table it is reported under. -/
def failure (t : TableName) : Option Nat → Option (Nat × Nat)
  | some i => some (tableCode t, i)
  | none => none

/-- R164: the first failing table and index, in the order of the tables; none when the cross-check passes. -/
def State.crossCheck (s : State) : Option (Nat × Nat) :=
  (failure .stop (s.failingStop .empty (List.range 320))).orElse fun _ =>
  (failure .rank ((List.range 48).find? s.rankFails)).orElse fun _ =>
  (failure .tremulant ((List.range 8).find? s.tremulantFails)).orElse fun _ =>
  (failure .curve ((List.range 4).find? s.channelFails)).orElse fun _ =>
  (failure .route (inputs.find? (fun i => !s.routeAgrees (s.route i).fields))).orElse fun _ =>
  failure .seqmem ((List.range 16).findSome? s.failingSequence)

/-! ### The change of mode (R163) -/

/-- R163: the mode takes a value; MODE is latched when the value changes. -/
def setMode (m : Mode) (s : State) : State :=
  if m = s.mode then s else latch .mode (s.setStatus { s.status with mode := m })

/-- R61, R104, R116, R84, R149: every block leaves PLAY, with CONFIG in force. -/
def leavePlay (s : State) : State := cancelStrikes (stopAllPlayers (routerLeavePlay (engineLeavePlay s)))

/-- R63, R85: every block leaves TUNE, with CONFIG in force. -/
def leaveTune (s : State) : State := cancelStrikes (engineLeaveTune s)

/-- R60, R103, R118: every block enters PLAY. -/
def enterPlay (s : State) : State := routerEnterPlay (engineEnterPlay s)

/-- R149, R62: every block enters TUNE. -/
def enterTune (s : State) : State := engineEnterTune (liftAllGuards s)

/-- R163, case 4, first part: the mode takes the value CONFIG and the old mode is left. -/
def leaveMode (s : State) : State :=
  let t := setMode .config s
  match s.mode with
  | .config => t
  | .play => leavePlay t
  | .tune => leaveTune t

/-- R163, case 4, second part: the mode takes the value asked for and is entered. -/
def enterMode (m : Mode) (s : State) : State :=
  let t := setMode m s
  match m with
  | .config => t
  | .play => enterPlay t
  | .tune => enterTune t

/-- R163: a MODE-SET and its reply. -/
def modeSet (m : Mode) (s : State) : State × Reply :=
  if m = s.mode then (s, .done [])
  else if m = .tune ∧ s.engine.tuning.isNone then (s, .unset)
  else if m = .config then (leaveMode s, .done [])
  else
    match s.crossCheck with
    | some (table, index) => (s, .inconsistent table index)
    | none => (enterMode m (leaveMode s), .done [])

end Sys2Proof.Machine
end

