-- ==== Sys2Proof/Machine/Service.lean ====
section
/-! DEFINITION. The service of a request: its acts, its REPLY, what was held behind the REPLY, and its leaving the
request queue (R157, R161, R167, R168). -/

namespace Sys2Proof.Machine

/-- R161: what the acts of a request answer. -/
abbrev Served := State × Reply

/-- R157: the REPLY is offered to the return queue. -/
def sendReply (tag : Byte) (reply : Reply) (s : State) : State := offer (s.replyFrame tag reply) s

/-- R157: the request served leaves the queue. The free values of its reply are used up (log 28). -/
def leaveQueue (s : State) : State :=
  (s.setPort { s.port with requests := s.port.requests.drop 1 }).setFreeCount (s.freeCount + 1)

/-- R157, R161, R167, R168: the end of a service, from the state and reply its acts have left: the REPLY is offered, the
held NOTICE and LAMP frames follow it, and the request leaves the queue. -/
def finishService (tag : Byte) (before : State) (acted : Served) : State :=
  leaveQueue (releaseHeld (sendReply tag acted.2 (holdLamps before acted.1)))

/-- A service: the request at the head of the queue, when it is the service's own, is served whole and the free
transmitters choose (R144). Otherwise there is nothing to serve (log 5). -/
def serveHead (serves : Request → Bool) (act : Bytes → State → Served) (s : State) : Answer :=
  match s.port.requests with
  | [] => .next s
  | r :: _ => if serves r then .next (transmitAll (finishService r.tag s (act r.fields s))) else .next s

/-- The request carries the code. -/
def hasCode (code : Byte) (r : Request) : Bool := decide (r.code = code)

/-- The request carries the code, and its first field byte is a value. -/
def hasCodeAnd (code first : Byte) (r : Request) : Bool := decide (r.code = code) && decide (r.fields.head? = some first)

/-- R175: fields read, or the first field out of range refused with all state unchanged. -/
def withFields {α : Type} (read : Except Nat α) (act : α → State → Served) (s : State) : Served :=
  match read with
  | .ok v => act v s
  | .error n => (s, .badRecord n)

/-- The free value bytes of a reply made now (log 12). -/
def State.fill (s : State) : Nat → Byte := Config.absentByte s.freeCount

end Sys2Proof.Machine
end

