-- ==== Sys2Proof/Machine/Requests.lean ====
section
/-! DEFINITION. The requests other than TABLE-WRITE and TABLE-READ (R161). -/

namespace Sys2Proof.Machine

/-! ### Shared parts -/

/-- R161: a request whose first field is a group, chamber or input number of one byte: BAD-INDEX beyond its table. -/
def withNumber (highest : Nat) (act : Nat → Bytes → State → Served) (fields : Bytes) (s : State) : Served :=
  match fields with
  | [] => (s, .badRecord 1)
  | b :: rest => if b.toNat ≤ highest then act b.toNat rest s else (s, .badIndex)

/-- R175: a request whose last field, `last`, has been read takes no further byte. -/
def withNoMore (last : Nat) (rest : Bytes) (act : State → Served) (s : State) : Served :=
  withFields (endFields last rest ()) (fun _ t => act t) s

/-! ### ECHO, unknown codes -/

/-- R175: 0 to 16 bytes, returned unchanged; more are refused with field 1. -/
def echoBack (fields : Bytes) (s : State) : Served :=
  if fields.length ≤ 16 then (s, .done fields) else (s, .badRecord 1)

/-- ECHO. -/
def execEcho (s : State) : Answer := serveHead (hasCode 0x01#8) echoBack s

/-- R161: a code that the relay does not know. -/
def unknownCode (r : Request) : Bool := decide (r.code = 0#8) || decide (0x11 < r.code.toNat)

/-- UNKNOWN_REQUEST. -/
def execUnknownRequest (s : State) : Answer := serveHead unknownCode (fun _ t => (t, .badRecord 0)) s

/-! ### MODE-SET (R163) -/

/-- R163: the mode asked for. -/
def readMode (bs : Bytes) : Except Nat Mode := field 1 (takeEnum modes) bs fun m rest => endFields 1 rest m

/-- R163: a MODE-SET. -/
def serveMode (fields : Bytes) (s : State) : Served := withFields (readMode fields) modeSet s

/-- The MODE-SET asks for the mode, or for none that there is (log 5). -/
def asksMode (m : Mode) (r : Request) : Bool :=
  hasCode 0x02#8 r &&
    (match r.fields.head? with
     | some b => decide (b = byteOf (modeCode m)) || decide (2 < b.toNat)
     | none => true)

/-- MODE_SET_CONFIG. -/
def execModeSetConfig (s : State) : Answer := serveHead (asksMode .config) serveMode s

/-- MODE_SET_PLAY. -/
def execModeSetPlay (s : State) : Answer := serveHead (asksMode .play) serveMode s

/-- MODE_SET_TUNE. -/
def execModeSetTune (s : State) : Answer := serveHead (asksMode .tune) serveMode s

/-! ### ROUTE-MASK (R90) -/

/-- R90: the mask value. -/
def readMask (bs : Bytes) : Except Nat Bool := field 2 (takeEnum masks) bs fun m rest => endFields 2 rest m

/-- R90: a ROUTE-MASK; general releases that it asks for follow (R12, R96). -/
def routeMask (fields : Bytes) (s : State) : Served :=
  withNumber 95 (fun i rest =>
    withFields (readMask rest) (fun m t => (drainReleases (writeMask i m t), .done []))) fields s

/-- ROUTE_MASK. -/
def execRouteMask (s : State) : Answer := serveHead (hasCode 0x05#8) routeMask s

/-! ### CHAMBER-RAISE and CHAMBER-LOWER (R136, R137) -/

/-- R136: a raise, by the chamber's state. -/
def raiseChamber (c : Nat) (s : State) : Served :=
  match (s.chamber c).state with
  | .dark => if (s.chamber c).present then (enterBlower c s, .done []) else (s, .chamberBusy)
  | .enabled => (s, .done [])
  | .blower | .settle | .lowering _ | .fault => (s, .chamberBusy)

/-- R137: a lowering, by the chamber's state. -/
def lowerChamber (c : Nat) (s : State) : Served :=
  match (s.chamber c).state with
  | .blower | .settle | .enabled | .fault => (enterLowering c s, .done [])
  | .dark | .lowering _ => (s, .done [])

/-- CHAMBER_RAISE. -/
def execChamberRaise (s : State) : Answer :=
  serveHead (hasCode 0x06#8) (withNumber 3 (fun c rest => withNoMore 1 rest (raiseChamber c))) s

/-- CHAMBER_LOWER. -/
def execChamberLower (s : State) : Answer :=
  serveHead (hasCode 0x07#8) (withNumber 3 (fun c rest => withNoMore 1 rest (lowerChamber c))) s

/-! ### TUNE-SELECT (R55, R57) -/

/-- R55: the fields of a tuning selection. -/
def readSelection (bs : Bytes) : Except Nat TuningSelection :=
  field 1 (takeNat 0 47) bs fun rank bs =>
  field 2 (takeNat 0 4) bs fun row bs =>
  field 3 (takeInt (-24) 48) bs fun offset bs =>
  endFields 3 bs ⟨rank, row, offset⟩

/-- The tuning selection takes a value. -/
def setSelection (sel : TuningSelection) (s : State) : State := s.setEngine { s.engine with tuning := some sel }

/-- R57: the tuning couplings of the present selection end. A state in TUNE has one (R163). -/
def endPresentTuning (s : State) : State :=
  match s.engine.tuning with
  | some old => endTuningRow old s
  | none => s

/-- R55, R57: a selection that passed its tests. -/
def select (sel : TuningSelection) (s : State) : State :=
  if s.mode = .tune then
    if s.engine.tuning = some sel then s else startTuningRow sel (setSelection sel (endPresentTuning s))
  else setSelection sel s

/-- TUNE_SELECT. -/
def execTuneSelect (s : State) : Answer :=
  serveHead (hasCode 0x08#8) (fun fields => withFields (readSelection fields) (fun sel t => (select sel t, .done []))) s

/-! ### TUNE-HOLD (R58) -/

/-- R58: the actions. -/
inductive HoldAction where
  | add
  | remove
  | clear
  deriving DecidableEq, Repr

/-- R58: the actions in the order of their definition. -/
def holdActions : List HoldAction := [.add, .remove, .clear]

/-- R58: the three fields. -/
def readHold (bs : Bytes) : Except Nat (HoldAction × Point) :=
  field 1 (takeEnum holdActions) bs fun action bs =>
  field 2 (takeNat 0 3) bs fun chamber bs =>
  field 3 (takeWord 0 1023) bs fun point bs =>
  endFields 3 bs (action, ⟨chamber, point⟩)

/-- The tuning hold set takes a value. -/
def setHolds (holds : List Point) (s : State) : State := s.setClaims { s.claims with holds := holds }

/-- R58: ADD. -/
def addHold (p : Point) (s : State) : Served :=
  if p ∈ s.claims.holds then (s, .done [])
  else if !s.isPipe p then (s, .badRecord 3)
  else if Config.tuningHoldCapacity ≤ s.claims.holds.length then (s, .badRecord 3)
  else (addClaim p (setHolds (s.claims.holds ++ [p]) s), .done [])

/-- R58: REMOVE. -/
def removeHold (p : Point) (s : State) : Served :=
  if p ∈ s.claims.holds then
    (removeClaim p (setHolds (s.claims.holds.filter (fun q => q ≠ p)) s), .done [])
  else (s, .done [])

/-- R58: a TUNE-HOLD whose fields passed. -/
def holdAct (x : HoldAction × Point) (s : State) : Served :=
  if s.mode ≠ .tune then (s, .wrongMode)
  else
    match x.1 with
    | .add => addHold x.2 s
    | .remove => removeHold x.2 s
    | .clear => (emptyTuningHolds s, .done [])

/-- R58: a TUNE-HOLD. -/
def serveHold (fields : Bytes) (s : State) : Served := withFields (readHold fields) holdAct s

/-- The TUNE-HOLD carries the action of a number, or none that there is (log 5). -/
def asksHold (action : Nat) (r : Request) : Bool :=
  hasCode 0x09#8 r &&
    (match r.fields.head? with
     | some b => decide (b.toNat = action) || decide (2 < b.toNat)
     | none => true)

/-- TUNE_HOLD_ADD. -/
def execTuneHoldAdd (s : State) : Answer := serveHead (asksHold 0) serveHold s

/-- TUNE_HOLD_REMOVE. -/
def execTuneHoldRemove (s : State) : Answer := serveHead (asksHold 1) serveHold s

/-- TUNE_HOLD_CLEAR. -/
def execTuneHoldClear (s : State) : Answer := serveHead (asksHold 2) serveHold s

/-! ### STATUS-READ, SNAPSHOT, STATUS-MASK (R166, R167) -/

/-- R166: the group is returned and its latched flags are cleared. -/
def readGroup (g : Nat) (s : State) : Served := (clearGroup g s, .done (s.groupData g))

/-- STATUS_READ. -/
def execStatusRead (s : State) : Answer :=
  serveHead (hasCode 0x0A#8) (withNumber 3 (fun g rest => withNoMore 1 rest (readGroup g))) s

/-- R176: the data of a SNAPSHOT. -/
def State.snapshotData (s : State) : Bytes :=
  (List.range 4).flatMap s.groupData ++ [byteOf (modeCode s.mode)] ++
    (List.range 4).map (fun c => byteOf (stateCode (s.chamber c).state))

/-- R166: all groups are returned and every latched flag is cleared. -/
def takeSnapshot (s : State) : Served := (forEach (List.range 4) clearGroup s, .done s.snapshotData)

/-- SNAPSHOT. -/
def execSnapshot (s : State) : Answer :=
  serveHead (hasCode 0x0C#8) (fun fields => withNoMore 0 fields takeSnapshot) s

/-- R167: an item of a group and a mask value. -/
def readItemMask (g : Nat) (bs : Bytes) : Except Nat (StatusItem × Bool) :=
  field 2 (takeEnum (groupItems g)) bs fun item bs =>
  field 3 (takeEnum masks) bs fun mask bs =>
  endFields 3 bs (item, mask)

/-- R167: an item's mask flag takes a value, and attention is computed again. -/
def maskItem (x : StatusItem × Bool) (s : State) : Served := (announce s (s.setMasked x.1 x.2), .done [])

/-- STATUS_MASK. -/
def execStatusMask (s : State) : Answer :=
  serveHead (hasCode 0x0B#8) (withNumber 3 (fun g rest => withFields (readItemMask g rest) maskItem)) s

/-! ### CIPHER-READ and CIPHER-CLEAR (R148) -/

/-- R148: the cipher list of a chamber. -/
def readCiphers (c : Nat) (s : State) : Served := (s, .done (listBytes cipherBytes (s.chamber c).ciphers))

/-- CIPHER_READ. -/
def execCipherRead (s : State) : Answer :=
  serveHead (hasCode 0x0D#8) (withNumber 3 (fun c rest => withNoMore 1 rest (readCiphers c))) s

/-- R148: the two fields; `none` is ALL. Chamber ALL takes point ALL alone. -/
def readCipherClear (bs : Bytes) : Except Nat (Option Nat × Option Nat) :=
  field 1 (takeNatOr 3) bs fun chamber bs =>
  field 2 (takeWordOr 1023) bs fun point bs =>
  test 2 (chamber.isSome || point.isNone) <|
  endFields 2 bs (chamber, point)

/-- R148: the guards named are lifted. -/
def clearCiphers (x : Option Nat × Option Nat) (s : State) : State :=
  match x with
  | (some c, some p) => liftGuard ⟨c, p⟩ s
  | (some c, none) => liftChamber c s
  | (none, _) => forEach (List.range 4) liftChamber s

/-- CIPHER_CLEAR. -/
def execCipherClear (s : State) : Answer :=
  serveHead (hasCode 0x0E#8)
    (fun fields => withFields (readCipherClear fields) (fun x t => (clearCiphers x t, .done []))) s

/-! ### POINT-QUERY (R161, R176) -/

/-- R161: chamber and point. -/
def readPoint (bs : Bytes) : Except Nat Point :=
  field 1 (takeNat 0 3) bs fun chamber bs =>
  field 2 (takeWord 0 1023) bs fun point bs =>
  endFields 2 bs ⟨chamber, point⟩

/-- R176: the code of a class of point. -/
def classCode : PointClass → Nat
  | .pipe => 0
  | .struck => 1
  | .stage _ => 2
  | .tremulant => 3
  | .other => 4

/-- R145: the driven value of a point: what the driver board was last told. -/
def State.drivenBit (s : State) (p : Point) : Bool :=
  ((s.chamber p.chamber).group (p.point / 64)).driven.getLsbD (p.point % 64)

/-- R150: the pipe part: guard, on-timer in units of 10 ms rounded up, listed. -/
def State.pipePart (s : State) (p : Point) : Option Bytes :=
  if s.isPipe p then
    let ch := s.chamber p.chamber
    some (yesNoByte (ch.guarded p.point) :: wordBytes (((ch.onTimer p.point).getD 0 + 9) / 10) ++
      [yesNoByte (ch.ciphers.any (fun e => decide (e.point = p.point)))])
  else none

/-- R66, R176: the generator item of a struck point. -/
def State.generatorItem (s : State) (p : Point) : Byte :=
  match s.servedBy (.struck p) with
  | some g => byteOf g
  | none => if s.isWaiting p then 0xFE#8 else 0xFF#8

/-- R82: the struck part. -/
def State.struckPart (s : State) (p : Point) : Option Bytes :=
  if s.isStruck p then
    some (byteOf ((s.strikeTimer p).getD 0) :: wordBytes (s.demandOf p) ++
      [s.generatorItem p, yesNoByte (s.drivenValue p)])
  else none

/-- R82: the lowest-numbered tremulant named by a TREMULANT stop whose output point is the point. -/
def State.namedTremulantAt (s : State) (p : Point) : Option Nat :=
  (List.range 8).find? (fun t => s.tremulantAt p t && s.namedTremulant t)

/-- R82: the tremulant part; the point's value is on while any tremulant there drives it (R143). -/
def State.tremulantPart (s : State) (p : Point) : Option Bytes :=
  match s.namedTremulantAt p with
  | none => none
  | some t =>
    some (byteOf t :: wordBytes (s.tremulantDemand t) ++
      [natOrByte (s.servedBy (.tremulant t)),
        yesNoByte ((List.range 8).any (fun u => s.tremulantAt p u && s.tremulantValue u))])
where
  /-- A generator number, or 0xFF for absent. -/
  natOrByte : Option Nat → Byte
    | some g => byteOf g
    | none => 0xFF#8

/-- R129: the stage part. -/
def State.stagePart (s : State) (p : Point) : Option Bytes :=
  match s.stageIndex p with
  | none => none
  | some i =>
    let ch := s.channel p.chamber
    some [byteOf p.chamber, byteOf i, byteOf ch.stage, byteOf ch.goal, yesNoByte (s.stageValue p.chamber i)]

/-- R176: the data of a POINT-QUERY. The bytes of an absent part are free (log 12); each part follows its own condition
(log 34). -/
def State.pointData (s : State) (p : Point) : Bytes :=
  [byteOf (classCode (s.pointClass p)), yesNoByte (s.nextValue p), yesNoByte (s.drivenBit p),
    byteOf (stateCode (s.chamber p.chamber).state)] ++
    wordBytes (s.claimCount p) ++
    optionalBytes s.fill 0 4 id (s.pipePart p) ++
    optionalBytes s.fill 4 5 id (s.struckPart p) ++
    optionalBytes s.fill 9 5 id (s.tremulantPart p) ++
    optionalBytes s.fill 14 5 id (s.stagePart p)

/-- POINT_QUERY. -/
def execPointQuery (s : State) : Answer :=
  serveHead (hasCode 0x0F#8)
    (fun fields => withFields (readPoint fields) (fun p t => (t, .done (t.pointData p)))) s

/-! ### RELEASE-ALL (R161) -/

/-- R161, R13: a general release is handed to the Scan Image Unit and carried out. -/
def releaseAll (s : State) : Served := (drainReleases (askRelease s), .done [])

/-- RELEASE_ALL. -/
def execReleaseAll (s : State) : Answer :=
  serveHead (hasCode 0x10#8) (fun fields => withNoMore 0 fields releaseAll) s

/-! ### RELAY-RESET (R169) -/

/-- R169: every block takes its power-on values. Kept: the strap address, the console link state with its runs and
timer, the return queue and the frame being sent, the blink clock, the driven images and the frames on the chamber links
(R145). The requests behind are removed without a reply. -/
def resetBlocks (s : State) : State :=
  let chambers := forEach (List.range 4) (fun c t => t.setChamber c (s.chamber c).relayReset) State.reset
  { chambers with
    pending := s.pending
    port := { s.port with requests := [] }
    ext := { resetExt with sentDown := s.ext.sentDown }
    status := { resetStatus with
      strap := s.status.strap
      blinkOn := s.status.blinkOn
      blinkLeft := s.status.blinkLeft }
    freeCount := s.freeCount }

/-- R169: the REPLY, what was held behind it, and a LAMP frame of all dark outputs if any lamp was lit (log 22); then
the reset, after which the free transmitters choose. -/
def relayReset (tag : Byte) (s : State) : State :=
  let t := releaseHeld (offer (s.replyFrame tag (.done [])) s)
  let u := if s.lampOutputs = 0 then t else offer (t.lampFrame 0) t
  transmitAll (resetBlocks u)

/-- RELAY_RESET. A request with field bytes is refused with field 1 (R175). -/
def execRelayReset (s : State) : Answer :=
  match s.port.requests with
  | [] => .next s
  | r :: _ =>
    if hasCode 0x11#8 r then
      if r.fields = [] then .next (relayReset r.tag s)
      else .next (transmitAll (finishService r.tag s (s, .badRecord 1)))
    else .next s

end Sys2Proof.Machine
end

