-- ==== Sys2Proof/Machine/TableRequests.lean ====
section
/-! DEFINITION. TABLE-WRITE and TABLE-READ (R162), table by table. -/

namespace Sys2Proof.Machine

/-! ### Shared parts -/

/-- The request is a TABLE-WRITE of the table. -/
def writes (t : TableName) : Request → Bool := hasCodeAnd 0x03#8 (byteOf (tableCode t))

/-- The request is a TABLE-READ of the table. -/
def reads (t : TableName) : Request → Bool := hasCodeAnd 0x04#8 (byteOf (tableCode t))

/-- R162, R175: the index of a table request, after its table code; a missing or too high index is BAD-INDEX. -/
def withIndex (highest : Nat) (act : Nat → Bytes → State → Served) (fields : Bytes) (s : State) : Served :=
  match fields with
  | _ :: hi :: lo :: rest => if wordOf hi lo ≤ highest then act (wordOf hi lo) rest s else (s, .badIndex)
  | _ => (s, .badIndex)

/-- R162: the relay mode is PLAY or TUNE, in which some fields are frozen. -/
def State.frozen (s : State) : Bool := decide (s.mode ≠ .config)

/-- R162: a TABLE-WRITE: the record is read, then the mode test made, then the write taken and answered DONE. -/
def writeRecord {α : Type} (highest : Nat) (read : Bytes → Except Nat α) (refused : Nat → α → State → Bool)
    (take : Nat → α → State → State) (fields : Bytes) (s : State) : Served :=
  withIndex highest (fun i rest =>
    withFields (read rest) (fun x t => if refused i x t then (t, .wrongMode) else (take i x t, .done []))) fields s

/-- R162, R175: a TABLE-READ: the data of a record, with no field after the index (log 32). -/
def readRecord (highest : Nat) (data : Nat → State → Bytes) (fields : Bytes) (s : State) : Served :=
  withIndex highest (fun i rest => withFields (endFields 0 rest ()) (fun _ t => (t, .done (data i t)))) fields s

/-- Nothing is refused by mode. -/
def neverRefused {α : Type} (_ : Nat) (_ : α) (_ : State) : Bool := false

/-! ### STOP (R26, R29) -/

/-- R29: the STOP write is refused by mode: a mapping field differs. The pizzicato length is the only voicing field. -/
def stopRefused (n : Nat) (x : StopRecord) (s : State) : Bool :=
  s.frozen && decide ({ x with pizz := (s.stop n).pizz } ≠ s.stop n)

/-- TABLE_WRITE_STOP. -/
def execTableWriteStop (s : State) : Answer :=
  serveHead (writes .stop) (writeRecord 319 readStop stopRefused (fun n x t => t.setStop n x)) s

/-- TABLE_READ_STOP. -/
def execTableReadStop (s : State) : Answer :=
  serveHead (reads .stop) (readRecord 319 (fun n t => stopBytes t.fill (t.stop n))) s

/-! ### RANK (R19, R29) -/

/-- R29: the RANK write is refused by mode: kind, chamber, base point, lowest note or note count differs. -/
def rankRefused (r : Nat) (x : RankRecord) (s : State) : Bool :=
  let old := s.rank r
  s.frozen &&
    !(decide (x.kind = old.kind) && decide (x.chamber = old.chamber) && decide (x.base = old.base) &&
      decide (x.lowest = old.lowest) && decide (x.noteCount = old.noteCount))

/-- R19, R66: a taken RANK write; the points that leave the struck class lose their items. -/
def takeRank (r : Nat) (x : RankRecord) (s : State) : State := dropUnstruck (s.setRank r x)

/-- TABLE_WRITE_RANK. -/
def execTableWriteRank (s : State) : Answer :=
  serveHead (writes .rank) (writeRecord 47 readRank rankRefused takeRank) s

/-- TABLE_READ_RANK. -/
def execTableReadRank (s : State) : Answer :=
  serveHead (reads .rank) (readRecord 47 (fun r t => rankBytes (t.rank r))) s

/-! ### ROUTE (R89, R90) -/

/-- R90: the ROUTE write is refused by mode: a field other than mask and defer differs. -/
def routeRefused (i : Nat) (x : RouteFields) (s : State) : Bool :=
  let old := (s.route i).fields
  s.frozen && decide ({ x with masked := old.masked, defer := old.defer } ≠ old)

/-- R89: a write taken in CONFIG replaces the fields; a change of polarity sets the input level afresh from the contact,
with no activation or deactivation. -/
def takeRouteConfig (i : Nat) (x : RouteFields) (s : State) : State :=
  let e := s.route i
  let fresh := decide (s.port.link = .up) && xor (s.contact i) x.inverted
  s.setRoute i { e with fields := x, active := if x.inverted = e.fields.inverted then e.active else fresh }

/-- R90, step 1: a PENDING entry whose new defer is no returns to IDLE. -/
def dropPending (i : Nat) (defer : Bool) (s : State) : State :=
  if (s.route i).state = .pending ∧ !defer then setRouteState i .idle none s else s

/-- R90: a write taken in PLAY or TUNE: defer takes its value, and then the mask. General releases that this asks for
follow (R12, R96). -/
def takeRouteFrozen (i : Nat) (x : RouteFields) (s : State) : State :=
  let t := dropPending i x.defer s
  let e := t.route i
  drainReleases (writeMask i x.masked (t.setRoute i { e with fields := { e.fields with defer := x.defer } }))

/-- R89, R90: a taken ROUTE write. -/
def takeRoute (i : Nat) (x : RouteFields) (s : State) : State :=
  if s.frozen then takeRouteFrozen i x s else takeRouteConfig i x s

/-- TABLE_WRITE_ROUTE. -/
def execTableWriteRoute (s : State) : Answer :=
  serveHead (writes .route) (writeRecord 95 readRoute routeRefused takeRoute) s

/-- TABLE_READ_ROUTE. -/
def execTableReadRoute (s : State) : Answer :=
  serveHead (reads .route) (readRecord 95 (fun i t => routeBytes (t.route i))) s

/-! ### TREMULANT (R74) -/

/-- R74: the TREMULANT write is refused by mode: chamber or point differs. -/
def tremulantRefused (n : Nat) (x : TremulantRecord) (s : State) : Bool :=
  s.frozen && decide (x.output ≠ (s.tremulant n).output)

/-- TABLE_WRITE_TREMULANT. -/
def execTableWriteTremulant (s : State) : Answer :=
  serveHead (writes .tremulant) (writeRecord 7 readTremulant tremulantRefused (fun n x t => t.setTremulant n x)) s

/-- TABLE_READ_TREMULANT. -/
def execTableReadTremulant (s : State) : Answer :=
  serveHead (reads .tremulant) (readRecord 7 (fun n t => tremulantBytes (t.tremulant n))) s

/-! ### CURVE (R123, R124) -/

/-- R123: the CURVE write is refused by mode: stage count or stage base differs. -/
def curveRefused (c : Nat) (x : CurveRecord) (s : State) : Bool :=
  let old := (s.channel c).record
  s.frozen && !(decide (x.stageCount = old.stageCount) && decide (x.base = old.base))

/-- TABLE_WRITE_CURVE. -/
def execTableWriteCurve (s : State) : Answer :=
  serveHead (writes .curve) (writeRecord 3 readCurve curveRefused writeCurve) s

/-- TABLE_READ_CURVE. -/
def execTableReadCurve (s : State) : Answer :=
  serveHead (reads .curve) (readRecord 3 (fun c t => curveBytes (t.channel c) (t.workingSample c))) s

/-! ### SEQDIR and SEQMEM (R108, R109) -/

/-- R108, R109: the write is refused in PLAY and TUNE. -/
def sequenceRefused {α : Type} (_ : Nat) (_ : α) (s : State) : Bool := s.frozen

/-- TABLE_WRITE_SEQDIR. -/
def execTableWriteSeqdir (s : State) : Answer :=
  serveHead (writes .seqdir) (writeRecord 15 readSeqEntry sequenceRefused (fun q x t => t.setSeqEntry q x)) s

/-- TABLE_READ_SEQDIR. -/
def execTableReadSeqdir (s : State) : Answer :=
  serveHead (reads .seqdir) (readRecord 15 (fun q t => seqEntryBytes t.fill (t.seqEntry q))) s

/-- TABLE_WRITE_SEQMEM. -/
def execTableWriteSeqmem (s : State) : Answer :=
  serveHead (writes .seqmem) (writeRecord 1023 readStep sequenceRefused (fun i x t => t.setStepRecord i x)) s

/-- TABLE_READ_SEQMEM. -/
def execTableReadSeqmem (s : State) : Answer :=
  serveHead (reads .seqmem) (readRecord 1023 (fun i t => stepBytes (t.stepRecord i))) s

/-! ### SCAN (R3, R4) -/

/-- R3: the three shapes of a SCAN record. -/
inductive ScanRecord where
  | keyRow (x : KeySetting)
  | confirm (n : Nat)
  deriving DecidableEq, Repr

/-- R3: the record of a SCAN index. -/
def readScanRecord (i : Nat) (bs : Bytes) : Except Nat ScanRecord :=
  if i ≤ 8 then (readKeySetting bs).map .keyRow else (readConfirm bs).map .confirm

/-- R3, R4: a taken SCAN write. Index 9 holds the confirm count of all stop rows, index 10 that of all input rows. -/
def takeScanRecord (i : Nat) (x : ScanRecord) (s : State) : State :=
  match x with
  | .keyRow k => writeKeySetting i k s
  | .confirm n =>
    if i = 9 then s.setScan { s.scan with stopConfirm := n } else s.setScan { s.scan with inputConfirm := n }

/-- R3: a TABLE-WRITE of SCAN, served in every mode. -/
def writeScan (fields : Bytes) (s : State) : Served :=
  withIndex 10 (fun i rest => withFields (readScanRecord i rest) (fun x t => (takeScanRecord i x t, .done []))) fields s

/-- TABLE_WRITE_SCAN. -/
def execTableWriteScan (s : State) : Answer := serveHead (writes .scan) writeScan s

/-- R176: the fields of a SCAN record. -/
def scanData (i : Nat) (s : State) : Bytes :=
  if i ≤ 8 then [byteOf (s.keySetting i).keyCount, byteOf (s.keySetting i).confirm]
  else if i = 9 then [byteOf s.scan.stopConfirm]
  else [byteOf s.scan.inputConfirm]

/-- TABLE_READ_SCAN. -/
def execTableReadScan (s : State) : Answer := serveHead (reads .scan) (readRecord 10 scanData) s

/-! ### CHAMBER (R135) -/

/-- R135: a taken CHAMBER write; a timer already running keeps its remaining time. -/
def takeChamberRecord (c : Nat) (x : Nat × Nat) (s : State) : State :=
  s.setChamber c { s.chamber c with windTimeout := x.1, settle := x.2 }

/-- TABLE_WRITE_CHAMBER. -/
def execTableWriteChamber (s : State) : Answer :=
  serveHead (writes .chamber) (writeRecord 3 readChamber neverRefused takeChamberRecord) s

/-- R176: the fields of a CHAMBER record. -/
def chamberData (c : Nat) (s : State) : Bytes :=
  byteOf (s.chamber c).windTimeout :: wordBytes (s.chamber c).settle

/-- TABLE_READ_CHAMBER. -/
def execTableReadChamber (s : State) : Answer := serveHead (reads .chamber) (readRecord 3 chamberData) s

/-! ### LAMP (R168) -/

/-- TABLE_WRITE_LAMP. -/
def execTableWriteLamp (s : State) : Answer :=
  serveHead (writes .lamp) (writeRecord 15 readLamp neverRefused (fun n x t => t.setLamp n x)) s

/-- TABLE_READ_LAMP. -/
def execTableReadLamp (s : State) : Answer :=
  serveHead (reads .lamp) (readRecord 15 (fun n t => lampBytes (t.lamp n))) s

/-! ### ACTIVE and PIZZ (R43, R54) -/

/-- TABLE_READ_ACTIVE. -/
def execTableReadActive (s : State) : Answer :=
  serveHead (reads .active) (readRecord 8 (fun r t => listBytes wordBytes (t.active r))) s

/-- TABLE_READ_PIZZ. -/
def execTableReadPizz (s : State) : Answer :=
  serveHead (reads .pizz) (readRecord 0 (fun _ t => listBytes pizzBytes t.claims.pizz)) s

/-! ### NO-SUCH-TABLE (R162, R175) -/

/-- R162: the codes of the tables that can be written. -/
def writable (code : Nat) : Bool := decide (1 ≤ code) && decide (code ≤ 10)

/-- R162: the codes of the tables that can be read. -/
def readable (code : Nat) : Bool := decide (1 ≤ code) && decide (code ≤ 12)

/-- R162, R175: the request names no table, none that the relay knows, or one that cannot be written. -/
def namesNoTable (r : Request) : Bool :=
  match r.fields with
  | [] => decide (r.code = 0x03#8) || decide (r.code = 0x04#8)
  | t :: _ => (decide (r.code = 0x03#8) && !writable t.toNat) || (decide (r.code = 0x04#8) && !readable t.toNat)

/-- NO_SUCH_TABLE. -/
def execNoSuchTable (s : State) : Answer := serveHead namesNoTable (fun _ t => (t, .noSuchTable)) s

end Sys2Proof.Machine
end

