-- ==== Sys2Proof/Machine/Timers.lean ====
section
/-! DEFINITION. The events of the chambers and their links (chapter 8), and the expiries of the pool, the pizzicato
list, the router, the players and the expression channels. An expiry acts on a running timer, whatever its remaining
time (log 3); a timer that is IDLE has none (log 6). -/

namespace Sys2Proof.Machine

/-! ### Chambers -/

/-- CHSTATUS (R141). -/
def execChstatus (c : Fin 4) (windReady supplyOk : Bool) (boards : BitVec 16) (s : State) : Answer :=
  .next (conclude s (takeStatus c windReady supplyOk boards s))

/-- CHAMBER_BAD_FRAME: a bad frame is discarded and changes nothing (R141). -/
def execChamberBadFrame (_c : Fin 4) (s : State) : Answer := .next s

/-- CHAMBER_LINK_TIMER_EXPIRY (R141). -/
def execChamberLinkTimerExpiry (c : Fin 4) (s : State) : Answer := .next (conclude s (chamberLinkExpires c s))

/-- WIND_TIMER_EXPIRY (R138). -/
def execWindTimerExpiry (c : Fin 4) (s : State) : Answer := .next (conclude s (windExpires c s))

/-- SETTLE_TIMER_EXPIRY (R138). -/
def execSettleTimerExpiry (c : Fin 4) (s : State) : Answer := .next (conclude s (settleExpires c s))

/-- DRAIN_TIMER_EXPIRY (R140). -/
def execDrainTimerExpiry (c : Fin 4) (s : State) : Answer := .next (conclude s (drainExpires c s))

/-- DRIVE_SENT (R140, R144). -/
def execDriveSent (c : Fin 4) (s : State) : Answer := .next (conclude s (driveEnds c s))

/-- CONTROL_SENT (R140, R144). -/
def execControlSent (c : Fin 4) (s : State) : Answer := .next (conclude s (controlEnds c s))

/-- GROUP_AGE_EXPIRY (R144). -/
def execGroupAgeExpiry (c : Fin 4) (g : Fin 16) (s : State) : Answer := .next (conclude s (groupAges c g s))

/-- CONTROL_AGE_EXPIRY (R144). -/
def execControlAgeExpiry (c : Fin 4) (s : State) : Answer := .next (conclude s (controlAges c s))

/-- ON_TIMER_EXPIRY (R147). -/
def execOnTimerExpiry (c : Fin 4) (p : Fin 1024) (s : State) : Answer :=
  .next (conclude s (onTimerExpires ⟨c, p⟩ s))

/-! ### Strikes and generators (R68, R72) -/

/-- STRIKE_TIMER_EXPIRY (R68). -/
def execStrikeTimerExpiry (c : Fin 4) (p : Fin 1024) (s : State) : Answer :=
  .next (conclude s (s.setStrikeTimer ⟨c, p⟩ none))

/-- R72: the counter of a SERVING generator equals A and its level goes off. -/
def levelOff (g : Nat) (s : State) : State :=
  match s.generator g with
  | some v => if v.level then s.setGenerator g (some { v with counter := v.onValue, level := false }) else s
  | none => s

/-- GENERATOR_LEVEL_OFF (R72). -/
def execGeneratorLevelOff (g : Fin 32) (s : State) : Answer := .next (conclude s (levelOff g s))

/-- R72: the counter of a SERVING generator returns to 0: the level goes on, and P and A are loaded anew. -/
def returnToZero (g : Nat) (s : State) : State :=
  match s.generator g with
  | some v =>
    let times := s.clientTimes v.client
    s.setGenerator g (some ⟨v.client, 0, true, times.1, times.2⟩)
  | none => s

/-- GENERATOR_RETURN_TO_ZERO (R72). -/
def execGeneratorReturnToZero (g : Fin 32) (s : State) : Answer := .next (conclude s (returnToZero g s))

/-! ### Pizzicato (R52) -/

/-- R52: the entry of a coupling becomes SPENT with no time left. -/
def spendPizz (r k n : Nat) (s : State) : State :=
  s.setClaims { s.claims with
    pizz := s.claims.pizz.map (fun e => if e.names r k n then { e with remaining := 0, spent := true } else e) }

/-- R52: a RUNNING entry expires: its claim is removed and it stays in the list as SPENT. -/
def pizzExpires (r k n : Nat) (s : State) : State :=
  match s.pizzEntry r k n with
  | some e => if e.spent then s else removeClaim e.target (spendPizz r k n s)
  | none => s

/-- PIZZICATO_EXPIRY (R52). -/
def execPizzicatoExpiry (row : Fin 9) (key : Fin 64) (stop : Fin 320) (s : State) : Answer :=
  .next (conclude s (pizzExpires row key stop s))

/-! ### Router, players, channels -/

/-- R99: the split timer of a MEASURING entry expires and its hold service starts. -/
def splitExpires (i : Nat) (s : State) : State :=
  let e := s.route i
  if e.state = .measuring ∧ e.timer.isSome then startService i (setRouteState i .inService none s) else s

/-- SPLIT_TIMER_EXPIRY (R99). -/
def execSplitTimerExpiry (input : Fin 96) (s : State) : Answer := .next (conclude s (splitExpires input s))

/-- R114, R115: the step timer of a player expires: a RUNNING player moves on, a FINISHING player stops. -/
def stepExpires (n : Nat) (s : State) : State :=
  match s.player n with
  | some run => if run.finishing then stopPlayer n s else moveOn n s
  | none => s

/-- STEP_TIMER_EXPIRY (R114). -/
def execStepTimerExpiry (player : Fin 8) (s : State) : Answer := .next (conclude s (stepExpires player s))

/-- SLEW_TIMER_EXPIRY (R127). -/
def execSlewTimerExpiry (channel : Fin 4) (s : State) : Answer := .next (conclude s (slewExpires channel s))

end Sys2Proof.Machine
end

