-- ==== Sys2Proof/Machine/Dispatch.lean ====
section
/-! DEFINITION. One arm per command of spec/opcode_table.json. -/

namespace Sys2Proof.Machine

def exec (i : Instr) (s : State) : Host.Outcome State Fault Refusal :=
  match i with
  | .powerOnReset strap => Sys2Proof.Machine.execPowerOnReset strap s
  | .scan kind row image => Sys2Proof.Machine.execScan kind row image s
  | .shoe shoe sample => Sys2Proof.Machine.execShoe shoe sample s
  | .hello => Sys2Proof.Machine.execHello s
  | .request address tag code fields => Sys2Proof.Machine.execRequest address tag code fields s
  | .idle sender => Sys2Proof.Machine.execIdle sender s
  | .badFrame => Sys2Proof.Machine.execBadFrame s
  | .linkTimerExpiry => Sys2Proof.Machine.execLinkTimerExpiry s
  | .echo => Sys2Proof.Machine.execEcho s
  | .modeSetConfig => Sys2Proof.Machine.execModeSetConfig s
  | .modeSetPlay => Sys2Proof.Machine.execModeSetPlay s
  | .modeSetTune => Sys2Proof.Machine.execModeSetTune s
  | .tableWriteStop => Sys2Proof.Machine.execTableWriteStop s
  | .tableWriteRank => Sys2Proof.Machine.execTableWriteRank s
  | .tableWriteRoute => Sys2Proof.Machine.execTableWriteRoute s
  | .tableWriteTremulant => Sys2Proof.Machine.execTableWriteTremulant s
  | .tableWriteCurve => Sys2Proof.Machine.execTableWriteCurve s
  | .tableWriteSeqdir => Sys2Proof.Machine.execTableWriteSeqdir s
  | .tableWriteSeqmem => Sys2Proof.Machine.execTableWriteSeqmem s
  | .tableWriteScan => Sys2Proof.Machine.execTableWriteScan s
  | .tableWriteChamber => Sys2Proof.Machine.execTableWriteChamber s
  | .tableWriteLamp => Sys2Proof.Machine.execTableWriteLamp s
  | .tableReadStop => Sys2Proof.Machine.execTableReadStop s
  | .tableReadRank => Sys2Proof.Machine.execTableReadRank s
  | .tableReadRoute => Sys2Proof.Machine.execTableReadRoute s
  | .tableReadTremulant => Sys2Proof.Machine.execTableReadTremulant s
  | .tableReadCurve => Sys2Proof.Machine.execTableReadCurve s
  | .tableReadSeqdir => Sys2Proof.Machine.execTableReadSeqdir s
  | .tableReadSeqmem => Sys2Proof.Machine.execTableReadSeqmem s
  | .tableReadScan => Sys2Proof.Machine.execTableReadScan s
  | .tableReadChamber => Sys2Proof.Machine.execTableReadChamber s
  | .tableReadLamp => Sys2Proof.Machine.execTableReadLamp s
  | .tableReadActive => Sys2Proof.Machine.execTableReadActive s
  | .tableReadPizz => Sys2Proof.Machine.execTableReadPizz s
  | .noSuchTable => Sys2Proof.Machine.execNoSuchTable s
  | .unknownRequest => Sys2Proof.Machine.execUnknownRequest s
  | .routeMask => Sys2Proof.Machine.execRouteMask s
  | .chamberRaise => Sys2Proof.Machine.execChamberRaise s
  | .chamberLower => Sys2Proof.Machine.execChamberLower s
  | .tuneSelect => Sys2Proof.Machine.execTuneSelect s
  | .tuneHoldAdd => Sys2Proof.Machine.execTuneHoldAdd s
  | .tuneHoldRemove => Sys2Proof.Machine.execTuneHoldRemove s
  | .tuneHoldClear => Sys2Proof.Machine.execTuneHoldClear s
  | .statusRead => Sys2Proof.Machine.execStatusRead s
  | .snapshot => Sys2Proof.Machine.execSnapshot s
  | .statusMask => Sys2Proof.Machine.execStatusMask s
  | .cipherRead => Sys2Proof.Machine.execCipherRead s
  | .cipherClear => Sys2Proof.Machine.execCipherClear s
  | .pointQuery => Sys2Proof.Machine.execPointQuery s
  | .releaseAll => Sys2Proof.Machine.execReleaseAll s
  | .relayReset => Sys2Proof.Machine.execRelayReset s
  | .extUpstreamFrame bytes => Sys2Proof.Machine.execExtUpstreamFrame bytes s
  | .extIdle => Sys2Proof.Machine.execExtIdle s
  | .extBadFrame => Sys2Proof.Machine.execExtBadFrame s
  | .extTimerExpiry => Sys2Proof.Machine.execExtTimerExpiry s
  | .chstatus c windReady supplyOk boards => Sys2Proof.Machine.execChstatus c windReady supplyOk boards s
  | .chamberBadFrame c => Sys2Proof.Machine.execChamberBadFrame c s
  | .chamberLinkTimerExpiry c => Sys2Proof.Machine.execChamberLinkTimerExpiry c s
  | .windTimerExpiry c => Sys2Proof.Machine.execWindTimerExpiry c s
  | .settleTimerExpiry c => Sys2Proof.Machine.execSettleTimerExpiry c s
  | .drainTimerExpiry c => Sys2Proof.Machine.execDrainTimerExpiry c s
  | .driveSent c => Sys2Proof.Machine.execDriveSent c s
  | .controlSent c => Sys2Proof.Machine.execControlSent c s
  | .groupAgeExpiry c g => Sys2Proof.Machine.execGroupAgeExpiry c g s
  | .controlAgeExpiry c => Sys2Proof.Machine.execControlAgeExpiry c s
  | .onTimerExpiry c p => Sys2Proof.Machine.execOnTimerExpiry c p s
  | .strikeTimerExpiry c p => Sys2Proof.Machine.execStrikeTimerExpiry c p s
  | .generatorLevelOff g => Sys2Proof.Machine.execGeneratorLevelOff g s
  | .generatorReturnToZero g => Sys2Proof.Machine.execGeneratorReturnToZero g s
  | .pizzicatoExpiry row key stop => Sys2Proof.Machine.execPizzicatoExpiry row key stop s
  | .splitTimerExpiry input => Sys2Proof.Machine.execSplitTimerExpiry input s
  | .stepTimerExpiry player => Sys2Proof.Machine.execStepTimerExpiry player s
  | .slewTimerExpiry channel => Sys2Proof.Machine.execSlewTimerExpiry channel s
  | .returnFrameSent => Sys2Proof.Machine.execReturnFrameSent s
  | .returnLineSilence => Sys2Proof.Machine.execReturnLineSilence s
  | .blinkClockTurn => Sys2Proof.Machine.execBlinkClockTurn s
  | .lampStretchExpiry item => Sys2Proof.Machine.execLampStretchExpiry item s

end Sys2Proof.Machine
end

