-- ==== Sys2Proof/Machine/Clock.lean ====
section
/-! DEFINITION. One tick of 1 ms, taken when no command waits (log 2): every running timer, counter and age counts, and
what has come due is taken, in the order of the opcode table (log 4). -/

namespace Sys2Proof.Machine

/-! ### Counting -/

/-- A remaining time, 1 ms later. -/
def countTimer : Option Nat → Option Nat
  | some n => some (n - 1)
  | none => none

/-- R144: a group's DRIVE frame is 1 ms older. -/
def ageGroup (g : Nat) (ch : Chamber) : Chamber := ch.setGroup g { ch.group g with age := (ch.group g).age + 1 }

/-- A chamber 1 ms later (R138, R140, R141, R144, R146). -/
def countChamber (ch : Chamber) : Chamber :=
  let aged := (List.range 16).foldl (fun x g => ageGroup g x) ch
  { aged with
    windTimer := countTimer ch.windTimer
    settleTimer := countTimer ch.settleTimer
    drainTimer := countTimer ch.drainTimer
    linkTimer := countTimer ch.linkTimer
    controlAge := ch.controlAge + 1
    onTimers := ch.onTimers.mapListed countTimer }

/-- R158: silence is counted while the return line is free and nothing waits (log 30). -/
def countPort (p : Port) : Port :=
  { p with
    timer := countTimer p.timer
    silence := if p.line.isNone && p.returnQueue.isEmpty then p.silence + 1 else p.silence }

/-- R50: a RUNNING entry counts, a SPENT one does not. -/
def countPizz (e : PizzEntry) : PizzEntry := if e.spent then e else { e with remaining := e.remaining - 1 }

/-- R72: a SERVING generator advances its counter by 1. -/
def countGenerator : Option Service → Option Service
  | some v => some { v with counter := v.counter + 1 }
  | none => none

/-- R111: the step timer of a player that is not IDLE. -/
def countPlayer : Option Run → Option Run
  | some run => some { run with timer := run.timer - 1 }
  | none => none

/-- The relay 1 ms later, before anything that is due is taken. -/
def countDown (s : State) : State :=
  let chambers := (List.range 4).foldl (fun t c => t.setChamber c (countChamber (t.chamber c))) s
  { chambers with
    port := countPort s.port
    ext := { s.ext with timer := countTimer s.ext.timer }
    claims := { s.claims with pizz := s.claims.pizz.map countPizz }
    pool := { s.pool with
      strikes := s.pool.strikes.mapListed countTimer
      generators := s.pool.generators.mapListed countGenerator }
    router := { s.router with entries := s.router.entries.mapListed (fun e => { e with timer := countTimer e.timer }) }
    sequencer := { s.sequencer with players := s.sequencer.players.mapListed countPlayer }
    expression := { s.expression with
      channels := s.expression.channels.mapListed (fun ch => { ch with timer := countTimer ch.timer }) }
    status := { s.status with
      stretch := s.status.stretch.mapListed countTimer
      blinkLeft := s.status.blinkLeft - 1 } }

/-! ### What is due -/

/-- R72: the level of a generator goes off at this counter value. -/
def levelOffDue : Option Service → Bool
  | some v => v.level && decide (v.onValue ≤ v.counter)
  | none => false

/-- R72: the counter of a generator returns to 0 at this value. -/
def returnDue : Option Service → Bool
  | some v => decide (v.period ≤ v.counter)
  | none => false

/-- R52: an entry of the pizzicato list has run out. -/
def pizzDue : Option PizzEntry → Bool
  | some e => !e.spent && decide (e.remaining = 0)
  | none => false

/-- R114: the step timer of a player has run out. -/
def stepDue : Option Run → Bool
  | some run => decide (run.timer = 0)
  | none => false

/-- The event is due: its timer has run out, or its age or counter has been reached. No other command is ever due. -/
def State.isDue (s : State) (i : Instr) : Bool :=
  match i with
  | .linkTimerExpiry => decide (s.port.timer = some 0)
  | .extTimerExpiry => decide (s.ext.timer = some 0)
  | .chamberLinkTimerExpiry c => decide ((s.chamber c).linkTimer = some 0)
  | .windTimerExpiry c => decide ((s.chamber c).windTimer = some 0)
  | .settleTimerExpiry c => decide ((s.chamber c).settleTimer = some 0)
  | .drainTimerExpiry c => decide ((s.chamber c).drainTimer = some 0)
  | .groupAgeExpiry c g => decide (((s.chamber c).group g).age = Config.refreshAge)
  | .controlAgeExpiry c => decide ((s.chamber c).controlAge = Config.refreshAge)
  | .onTimerExpiry c p => decide ((s.chamber c).onTimer p = some 0)
  | .strikeTimerExpiry c p => decide (s.strikeTimer ⟨c, p⟩ = some 0)
  | .generatorLevelOff g => levelOffDue (s.generator g)
  | .generatorReturnToZero g => returnDue (s.generator g)
  | .pizzicatoExpiry r k n => pizzDue (s.pizzEntry r k n)
  | .splitTimerExpiry i => decide ((s.route i).timer = some 0)
  | .stepTimerExpiry n => stepDue (s.player n)
  | .slewTimerExpiry c => decide ((s.channel c).timer = some 0)
  | .returnLineSilence => s.lineQuiet && decide (Config.silenceTime ≤ s.port.silence)
  | .blinkClockTurn => decide (s.status.blinkLeft = 0)
  | .lampStretchExpiry item => decide (s.stretch (eventItem item) = some 0)
  | _ => false

/-- The six event items, in item order. -/
def eventItems : List EventItem := [.returnOverrun, .cipherOverflow, .genSteal, .pizzFull, .seqNoPlayer, .seqHoldFull]

/-- The timers and ages of the chambers, kind by kind, each in ascending chamber number. -/
def State.chamberEvents (s : State) : List Instr :=
  let cs := List.finRange 4
  [cs.map .chamberLinkTimerExpiry, cs.map .windTimerExpiry, cs.map .settleTimerExpiry, cs.map .drainTimerExpiry,
    cs.flatMap (fun c => (List.finRange 16).map (.groupAgeExpiry c)), cs.map .controlAgeExpiry,
    cs.flatMap (fun c : Fin 4 => (s.chamber c).onTimers.indices.map (fun p => .onTimerExpiry c (Fin.ofNat 1024 p)))].flatten

/-- The running strike timers, generators and pizzicato entries. -/
def State.poolEvents (s : State) : List Instr :=
  [s.pool.strikes.indices.map
      (fun k => .strikeTimerExpiry (Fin.ofNat 4 (pointAt k).chamber) (Fin.ofNat 1024 (pointAt k).point)),
    s.pool.generators.indices.map (fun g => .generatorLevelOff (Fin.ofNat 32 g)),
    s.pool.generators.indices.map (fun g => .generatorReturnToZero (Fin.ofNat 32 g)),
    s.claims.pizz.map
      (fun e => .pizzicatoExpiry (Fin.ofNat 9 e.row) (Fin.ofNat 64 e.key) (Fin.ofNat 320 e.stop))].flatten

/-- The entries, players and channels that may have a timer running. -/
def State.effectEvents (s : State) : List Instr :=
  [s.router.entries.indices.map (fun i => .splitTimerExpiry (Fin.ofNat 96 i)),
    s.sequencer.players.indices.map (fun n => .stepTimerExpiry (Fin.ofNat 8 n)),
    s.expression.channels.indices.map (fun c => .slewTimerExpiry (Fin.ofNat 4 c))].flatten

/-- Every event of the relay's own that a timer, a counter or an age can bring, in the order of the opcode table. -/
def State.ownEvents (s : State) : List Instr :=
  [[.linkTimerExpiry, .extTimerExpiry], s.chamberEvents, s.poolEvents, s.effectEvents,
    [.returnLineSilence, .blinkClockTurn], eventItems.map .lampStretchExpiry].flatten

/-- An event that is due is taken by its own meaning. An event that an earlier one of the same millisecond has cancelled
is no longer due. -/
def takeDue (s : State) (i : Instr) : State :=
  if s.isDue i then
    match exec i s with
    | .next t => t
    | .fault _ | .refused _ => s
  else s

/-- One tick of 1 ms: everything counts, what is due is taken, and the transmitters that are free choose (R144). -/
def tick (s : State) : State :=
  let t := countDown s
  transmitAll (t.ownEvents.foldl takeDue t)

end Sys2Proof.Machine
end

