-- ==== Sys2Proof/Safety.lean ====
section
/-! DEFINITION. The terms in which claims speak of the relay: what leaves it, what a command leaves alone, what is
answered, what sounds, starts, ends, counts, is released, sent and read, what the cross-check finds, the ranges of the table
records, and the invariants of a sound state. -/

namespace Sys2Proof.Machine

/-! ### What leaves the relay -/

/-- The frames that have still to leave on the return line, in order: the one being sent, then the return queue (R158). -/
def State.outgoing (s : State) : List UpFrame := s.port.line.toList.map (·.frame) ++ s.port.returnQueue

/-- A NOTICE of the relay's own. -/
def UpFrame.isNotice : UpFrame → Bool
  | .own code _ => decide (code = 0x13#8)
  | .forwarded _ => false

/-- A LAMP frame of the relay's own. -/
def UpFrame.isLamp : UpFrame → Bool
  | .own code _ => decide (code = 0x14#8)
  | .forwarded _ => false

/-! ### What a command leaves alone -/

/-- Two states of a chamber that differ at most in what its transmitter does (R144): the groups' driven images, ages and
forced marks, the last group sent, the CONTROL frame's age and due mark, and the frame being sent. -/
def Chamber.sameLogic (a b : Chamber) : Prop :=
  b = { a with
    groups := b.groups
    lastGroup := b.lastGroup
    controlAge := b.controlAge
    controlDue := b.controlDue
    tx := b.tx }

/-- `t` is `s` apart from reports and transmissions: the request queue, frames added to the return line, the latched flag
of RETURN-OVERRUN, the stretches, the held NOTICE and LAMP frames, the chamber transmitters, and the model's count of free
values. -/
structure ReportsOnly (s t : State) : Prop where
  pending : t.pending = s.pending
  ext : t.ext = s.ext
  scan : t.scan = s.scan
  engine : t.engine = s.engine
  claims : t.claims = s.claims
  pool : t.pool = s.pool
  router : t.router = s.router
  sequencer : t.sequencer = s.sequencer
  expression : t.expression = s.expression
  chambers : ∀ c, (s.chamber c).sameLogic (t.chamber c)
  port : t.port =
    { s.port with requests := t.port.requests, returnQueue := t.port.returnQueue, line := t.port.line }
  status : t.status =
    { s.status with
      latched := t.status.latched
      stretch := t.status.stretch
      heldNotice := t.status.heldNotice
      heldLamps := t.status.heldLamps }
  flags : ∀ i, i ≠ .returnOverrun → t.latched i = s.latched i
  outgoing : ∃ later, t.outgoing = s.outgoing ++ later

/-- `t` is `s` apart from reports and transmissions, and no request has left the request queue. -/
def QuietlySame (s t : State) : Prop := ReportsOnly s t ∧ t.port.requests = s.port.requests

/-- The request at the head has been answered: it has left the request queue, and its REPLY, with the tag it came with,
stands next behind what was still to leave, unless the return queue was full (R157, R158). -/
def Answered (s t : State) (tag : Byte) (reply : Reply) : Prop :=
  t.port.requests = s.port.requests.tail ∧
    (s.port.returnQueue.length < Config.returnCapacity →
      ∃ later, t.outgoing = s.outgoing ++ s.replyFrame tag reply :: later)

/-- The oldest request of the queue, the one being served, carries a code and fields (R157). -/
def HeadIs (s : State) (r : Request) (code : Byte) (fields : Bytes) : Prop :=
  s.port.requests.head? = some r ∧ r.code = code ∧ r.fields = fields

/-- A request answered with a refusal, or with data alone: nothing but reports and transmissions has changed. -/
def AnsweredUnchanged (i : Instr) (s : State) (r : Request) (reply : Reply) : Prop :=
  ∃ t, exec i s = .next t ∧ Answered s t r.tag reply ∧ ReportsOnly s t

/-- A request taken and answered DONE: the relay is as `u` says, apart from reports and transmissions. -/
def AnsweredAs (i : Instr) (s : State) (r : Request) (u : State) : Prop :=
  ∃ t, exec i s = .next t ∧ Answered s t r.tag (.done []) ∧ ReportsOnly u t

/-! ### The ranges of the table records -/

/-- R17, R18. -/
def RankRecord.fits (x : RankRecord) : Prop :=
  x.chamber ≤ 3 ∧ x.base ≤ 1023 ∧ -24 ≤ x.lowest ∧ x.lowest ≤ 96 ∧ 1 ≤ x.noteCount ∧ x.noteCount ≤ 97 ∧
    x.lowest + x.noteCount - 1 ≤ 111 ∧ x.base + x.noteCount - 1 ≤ 1023 ∧ x.priority ≤ 15 ∧ 5 ≤ x.strikeLength ∧
    x.strikeLength ≤ 250 ∧ 30 ≤ x.period ∧ x.period ≤ 500 ∧ 1 ≤ x.strikeTime ∧ x.strikeTime ≤ x.period - 1 ∧
    x.cipherLimit ≤ 600

/-- R24, R26. -/
def StopRecord.fits (x : StopRecord) : Prop :=
  x.row ≤ 8 ∧ x.rank ≤ 47 ∧ -24 ≤ x.offset ∧ x.offset ≤ 48 ∧
    (∀ b, x.borrow = some b → b ≤ 47 ∧ x.kind = .tonal) ∧
    (∀ n, x.pizz = some n → 20 ≤ n ∧ n ≤ 2000 ∧ x.kind = .tonal) ∧ x.tremulant ≤ 7 ∧ x.group ≤ 3

/-- A note that a rank could hold (R88, R107). -/
def noteInRange (n : Int) : Prop := -24 ≤ n ∧ n ≤ 111

/-- R88, R89. -/
def RouteFields.fits (x : RouteFields) : Prop :=
  triggerAgrees x.trigger x.target = true ∧ x.group ≤ 3 ∧ x.rank ≤ 47 ∧ noteInRange x.note ∧ x.sequences.length ≤ 4 ∧
    (∀ q ∈ x.sequences, q ≤ 15) ∧ x.sequences.Nodup ∧ (x.target = .sequence → x.sequences ≠ []) ∧ x.tapRank ≤ 47 ∧
    noteInRange x.tapNote ∧ x.holdRank ≤ 47 ∧ noteInRange x.holdNote ∧ 50 ≤ x.splitTime ∧ x.splitTime ≤ 2000

/-- R74. -/
def TremulantRecord.fits (x : TremulantRecord) : Prop :=
  x.chamber ≤ 3 ∧ x.point ≤ 1023 ∧ 80 ≤ x.period ∧ x.period ≤ 600 ∧ 1 ≤ x.onTime ∧ x.onTime ≤ x.period - 1

/-- R121, R123. -/
def CurveRecord.fits (x : CurveRecord) : Prop :=
  (∀ n, x.shoe = some n → n ≤ 3) ∧ 1 ≤ x.stageCount ∧ x.stageCount ≤ 16 ∧ x.hysteresis ≤ 100 ∧ 10 ≤ x.slew ∧
    x.slew ≤ 500 ∧ x.base + x.stageCount - 1 ≤ 1023 ∧ 2 ≤ x.curve.length ∧ x.curve.length ≤ 8 ∧
    (∀ b ∈ x.curve, b.1 ≤ 1023 ∧ b.2 ≤ 1000) ∧ x.curve.Pairwise (fun a b => a.1 < b.1)

/-- R107. -/
def StepRecord.fits (x : StepRecord) : Prop :=
  1 ≤ x.duration ∧ x.duration ≤ 1000 ∧ x.actions.length ≤ 3 ∧ ∀ a ∈ x.actions, a.rank ≤ 47 ∧ noteInRange a.note

/-- R109. -/
def SeqEntry.fits (x : SeqEntry) : Prop := ∀ n, x.first = some n → n ≤ 1023

/-- R3. -/
def KeySetting.fits (x : KeySetting) : Prop := x.keyCount ≤ 64 ∧ 1 ≤ x.confirm ∧ x.confirm ≤ 3

/-- R165: the item is one of the 27. -/
def StatusItem.known (i : StatusItem) : Prop := i ∈ allItems

/-! ### Invariants -/

/-- Every record of every table written by TABLE-WRITE lies in its ranges. -/
structure RecordsInRange (s : State) : Prop where
  ranks : ∀ r, (s.rank r).fits
  stops : ∀ n, (s.stop n).fits
  routes : ∀ i, (s.route i).fields.fits
  tremulants : ∀ t, (s.tremulant t).fits
  curves : ∀ c, (s.channel c).record.fits
  steps : ∀ i, (s.stepRecord i).fits
  sequences : ∀ q, (s.seqEntry q).fits
  keyRows : ∀ r, (s.keySetting r).fits
  confirms : (1 ≤ s.scan.stopConfirm ∧ s.scan.stopConfirm ≤ 3) ∧ 1 ≤ s.scan.inputConfirm ∧ s.scan.inputConfirm ≤ 3
  chambers : ∀ c, (1 ≤ (s.chamber c).windTimeout ∧ (s.chamber c).windTimeout ≤ 60) ∧
    50 ≤ (s.chamber c).settle ∧ (s.chamber c).settle ≤ 2000
  lamps : ∀ n, (s.lamp n).item.known

/-- R152, R157, R158, R159: the console link's timer runs exactly outside DOWN, its runs are below their limits and 0 in
DOWN, the queues are within their capacities, a free return line leaves no frame waiting, and the extension timer runs
exactly while that link is UP. -/
structure LinksSound (s : State) : Prop where
  timer : s.port.link = .down ↔ s.port.timer = none
  badRun : s.port.badRun < Config.badRunLimit
  goodRun : s.port.goodRun < Config.goodRunLimit
  downRuns : s.port.link = .down → s.port.badRun = 0 ∧ s.port.goodRun = 0
  requests : s.port.requests.length ≤ Config.requestCapacity
  returnQueue : s.port.returnQueue.length ≤ Config.returnCapacity
  line : s.port.line = none → s.port.returnQueue = []
  ext : s.ext.up = s.ext.timer.isSome

/-- R50, R58, R111, R147: the pizzicato list, the tuning hold set, the players' hold sets and the cipher lists are within
their capacities. R80: the waiting set is in the canonical form of a table (log 31). -/
structure ListsBounded (s : State) : Prop where
  pizz : s.claims.pizz.length ≤ Config.pizzCapacity
  holds : s.claims.holds.length ≤ Config.tuningHoldCapacity
  players : ∀ n run, s.player n = some run → run.holds.length ≤ Config.playerHoldCapacity
  ciphers : ∀ c, (s.chamber c).ciphers.length ≤ Config.cipherCapacity
  waiting : s.pool.waiting.wf false = true

/-- R1, R2: a key row's held and lockout images lie below its key count and those of a stop or input row are positions of
it, no position of a key or input row is both held and locked out, and no candidate equals the held image. -/
structure RowsSound (s : State) : Prop where
  held : ∀ r, (s.row .key r).held &&& ~~~below (s.keySetting r).keyCount = 0
  lockout : ∀ r, (s.row .key r).lockout &&& ~~~below (s.keySetting r).keyCount = 0
  width : ∀ kind r, kind ≠ .key → (s.row kind r).held &&& ~~~below 32 = 0
  inputLockout : ∀ r, (s.row .input r).lockout &&& ~~~below 32 = 0
  apart : ∀ kind r, kind ≠ .stop → (s.row kind r).held &&& (s.row kind r).lockout = 0
  candidate : ∀ kind r, (s.row kind r).candidate ≠ some (s.row kind r).held

/-- Outside PLAY every active stop list and the pizzicato list are empty (R39, R50, R61), every player is IDLE (R111), every
route entry is IDLE (R88) and every mask demand is 0 (R93, R104). Outside TUNE the tuning hold set is empty (R59, R63). In
every mode the active list of a row holds drawn stops with mapping of that row, none twice (R39, R41, R42). -/
structure QuietOutsidePlay (s : State) : Prop where
  active : s.mode ≠ .play → ∀ r, s.active r = []
  pizz : s.mode ≠ .play → s.claims.pizz = []
  players : s.mode ≠ .play → ∀ n, n < 8 → s.player n = none
  routes : s.mode ≠ .play → ∀ i, i < 96 → (s.route i).state = .idle
  masks : s.mode ≠ .play → ∀ g, s.maskDemand g = 0
  holds : s.mode ≠ .tune → s.claims.holds = []
  listed : ∀ r, (s.active r).Nodup ∧
    ∀ n ∈ s.active r, s.drawn n = true ∧ (s.stop n).row = r ∧ (s.stop n).kind.hasMapping = true

/-! ### The confirm filter (R6, R7), as a claim states it -/

/-- R6, R7: the row after a frame, from the row before it, the confirm count, and the image with the bits that are no
positions of the row dropped; `locks` tells whether the row has a lockout. -/
def filteredRow (locks : Bool) (confirm : Nat) (row : Row) (raw : Image) : Row :=
  let lockout := if locks then row.lockout &&& raw else row.lockout
  let eff := if locks then raw &&& ~~~lockout else raw
  if eff = row.held then ⟨row.held, none, 0, lockout⟩
  else
    let count := if row.candidate = some eff then row.count + 1 else 1
    if confirm ≤ count then ⟨eff, none, 0, lockout⟩ else ⟨row.held, some eff, count, lockout⟩

/-! ### What sounds (chapters 3 to 6), as a claim states it -/

/-- The entries of a list that are the point. -/
def occurrences (p : Point) (ps : List Point) : Nat := ps.countP (fun q => decide (q.index = p.index))

/-- `t` is `u` but for what sounds: claim counts, the pool's timers, demands, generators and waiting set, route entries,
players, the cipher guard, and reports. -/
structure PlaysOnly (u t : State) : Prop where
  pending : t.pending = u.pending
  port : t.port =
    { u.port with requests := t.port.requests, returnQueue := t.port.returnQueue, line := t.port.line }
  ext : t.ext = u.ext
  scan : t.scan = u.scan
  engine : t.engine = u.engine
  pizz : t.claims.pizz = u.claims.pizz
  holds : t.claims.holds = u.claims.holds
  tremulants : t.pool.tremulants = u.pool.tremulants
  tremDemand : t.pool.tremDemand = u.pool.tremDemand
  maskDemand : t.router.maskDemand = u.router.maskDemand
  memory : t.sequencer.memory = u.sequencer.memory
  directory : t.sequencer.directory = u.sequencer.directory
  expression : t.expression = u.expression
  chambers : ∀ c, (t.chamber c).state = (u.chamber c).state ∧ (t.chamber c).blower = (u.chamber c).blower ∧
    (t.chamber c).supply = (u.chamber c).supply
  mode : t.mode = u.mode
  masked : t.status.masked = u.status.masked
  lamps : t.status.lamps = u.status.lamps

/-- R47: the claim count of one point changes, and no other. -/
def ClaimsMove (change : Nat → Nat) (p : Point) (u t : State) : Prop :=
  ∀ q : Point, t.claimCount q = if q.index = p.index then change (u.claimCount q) else u.claimCount q

/-- R69: the demand of one point changes, and no other. -/
def DemandMoves (change : Nat → Nat) (p : Point) (u t : State) : Prop :=
  ∀ q : Point, t.demandOf q = if q.index = p.index then change (u.demandOf q) else u.demandOf q

/-- R146: the point has no guard, no running on-timer and no entry on the cipher list of its chamber. -/
structure State.Unguarded (t : State) (p : Point) : Prop where
  guard : (t.chamber p.chamber).guarded p.point = false
  timer : (t.chamber p.chamber).onTimer p.point = none
  entry : ∀ e ∈ (t.chamber p.chamber).ciphers, e.point ≠ p.point

/-- R47, R48, R146: one claim more on a point. A rise, from 0 to 1, of a pipe point in PLAY starts its on-timer with the
cipher limit of its rank, in seconds; a limit of 0 starts none, and neither does a rise outside PLAY or any other change. No
guard and no cipher list changes. -/
structure ClaimRises (p : Point) (u t : State) : Prop where
  count : ClaimsMove (· + 1) p u t
  timed : u.claimCount p = 0 → u.mode = .play → ∀ k, u.rankOf p = some k → (u.rank k).kind = .pipe →
    0 < (u.rank k).cipherLimit → (t.chamber p.chamber).onTimer p.point = some (1000 * (u.rank k).cipherLimit)
  untimed : 0 < u.claimCount p ∨ u.mode ≠ .play ∨ u.isPipe p = false ∨
      (∃ k, u.rankOf p = some k ∧ (u.rank k).cipherLimit = 0) →
    (t.chamber p.chamber).onTimer p.point = (u.chamber p.chamber).onTimer p.point
  timers : ∀ c q, ¬(c = p.chamber ∧ q = p.point) → (t.chamber c).onTimer q = (u.chamber c).onTimer q
  guards : ∀ c q, (t.chamber c).guarded q = (u.chamber c).guarded q
  lists : ∀ c, (t.chamber c).ciphers = (u.chamber c).ciphers
  cipher : t.latched .cipher = u.latched .cipher

/-- R47, R48, R146, R147: one claim less on a point. A fall, from 1 to 0, stops its on-timer, clears its guard and takes it
off the cipher list; CIPHER is latched where its value changes. No other change touches a guard, a timer or a list. -/
structure ClaimFalls (p : Point) (u t : State) : Prop where
  count : ClaimsMove (· - 1) p u t
  fallen : u.claimCount p = 1 → t.Unguarded p ∧
    (t.chamber p.chamber).ciphers = (u.chamber p.chamber).ciphers.filter (fun e => e.point ≠ p.point)
  kept : u.claimCount p ≠ 1 → (t.chamber p.chamber).guarded p.point = (u.chamber p.chamber).guarded p.point ∧
    (t.chamber p.chamber).onTimer p.point = (u.chamber p.chamber).onTimer p.point ∧
    (t.chamber p.chamber).ciphers = (u.chamber p.chamber).ciphers
  others : ∀ c q, ¬(c = p.chamber ∧ q = p.point) → (t.chamber c).guarded q = (u.chamber c).guarded q ∧
    (t.chamber c).onTimer q = (u.chamber c).onTimer q
  lists : ∀ c, c ≠ p.chamber → (t.chamber c).ciphers = (u.chamber c).ciphers
  cipher : t.latched .cipher = (u.latched .cipher || decide (t.cipherAny ≠ u.cipherAny))

/-- R146: over many changes of claims, with removals from the points of a list alone: a point whose count has come to 0 is
unguarded. -/
def FallsClear (removed : List Point) (u t : State) : Prop :=
  (∀ q ∈ removed, q.point < 1024) → ∀ p : Point, p.point < 1024 → 0 < u.claimCount p → t.claimCount p = 0 → t.Unguarded p

/-- R146: over many changes of claims, with claims added to the points of a list alone: a point whose count has left 0 in
PLAY, if it is a pipe point under a limit above 0, has its on-timer running with that limit, and otherwise its on-timer is
as it was. -/
def RisesTimed (added : List Point) (u t : State) : Prop :=
  (∀ q ∈ added, q.point < 1024) → ∀ p : Point, p.point < 1024 → u.claimCount p = 0 → 0 < t.claimCount p →
    (t.mode = .play → ∀ k, u.rankOf p = some k → (u.rank k).kind = .pipe → (t.chamber p.chamber).onTimer p.point =
      if 0 < (u.rank k).cipherLimit then some (1000 * (u.rank k).cipherLimit)
      else (u.chamber p.chamber).onTimer p.point) ∧
    (t.mode ≠ .play ∨ u.isPipe p = false →
      (t.chamber p.chamber).onTimer p.point = (u.chamber p.chamber).onTimer p.point)

/-- R67: one strike on a point: absorbed while it is served or its timer runs, and otherwise the timer starts with the
strike length of its rank. Only strike timers can change in the pool. -/
structure StrikeTaken (p : Point) (u t : State) : Prop where
  pool : t.pool = { u.pool with strikes := t.pool.strikes }
  struck : ∀ r, u.rankOf p = some r → (u.rank r).kind = .struck →
    t.strikeTimer p =
      if (u.servedBy (.struck p)).isSome ∨ (u.strikeTimer p).isSome then u.strikeTimer p
      else some (u.rank r).strikeLength
  notStruck : u.isStruck p = false → t.strikeTimer p = u.strikeTimer p
  others : ∀ q : Point, q.index ≠ p.index → t.strikeTimer q = u.strikeTimer q

/-- R67: one strike on each of a list of points, each taken as one alone. -/
structure StrikesTaken (ps : List Point) (u t : State) : Prop where
  pool : t.pool = { u.pool with strikes := t.pool.strikes }
  struck : (∀ p ∈ ps, p.point < 1024) → ∀ p ∈ ps, ∀ r, u.rankOf p = some r → (u.rank r).kind = .struck →
    t.strikeTimer p =
      if (u.servedBy (.struck p)).isSome ∨ (u.strikeTimer p).isSome then u.strikeTimer p
      else some (u.rank r).strikeLength
  notStruck : (∀ p ∈ ps, p.point < 1024) → ∀ p ∈ ps, u.isStruck p = false → t.strikeTimer p = u.strikeTimer p
  others : ∀ q : Point, (∀ p ∈ ps, q.index ≠ p.index) → t.strikeTimer q = u.strikeTimer q

/-- R67, R73, R76: strikes on the points of a list amid raises and lowerings of the demands of others. Each struck point of
the list is then served, or has its strike timer running, or waits after a steal. One whose demand does not move, and which
was neither served nor waiting, is struck as if it were alone; and no other point is struck. -/
structure StrikesAmid (ps moved : List Point) (u t : State) : Prop where
  sounds : ListsBounded u → (∀ p ∈ ps ++ moved, p.point < 1024) → ∀ p ∈ ps, u.isStruck p = true →
    (t.servedBy (.struck p)).isSome = true ∨ (t.strikeTimer p).isSome = true ∨ t.isWaiting p = true
  apart : ListsBounded u → (∀ p ∈ ps, p.point < 1024) → ∀ p ∈ ps, (∀ q ∈ moved, q.index ≠ p.index) →
    u.servedBy (.struck p) = none → u.isWaiting p = false → ∀ k, u.rankOf p = some k → (u.rank k).kind = .struck →
    t.strikeTimer p = if (u.strikeTimer p).isSome then u.strikeTimer p else some (u.rank k).strikeLength
  others : ListsBounded u → ∀ q : Point, (∀ p ∈ ps ++ moved, p.index ≠ q.index) → u.isWaiting q = false →
    t.strikeTimer q = u.strikeTimer q

/-- R79: a generator that has become free: IDLE while the waiting set is empty, and otherwise granted to the waiting point
of highest priority, ties going to the lowest chamber and then the lowest point. The other generators stand. -/
structure GeneratorFreed (g : Nat) (s t : State) : Prop where
  idle : s.waitingAny = false → t.generator g = none
  granted : ListsBounded s → ∀ (q : Point) (r : Nat), q.point < 1024 → s.isWaiting q = true → s.rankOf q = some r →
    (∀ w : Point, w.point < 1024 → s.isWaiting w = true →
      s.priority w < s.priority q ∨ (s.priority w = s.priority q ∧ q.index ≤ w.index)) →
    t.generator g = some ⟨.struck q, 0, true, (s.rank r).period, (s.rank r).strikeTime⟩ ∧
      t.isWaiting q = false ∧ t.strikeTimer q = none
  others : ∀ h, h ≠ g → t.generator h = s.generator h

/-! ### Couplings of keys (R40, R44, R53, R56), as a claim states them -/

/-- R40: the points of the couplings of key `k` on row `r` with the stops of one kind on the row's active list. -/
def State.coupled (s : State) (kind : StopKind) (r k : Nat) : List Point :=
  ((s.active r).filter (fun n => decide ((s.stop n).kind = kind))).filterMap (fun n => s.target (s.stop n).mapping k)

/-- R53: the point from which the end of a TONAL coupling removes its claim: none for a silent target or a SPENT entry,
the entry's point while it is RUNNING, and the target where there is no entry. -/
def State.endedClaim (s : State) (r k n : Nat) : Option Point :=
  match s.target (s.stop n).mapping k, s.pizzEntry r k n with
  | none, _ => none
  | some p, none => some p
  | some _, some e => if e.spent then none else some e.target

/-- R44: the points from which the RELEASE of key `k` on row `r` removes a claim, one for each coupling. -/
def State.endedClaims (s : State) (r k : Nat) : List Point :=
  ((s.active r).filter (fun n => decide ((s.stop n).kind = .tonal))).filterMap (s.endedClaim r k)

/-- R44: in PLAY the couplings of the keys released on row `r` have ended, and those of the keys pressed have started. -/
structure CouplingsTaken (r : Nat) (released pressed : List Nat) (u t : State) : Prop where
  claims : (u.active r).Nodup → ∀ q : Point, t.claimCount q =
    u.claimCount q - occurrences q (released.flatMap (u.endedClaims r)) +
      occurrences q (pressed.flatMap (u.coupled .tonal r))
  demands : ∀ q : Point, t.demandOf q =
    u.demandOf q - occurrences q (released.flatMap (u.coupled .reiterate r)) +
      occurrences q (pressed.flatMap (u.coupled .reiterate r))
  strikes : (∀ n ∈ u.active r, (u.stop n).kind ≠ .reiterate) →
    StrikesTaken (pressed.flatMap (u.coupled .struck r)) u t
  amid : StrikesAmid (pressed.flatMap (u.coupled .struck r)) ((released ++ pressed).flatMap (u.coupled .reiterate r)) u t
  falls : (u.active r).Nodup → FallsClear (released.flatMap (u.endedClaims r)) u t
  rises : RisesTimed (pressed.flatMap (u.coupled .tonal r)) u t
  pizz : (∀ n ∈ u.active r, (u.stop n).pizz = none ∧ ∀ k, u.pizzEntry r k n = none) → t.claims.pizz = u.claims.pizz
  holds : t.claims.holds = u.claims.holds
  engine : t.engine = u.engine
  router : t.router = u.router
  sequencer : t.sequencer = u.sequencer
  tremulants : t.pool.tremDemand = u.pool.tremDemand

/-- R56: in TUNE the tuning couplings of the keys released on the selected row have ended, and those of the keys pressed
have started. -/
structure TuningTaken (sel : TuningSelection) (released pressed : List Nat) (u t : State) : Prop where
  pipe : (u.rank sel.rank).kind = .pipe → t.pool = u.pool ∧ ∀ q : Point, t.claimCount q =
    u.claimCount q - occurrences q (released.filterMap (u.target sel.mapping)) +
      occurrences q (pressed.filterMap (u.target sel.mapping))
  struck : (u.rank sel.rank).kind = .struck →
    StrikesTaken (pressed.filterMap (u.target sel.mapping)) u t ∧ t.claims = u.claims
  none : (u.rank sel.rank).kind = .none → ReportsOnly u t

/-- R44, R56: the transitions of a run of key row `r` have been taken, by the relay mode. -/
structure KeyRunTaken (r : Nat) (released pressed : List Nat) (u t : State) : Prop where
  config : u.mode = .config → ReportsOnly u t
  play : u.mode = .play → CouplingsTaken r released pressed u t
  tune : u.mode = .tune → ∀ sel, u.engine.tuning = some sel → sel.row = r → TuningTaken sel released pressed u t
  apart : u.mode = .tune → (∀ sel, u.engine.tuning = some sel → sel.row ≠ r) → ReportsOnly u t

/-- R41, R42: the points of the couplings of a stop of one kind with the keys held on its row. -/
def State.stopTargets (s : State) (kind : StopKind) (n : Nat) : List Point :=
  if (s.stop n).kind = kind then (s.heldKeys (s.stop n).row).filterMap (s.target (s.stop n).mapping) else []

/-- R42, R53: the points from which the cancel of a stop removes a claim. -/
def State.stopEnded (s : State) (n : Nat) : List Point :=
  if (s.stop n).kind = .tonal then
    (s.heldKeys (s.stop n).row).filterMap (fun k => s.endedClaim (s.stop n).row k n)
  else []

/-- R56, R62: the points of the tuning couplings that claim, one for each key held on the selected row. -/
def State.tuningTargets (s : State) (sel : TuningSelection) : List Point :=
  if (s.rank sel.rank).kind = .pipe then (s.heldKeys sel.row).filterMap (s.target sel.mapping) else []

/-- R64: the points from which the RELEASE of every key held on row `r` removes a claim. -/
def State.rowClaims (s : State) (r : Nat) : List Point :=
  match s.mode, s.engine.tuning with
  | .play, _ => (s.heldKeys r).flatMap (s.endedClaims r)
  | .tune, some sel => if sel.row = r then s.tuningTargets sel else []
  | .tune, none | .config, _ => []

/-- R64: the same for every key row. -/
def State.keyClaims (s : State) : List Point := (List.range 9).flatMap s.rowClaims

/-- R64, R86: the points whose demand the RELEASE of every held key lowers, one for each REITERATE coupling. -/
def State.keyDemands (s : State) : List Point :=
  if s.mode = .play then
    (List.range 9).flatMap (fun r => (s.heldKeys r).flatMap (s.coupled .reiterate r))
  else []

/-- R53, R64: the entry's coupling is live: its end deletes the entry. -/
def State.entryLive (s : State) (e : PizzEntry) : Bool :=
  decide (s.mode = .play) && decide (e.row < 9) && (s.heldKeys e.row).contains e.key && (s.active e.row).contains e.stop &&
    decide ((s.stop e.stop).kind = .tonal) && (s.target (s.stop e.stop).mapping e.key).isSome

/-! ### Players (R111 to R116), as a claim states it -/

/-- R113: a player's hold set after one action. -/
def heldAfterAction (s : State) (holds : List Point) (a : Action) : List Point :=
  match a.kind with
  | .strike => holds
  | .holdOn =>
    if s.notePoint a.rank a.note ∈ holds ∨ 8 ≤ holds.length then holds else holds ++ [s.notePoint a.rank a.note]
  | .holdOff => holds.filter (fun q => q ≠ s.notePoint a.rank a.note)

/-- R113: a player's hold set after the actions of a step, in list order. -/
def heldAfter (s : State) (actions : List Action) (holds : List Point) : List Point :=
  actions.foldl (heldAfterAction s) holds

/-- R113: an action of the step asks for a ninth hold. -/
def heldOverflow (s : State) : List Action → List Point → Bool
  | [], _ => false
  | a :: rest, holds =>
    (decide (a.kind = .holdOn) && decide (s.notePoint a.rank a.note ∉ holds) && decide (8 ≤ holds.length)) ||
      heldOverflow s rest (heldAfterAction s holds a)

/-- R113: the STRIKE actions of a step have been handed on: each struck point of one is served or has its timer
running. -/
def StepStrikes (actions : List Action) (u t : State) : Prop :=
  ∀ a ∈ actions, a.kind = .strike → u.isStruck (u.notePoint a.rank a.note) = true →
    (t.servedBy (.struck (u.notePoint a.rank a.note))).isSome ∨ (t.strikeTimer (u.notePoint a.rank a.note)).isSome

/-- R113: player `n`, with its run before, has moved to TIMED step `i`. -/
structure PlayerMoved (n : Nat) (run : Run) (i : Nat) (s t : State) : Prop where
  moved : t.player n = some { run with
    step := i
    timer := 10 * (s.stepRecord i).duration
    holds := heldAfter s (s.stepRecord i).actions run.holds }
  claims : run.holds.Nodup → ∀ p : Point, occurrences p run.holds ≤ s.claimCount p →
    t.claimCount p + occurrences p run.holds =
      s.claimCount p + occurrences p (heldAfter s (s.stepRecord i).actions run.holds)
  full : t.latched .seqHoldFull = (s.latched .seqHoldFull || heldOverflow s (s.stepRecord i).actions run.holds)
  strikes : StepStrikes (s.stepRecord i).actions s t

/-- R116: player `n`, with its run before, has stopped, and each of its holds has lost one claim. -/
structure PlayerStopped (n : Nat) (run : Run) (s t : State) : Prop where
  idle : t.player n = none
  claims : ∀ p : Point, t.claimCount p = s.claimCount p - occurrences p run.holds
  pool : t.pool = s.pool

/-- R116: the players of a list have stopped, and their holds have lost one claim each; the other players stand. -/
structure PlayersStopped (which : Nat → Bool) (s t : State) : Prop where
  players : ∀ n, n < 8 → t.player n = if which n then none else s.player n
  claims : ∀ p : Point, t.claimCount p = s.claimCount p -
    occurrences p (((List.range 8).filter which).flatMap (fun n => ((s.player n).map (·.holds)).getD []))
  pool : t.pool = s.pool

/-- R113: the holds that a player takes with the first step of a sequence. -/
def firstHolds (s : State) (q : Nat) : List Point :=
  match (s.seqEntry q).first with
  | none => []
  | some i => if (s.stepRecord i).kind = .timed then heldAfter s (s.stepRecord i).actions [] else []

/-- R112: a delivery of sequences: in list order each takes the lowest-numbered player still IDLE, SEQ-NO-PLAYER is
latched where none is left, and every player started takes its first step: it is RUNNING on it, or has stopped where that
step is an END step. -/
structure PlayersStart (level : Bool) (input : Nat) (sequences : List Nat) (s t : State) : Prop where
  started : ∀ k n q : Nat, ((List.range 8).filter (fun m => (s.player m).isNone))[k]? = some n → sequences[k]? = some q →
    (∀ i, (s.seqEntry q).first = some i → (s.stepRecord i).kind = .timed →
      t.player n =
        some ⟨false, q, level, input, i, 10 * (s.stepRecord i).duration, heldAfter s (s.stepRecord i).actions []⟩ ∧
      StepStrikes (s.stepRecord i).actions s t) ∧
    (∀ i, (s.seqEntry q).first = some i → (s.stepRecord i).kind = .final → t.player n = none)
  untouched : ∀ n, n < 8 → (s.player n).isSome = true → t.player n = s.player n
  spare : ∀ k n : Nat, ((List.range 8).filter (fun m => (s.player m).isNone))[k]? = some n → sequences.length ≤ k →
    t.player n = none
  refused : ((List.range 8).filter (fun m => (s.player m).isNone)).length < sequences.length →
    t.latched .seqNoPlayer = true
  claims : ∀ p : Point, t.claimCount p = s.claimCount p +
    occurrences p ((((List.range 8).filter (fun m => (s.player m).isNone)).zip sequences).flatMap
      (fun x => firstHolds s x.2))
  pool : t.pool = { s.pool with strikes := t.pool.strikes }

/-! ### Route triggers (R92 to R99), as a claim states it -/

/-- R94, R98, R99: the hold or roll that the service of an entry is, with its rank and note. -/
def RouteFields.heldNote (f : RouteFields) : Option (HoldKind × Nat × Int) :=
  match f.trigger, f.target with
  | .split, _ => some (f.holdKind, f.holdRank, f.holdNote)
  | .edge, .hold | .level, .hold => some (.hold, f.rank, f.note)
  | .edge, .roll | .level, .roll => some (.roll, f.rank, f.note)
  | _, _ => none

/-- R94: the points of the hold notes of one kind among the services that a test admits. -/
def State.serviceNotes (s : State) (kind : HoldKind) (admits : Nat → Bool) : List Point :=
  ((List.range 96).filter admits).filterMap fun i =>
    match (s.route i).fields.heldNote with
    | some (k, rank, note) => if k = kind then some (s.notePoint rank note) else none
    | none => none

/-- R88: the entry is IN-SERVICE. -/
def State.serves (s : State) (i : Nat) : Bool := decide ((s.route i).state = .inService)

/-- R98, R99: a deactivation ends what the entry does: it is a LEVEL or SPLIT entry, ACTIVE, and IN-SERVICE or
MEASURING. -/
def State.endsInactive (s : State) (i : Nat) : Bool :=
  (s.route i).active &&
    ((decide ((s.route i).fields.trigger ≠ .edge) && s.serves i) ||
      (decide ((s.route i).fields.trigger = .split) && decide ((s.route i).state = .measuring)))

/-- R111: the holds of every player. -/
def State.playerHolds (s : State) : List Point :=
  (List.range 8).flatMap (fun n => ((s.player n).map (·.holds)).getD [])

/-- R64: the points from which a general release removes a claim: couplings, HOLD services, player holds, tuning
holds. -/
def State.releasedClaims (s : State) : List Point :=
  s.keyClaims ++ s.serviceNotes .hold s.serves ++ s.playerHolds ++ s.claims.holds

/-- R13, R59, R64, R86, R102, R116: a general release has been carried out: every position held on a key or input row has joined its
lockout, and the rows are empty; the stop rows stand; every player and route entry is IDLE; the tuning hold set is
empty; the claims and the demand of all that has ended are gone, and the stops' demands stand. -/
structure GeneralReleased (u t : State) : Prop where
  keys : ∀ q, q < 9 → t.row .key q = ⟨0, none, 0, (u.row .key q).lockout ||| (u.row .key q).held⟩
  inputs : ∀ q, q < 3 → t.row .input q = ⟨0, none, 0, (u.row .input q).lockout ||| (u.row .input q).held⟩
  stops : ∀ q, t.row .stop q = u.row .stop q
  players : ∀ n, n < 8 → t.player n = none
  routes : ∀ j, j < 96 → (t.route j).state = .idle ∧ (t.route j).fields = (u.route j).fields
  holds : t.claims.holds = []
  claims : (∀ r, (u.active r).Nodup) → ∀ q : Point, t.claimCount q = u.claimCount q - occurrences q u.releasedClaims
  falls : (∀ r, (u.active r).Nodup) → FallsClear u.releasedClaims u t
  pizz : t.claims.pizz = u.claims.pizz.filter (fun e => !u.entryLive e)
  demands : ∀ q : Point, t.demandOf q = u.demandOf q - occurrences q (u.keyDemands ++ u.serviceNotes .roll u.serves)
  stopDemands : t.pool.tremDemand = u.pool.tremDemand ∧ t.router.maskDemand = u.router.maskDemand
  engine : t.engine = u.engine
  expression : t.expression = u.expression
  mode : t.mode = u.mode
  ext : t.ext = u.ext

/-- R94, R95, R98, R99: the service of entry `i` has started: it is IN-SERVICE, and its claim, its unit of demand or its
players are there. -/
structure ServiceStarts (i : Nat) (u t : State) : Prop where
  route : t.route i = { u.route i with state := .inService, timer := none }
  others : ∀ j, j ≠ i → t.route j = u.route j
  frame : PlaysOnly u t
  note : ∀ kind rank n, (u.route i).fields.heldNote = some (kind, rank, n) → t.sequencer = u.sequencer ∧
    (kind = .hold → ClaimsMove (· + 1) (u.notePoint rank n) u t ∧ t.pool = u.pool) ∧
    (kind = .roll → DemandMoves (· + 1) (u.notePoint rank n) u t ∧ t.claims = u.claims)
  sequences : (u.route i).fields.heldNote = none → (u.route i).fields.target = .sequence →
    PlayersStart true i (u.route i).fields.sequences u t

/-- R94, R95, R98, R99: the service of entry `i` has ended: it is IDLE, and its claim or unit of demand is gone; of its
RUNNING players, a masking has stopped each, and a deactivation has made each FINISHING. -/
structure ServiceEnds (masking : Bool) (i : Nat) (u t : State) : Prop where
  route : t.route i = { u.route i with state := .idle, timer := none }
  others : ∀ j, j ≠ i → t.route j = u.route j
  frame : PlaysOnly u t
  note : ∀ kind rank n, (u.route i).fields.heldNote = some (kind, rank, n) → t.sequencer = u.sequencer ∧
    (kind = .hold → ClaimsMove (· - 1) (u.notePoint rank n) u t ∧ t.pool = u.pool) ∧
    (kind = .roll → DemandMoves (· - 1) (u.notePoint rank n) u t ∧ t.claims = u.claims)
  stopped : masking = true → (u.route i).fields.heldNote = none → (u.route i).fields.target = .sequence →
    PlayersStopped (fun n => (u.player n).any (fun run => decide (run.input = i) && !run.finishing)) u t
  finishing : masking = false → (u.route i).fields.heldNote = none → (u.route i).fields.target = .sequence →
    (∀ n, n < 8 → t.player n =
      (u.player n).map (fun run => if run.input = i then { run with finishing := true } else run)) ∧
    t.claims = u.claims ∧ t.pool = u.pool

/-- R94, R95, R96: EDGE entry `i` has delivered its target: one strike; the toggle of its sequences, by whether any player
it started is RUNNING or FINISHING; or a general release. -/
structure Delivers (i : Nat) (u t : State) : Prop where
  strike : (u.route i).fields.target = .strike → PlaysOnly u t ∧ t.router = u.router ∧ t.sequencer = u.sequencer ∧
    t.claims = u.claims ∧ StrikeTaken (u.notePoint (u.route i).fields.rank (u.route i).fields.note) u t
  toggledOff : (u.route i).fields.target = .sequence → (∃ n run, n < 8 ∧ u.player n = some run ∧ run.input = i) →
    PlaysOnly u t ∧ t.router = u.router ∧
    PlayersStopped (fun n => (u.player n).any (fun run => decide (run.input = i))) u t
  toggledOn : (u.route i).fields.target = .sequence → (∀ n run, n < 8 → u.player n = some run → run.input ≠ i) →
    PlaysOnly u t ∧ t.router = u.router ∧ PlayersStart false i (u.route i).fields.sequences u t
  released : (u.route i).fields.target = .releaseAll → GeneralReleased u t

/-- The state with the state and split timer of entry `i` written, as R97 to R99 name them. -/
def State.withRouteState (s : State) (i : Nat) (x : RouteState) (timer : Option Nat) : State :=
  s.setRoute i { s.route i with state := x, timer := timer }

/-- R97, R98, R99: the level of entry `i`, ACTIVE in `u`, has just become so. -/
structure ActivationTaken (i : Nat) (u t : State) : Prop where
  delivered : (u.route i).fields.trigger = .edge → (u.route i).fields.target ≠ .none → (u.route i).state = .idle →
    u.maskedRoute i = false → Delivers i u t
  deferred : (u.route i).fields.trigger = .edge → (u.route i).fields.target ≠ .none → (u.route i).state = .idle →
    u.maskedRoute i = true → (u.route i).fields.defer = true → u.mode = .play →
    ReportsOnly (u.withRouteState i .pending none) t
  swallowed : (u.route i).fields.trigger = .edge →
    (u.route i).fields.target = .none ∨ (u.route i).state ≠ .idle ∨
      (u.maskedRoute i = true ∧ ((u.route i).fields.defer = false ∨ u.mode ≠ .play)) →
    ReportsOnly u t
  started : (u.route i).fields.trigger = .level → (u.route i).fields.target ≠ .none → (u.route i).state = .idle →
    u.maskedRoute i = false → ServiceStarts i u t
  measuring : (u.route i).fields.trigger = .split → (u.route i).state = .idle → u.maskedRoute i = false →
    ReportsOnly (u.withRouteState i .measuring (some (u.route i).fields.splitTime)) t
  levelOnly : (u.route i).fields.trigger ≠ .edge →
    (u.route i).state ≠ .idle ∨ u.maskedRoute i = true ∨
      ((u.route i).fields.trigger = .level ∧ (u.route i).fields.target = .none) →
    ReportsOnly u t

/-- R97, R98, R99: the level of entry `i`, INACTIVE in `u`, has just become so. -/
structure DeactivationTaken (i : Nat) (u t : State) : Prop where
  ended : (u.route i).fields.trigger ≠ .edge → (u.route i).state = .inService → ServiceEnds false i u t
  tapped : (u.route i).fields.trigger = .split → (u.route i).state = .measuring →
    PlaysOnly u t ∧ t.router = (u.withRouteState i .idle none).router ∧ t.sequencer = u.sequencer ∧
    t.claims = u.claims ∧ StrikeTaken (u.notePoint (u.route i).fields.tapRank (u.route i).fields.tapNote) u t
  levelOnly : (u.route i).fields.trigger = .edge ∨ (u.route i).state = .idle ∨ (u.route i).state = .pending →
    ReportsOnly u t

/-- R97, R98, R99: entry `i` has become effectively masked. -/
structure MaskingTaken (i : Nat) (u t : State) : Prop where
  ended : (u.route i).state = .inService → ServiceEnds true i u t
  abandoned : (u.route i).state = .measuring → ReportsOnly (u.withRouteState i .idle none) t
  kept : (u.route i).state = .idle ∨ (u.route i).state = .pending → ReportsOnly u t

/-- R97, R98, R99: entry `i` has become unmasked. -/
structure UnmaskingTaken (i : Nat) (u t : State) : Prop where
  delivered : (u.route i).fields.trigger = .edge → (u.route i).state = .pending →
    Delivers i (u.withRouteState i .idle none) t
  started : (u.route i).fields.trigger = .level → (u.route i).fields.target ≠ .none → (u.route i).state = .idle →
    (u.route i).active = true → ServiceStarts i u t
  measuring : (u.route i).fields.trigger = .split → (u.route i).state = .idle → (u.route i).active = true →
    ReportsOnly (u.withRouteState i .measuring (some (u.route i).fields.splitTime)) t
  kept : ((u.route i).fields.trigger = .edge ∧ (u.route i).state ≠ .pending) ∨
      ((u.route i).fields.trigger ≠ .edge ∧ ((u.route i).state ≠ .idle ∨ (u.route i).active = false)) →
    ReportsOnly u t

/-- R93: the entry's mask is OPEN, and it is of the group. -/
def State.openIn (s : State) (g i : Nat) : Bool :=
  decide ((s.route i).fields.group = g) && !(s.route i).fields.masked

/-- R95: the player is RUNNING for a LEVEL service of the group that its masking ends. -/
def State.stopsMasked (s : State) (g n : Nat) : Bool :=
  (s.player n).any fun run => !run.finishing && decide (run.input < 96) && s.openIn g run.input && s.serves run.input &&
    decide ((s.route run.input).fields.heldNote = none) && decide ((s.route run.input).fields.target = .sequence)

/-- R93: in PLAY the OPEN entries of a group have become masked. -/
structure GroupMasked (g : Nat) (u t : State) : Prop where
  routes : ∀ i, i < 96 → t.route i =
    if u.openIn g i = true ∧ ((u.route i).state = .inService ∨ (u.route i).state = .measuring) then
      { u.route i with state := .idle, timer := none }
    else u.route i
  players : ∀ n, n < 8 → t.player n = if u.stopsMasked g n then none else u.player n
  claims : ∀ q : Point, t.claimCount q = u.claimCount q -
    occurrences q (u.serviceNotes .hold (fun i => u.openIn g i && u.serves i) ++
      ((List.range 8).filter (u.stopsMasked g)).flatMap (fun n => ((u.player n).map (·.holds)).getD []))
  demands : ∀ q : Point, t.demandOf q = u.demandOf q -
    occurrences q (u.serviceNotes .roll (fun i => u.openIn g i && u.serves i))
  frame : PlaysOnly u t
  alone : ∀ i, i < 96 → u.openIn g i = true → (∀ j, j < 96 → u.openIn g j = true → j = i) → MaskingTaken i u t

/-- R98: an unmasking begins the LEVEL service of the entry. -/
def State.beginsLevel (s : State) (i : Nat) : Bool :=
  decide ((s.route i).fields.trigger = .level) && decide ((s.route i).fields.target ≠ .none) &&
    decide ((s.route i).state = .idle) && (s.route i).active

/-- R97: an unmasking delivers the entry's deferred edge. -/
def State.deliversEdge (s : State) (i : Nat) : Bool :=
  decide ((s.route i).fields.trigger = .edge) && decide ((s.route i).state = .pending)

/-- R97, R98, R99: an entry after its unmasking. -/
def State.unmaskedEntry (s : State) (i : Nat) : RouteEntry :=
  if s.deliversEdge i then { s.route i with state := .idle, timer := none }
  else if s.beginsLevel i then { s.route i with state := .inService, timer := none }
  else if (s.route i).fields.trigger = .split ∧ (s.route i).state = .idle ∧ (s.route i).active = true then
    { s.route i with state := .measuring, timer := some (s.route i).fields.splitTime }
  else s.route i

/-- R93: in PLAY the OPEN entries of a group have become unmasked. The claims are given where no sequence is among what
begins or is delivered; that of one entry alone is `UnmaskingTaken`. -/
structure GroupUnmasked (g : Nat) (u t : State) : Prop where
  routes : (∀ i, i < 96 → u.openIn g i = true → u.deliversEdge i = true → (u.route i).fields.target ≠ .releaseAll) →
    (∀ i, i < 96 → t.route i = if u.openIn g i then u.unmaskedEntry i else u.route i) ∧
    (∀ q : Point, t.demandOf q = u.demandOf q +
      occurrences q (u.serviceNotes .roll (fun i => u.openIn g i && u.beginsLevel i))) ∧
    PlaysOnly u t
  claims : (∀ i, i < 96 → u.openIn g i = true → u.deliversEdge i = true ∨ u.beginsLevel i = true →
      (u.route i).fields.target ≠ .releaseAll ∧ (u.route i).fields.target ≠ .sequence) →
    t.sequencer = u.sequencer ∧ ∀ q : Point, t.claimCount q = u.claimCount q +
      occurrences q (u.serviceNotes .hold (fun i => u.openIn g i && u.beginsLevel i))
  alone : ∀ i, i < 96 → u.openIn g i = true → (∀ j, j < 96 → u.openIn g j = true → j = i) → UnmaskingTaken i u t

/-- R92, R98, R99: an entry after its masking: a service and a measurement end, and a PENDING entry stays PENDING. -/
def RouteEntry.silenced (e : RouteEntry) : RouteEntry :=
  if e.state = .inService ∨ e.state = .measuring then { e with state := .idle, timer := none } else e

/-- R92, R93: an entry after the mask demand of each group has come down to `low` and gone up again to `high`: an OPEN entry
of a group that has come down to 0 is unmasked, and one of a group that has left 0 is masked. -/
def State.entryAfter (u : State) (low high : Nat → Nat) (i : Nat) : RouteEntry :=
  let g := (u.route i).fields.group
  if (u.route i).fields.masked then u.route i
  else
    let e := if 0 < u.maskDemand g ∧ low g = 0 then u.unmaskedEntry i else u.route i
    if low g = 0 ∧ 0 < high g then e.silenced else e

/-- R25, R41, R42: the stops of a list have been cancelled, and then those of another drawn, in PLAY: the demands of
tremulants and masks, the route entries that these mask and unmask, and, where none of them is a ROUTE-MASK stop, the claims,
demands and strikes of their couplings. -/
structure StopsTaken (cancelled drawn : List Nat) (u t : State) : Prop where
  tremulants : ∀ k, t.tremulantDemand k = u.tremulantDemand k -
      cancelled.countP (fun n => decide ((u.stop n).kind = .tremulant) && decide ((u.stop n).tremulant = k)) +
    drawn.countP (fun n => decide ((u.stop n).kind = .tremulant) && decide ((u.stop n).tremulant = k))
  masks : ∀ g, t.maskDemand g = u.maskDemand g -
      cancelled.countP (fun n => decide ((u.stop n).kind = .routeMask) && decide ((u.stop n).group = g)) +
    drawn.countP (fun n => decide ((u.stop n).kind = .routeMask) && decide ((u.stop n).group = g))
  entries : (∀ i, i < 96 → (u.route i).fields.masked = false → u.deliversEdge i = true →
      (u.route i).fields.target ≠ .releaseAll) → ∀ i, i < 96 → t.route i = u.entryAfter
    (fun g => u.maskDemand g -
      cancelled.countP (fun n => decide ((u.stop n).kind = .routeMask) && decide ((u.stop n).group = g)))
    t.maskDemand i
  claims : (∀ n ∈ cancelled ++ drawn, (u.stop n).kind ≠ .routeMask) → ∀ q : Point, t.claimCount q =
    u.claimCount q - occurrences q (cancelled.flatMap u.stopEnded) +
      occurrences q (drawn.flatMap (u.stopTargets .tonal))
  demands : (∀ n ∈ cancelled ++ drawn, (u.stop n).kind ≠ .routeMask) → ∀ q : Point, t.demandOf q =
    u.demandOf q - occurrences q (cancelled.flatMap (u.stopTargets .reiterate)) +
      occurrences q (drawn.flatMap (u.stopTargets .reiterate))
  strikes : (∀ n ∈ cancelled ++ drawn, (u.stop n).kind ≠ .routeMask ∧ (u.stop n).kind ≠ .reiterate ∧
      (u.stop n).kind ≠ .tremulant) → StrikesTaken (drawn.flatMap (u.stopTargets .struck)) u t
  amid : (∀ n ∈ cancelled ++ drawn, (u.stop n).kind ≠ .routeMask) →
    StrikesAmid (drawn.flatMap (u.stopTargets .struck)) ((cancelled ++ drawn).flatMap (u.stopTargets .reiterate)) u t
  falls : (∀ n ∈ cancelled ++ drawn, (u.stop n).kind ≠ .routeMask) → FallsClear (cancelled.flatMap u.stopEnded) u t
  rises : (∀ n ∈ cancelled ++ drawn, (u.stop n).kind ≠ .routeMask) →
    RisesTimed (drawn.flatMap (u.stopTargets .tonal)) u t
  rest : (∀ n ∈ cancelled ++ drawn, (u.stop n).kind ≠ .routeMask) →
    t.claims.holds = u.claims.holds ∧ t.router = u.router ∧ t.sequencer = u.sequencer

/-- R92: what a change of one entry's mask from `s` to `u` brings: nothing, a masking or an unmasking. -/
structure MaskChangeTaken (i : Nat) (s u t : State) : Prop where
  same : s.maskedRoute i = u.maskedRoute i → ReportsOnly u t
  masked : s.maskedRoute i = false → u.maskedRoute i = true → MaskingTaken i u t
  unmasked : s.maskedRoute i = true → u.maskedRoute i = false → UnmaskingTaken i u t

/-! ### The cross-check (R164), as a claim states it -/

/-- R18: a PIPE or STRUCK rank occupies the point. -/
def RankRecord.Holds (x : RankRecord) (p : Point) : Prop :=
  x.kind ≠ .none ∧ x.chamber = p.chamber ∧ x.base ≤ p.point ∧ p.point < x.base + x.noteCount

/-- R25: a stop with mapping. -/
def StopRecord.Maps (x : StopRecord) : Prop := x.kind = .tonal ∨ x.kind = .struck ∨ x.kind = .reiterate

/-- R30, R31: the kinds of the ranks that a stop names, and at most 64 stops with mapping of its row up to it. -/
def State.StopPasses (s : State) (n : Nat) : Prop :=
  ((s.stop n).kind = .tonal → (s.rank (s.stop n).rank).kind = .pipe ∧
    ∀ b, (s.stop n).borrow = some b → (s.rank b).kind = .pipe) ∧
  ((s.stop n).kind = .struck ∨ (s.stop n).kind = .reiterate → (s.rank (s.stop n).rank).kind = .struck) ∧
  ((s.stop n).Maps →
    ((List.range (n + 1)).filter (fun m =>
      (s.stop m).kind.hasMapping && decide ((s.stop m).row = (s.stop n).row))).length ≤ 64)

/-- R32: the rank shares no point with a lower-numbered rank. -/
def State.RankPasses (s : State) (r : Nat) : Prop :=
  ∀ q, q < r → ∀ p, ¬((s.rank r).Holds p ∧ (s.rank q).Holds p)

/-- R75: a TREMULANT stop names the tremulant, drawn or not. -/
def State.TremulantNamed (s : State) (k : Nat) : Prop :=
  ∃ n, n < 320 ∧ (s.stop n).kind = .tremulant ∧ (s.stop n).tremulant = k

/-- R75: the output point of a named tremulant is no rank's point, and not that of a lower-numbered named one. -/
def State.TremulantPasses (s : State) (k : Nat) : Prop :=
  s.TremulantNamed k →
    (∀ r, r < 48 → ¬(s.rank r).Holds ⟨(s.tremulant k).chamber, (s.tremulant k).point⟩) ∧
    ∀ j, j < k → s.TremulantNamed j →
      ¬((s.tremulant j).chamber = (s.tremulant k).chamber ∧ (s.tremulant j).point = (s.tremulant k).point)

/-- R130: no stage point of the channel is a rank's point or the output point of a named tremulant. -/
def State.CurvePasses (s : State) (c : Nat) : Prop :=
  ∀ i, i < (s.channel c).record.stageCount →
    (∀ r, r < 48 → ¬(s.rank r).Holds ⟨c, (s.channel c).record.base + i⟩) ∧
    ∀ k, k < 8 → s.TremulantNamed k →
      ¬((s.tremulant k).chamber = c ∧ (s.tremulant k).point = (s.channel c).record.base + i)

/-- R105, R110: the rank has the kind, and the note lies in its compass. -/
def State.NotePasses (s : State) (kind : RankKind) (rank : Nat) (note : Int) : Prop :=
  (s.rank rank).kind = kind ∧ (s.rank rank).lowest ≤ note ∧ note ≤ (s.rank rank).lowest + (s.rank rank).noteCount - 1

/-- R105: the ranks, notes and sequences that a route entry's target names. -/
def State.RoutePasses (s : State) (i : Nat) : Prop :=
  ((s.route i).fields.trigger ≠ .split →
    ((s.route i).fields.target = .strike ∨ (s.route i).fields.target = .roll →
      s.NotePasses .struck (s.route i).fields.rank (s.route i).fields.note) ∧
    ((s.route i).fields.target = .hold →
      s.NotePasses .pipe (s.route i).fields.rank (s.route i).fields.note) ∧
    ((s.route i).fields.target = .sequence →
      ∀ q ∈ (s.route i).fields.sequences, (s.seqEntry q).first ≠ none)) ∧
  ((s.route i).fields.trigger = .split →
    s.NotePasses .struck (s.route i).fields.tapRank (s.route i).fields.tapNote ∧
    ((s.route i).fields.holdKind = .hold →
      s.NotePasses .pipe (s.route i).fields.holdRank (s.route i).fields.holdNote) ∧
    ((s.route i).fields.holdKind = .roll →
      s.NotePasses .struck (s.route i).fields.holdRank (s.route i).fields.holdNote))

/-- R110: the rank and note of every action of the step. -/
def State.StepPasses (s : State) (i : Nat) : Prop :=
  ∀ a ∈ (s.stepRecord i).actions,
    (a.kind = .strike → s.NotePasses .struck a.rank a.note) ∧
    (a.kind = .holdOn ∨ a.kind = .holdOff → s.NotePasses .pipe a.rank a.note)

/-- R110: the walk of sequence `q` meets its step number `k` before the first END step, and that step is `i`. -/
def State.Walks (s : State) (q k i : Nat) : Prop :=
  ∃ first, (s.seqEntry q).first = some first ∧ k < 1024 ∧ i = (first + k) % 1024 ∧
    ∀ j, j ≤ k → (s.stepRecord ((first + j) % 1024)).kind = .timed

/-- R110: every step on the walk of the sequence passes. -/
def State.SequencePasses (s : State) (q : Nat) : Prop := ∀ k i, s.Walks q k i → s.StepPasses i

/-- R164: what the cross-check finds: nothing exactly when every test passes, and otherwise the first failure, table by
table in their order and index by index in each. -/
structure CrossCheckFinds (s : State) : Prop where
  passes : s.crossCheck = none ↔
    (∀ n, n < 320 → s.StopPasses n) ∧ (∀ r, r < 48 → s.RankPasses r) ∧ (∀ k, k < 8 → s.TremulantPasses k) ∧
    (∀ c, c < 4 → s.CurvePasses c) ∧ (∀ i, i < 96 → s.RoutePasses i) ∧ ∀ q, q < 16 → s.SequencePasses q
  stop : ∀ n, s.crossCheck = some (1, n) ↔ n < 320 ∧ ¬s.StopPasses n ∧ ∀ m, m < n → s.StopPasses m
  rank : ∀ r, s.crossCheck = some (2, r) ↔
    (∀ n, n < 320 → s.StopPasses n) ∧ r < 48 ∧ ¬s.RankPasses r ∧ ∀ q, q < r → s.RankPasses q
  tremulant : ∀ k, s.crossCheck = some (4, k) ↔
    (∀ n, n < 320 → s.StopPasses n) ∧ (∀ r, r < 48 → s.RankPasses r) ∧ k < 8 ∧ ¬s.TremulantPasses k ∧
    ∀ j, j < k → s.TremulantPasses j
  curve : ∀ c, s.crossCheck = some (5, c) ↔
    (∀ n, n < 320 → s.StopPasses n) ∧ (∀ r, r < 48 → s.RankPasses r) ∧ (∀ k, k < 8 → s.TremulantPasses k) ∧ c < 4 ∧
    ¬s.CurvePasses c ∧ ∀ d, d < c → s.CurvePasses d
  route : ∀ i, s.crossCheck = some (3, i) ↔
    (∀ n, n < 320 → s.StopPasses n) ∧ (∀ r, r < 48 → s.RankPasses r) ∧ (∀ k, k < 8 → s.TremulantPasses k) ∧
    (∀ c, c < 4 → s.CurvePasses c) ∧ i < 96 ∧ ¬s.RoutePasses i ∧ ∀ j, j < i → s.RoutePasses j
  step : ∀ i, s.crossCheck = some (7, i) ↔
    (∀ n, n < 320 → s.StopPasses n) ∧ (∀ r, r < 48 → s.RankPasses r) ∧ (∀ k, k < 8 → s.TremulantPasses k) ∧
    (∀ c, c < 4 → s.CurvePasses c) ∧ (∀ j, j < 96 → s.RoutePasses j) ∧
    ∃ q k, q < 16 ∧ (∀ p, p < q → s.SequencePasses p) ∧ s.Walks q k i ∧ ¬s.StepPasses i ∧
      ∀ j l, j < k → s.Walks q j l → s.StepPasses l

/-! ### Entry to PLAY and TUNE (R60, R62, R103), as a claim states it -/

/-- R60: the targets of the TONAL couplings of the held keys with the drawn stops, one for each coupling with a point. -/
def State.drawnTargets (s : State) : List Point :=
  (List.range 9).flatMap fun r => (s.heldKeys r).flatMap fun k =>
    (s.drawnStops.filter (fun n => decide ((s.stop n).kind = .tonal) && decide ((s.stop n).row = r))).filterMap
      (fun n => s.target (s.stop n).mapping k)

/-- R61, R63, R104, R116: the points from which leaving the present mode removes a claim. -/
def State.leftClaims (s : State) : List Point :=
  match s.mode, s.engine.tuning with
  | .config, _ => []
  | .play, _ => s.keyClaims ++ s.serviceNotes .hold s.serves ++ s.playerHolds
  | .tune, some sel => s.tuningTargets sel ++ s.claims.holds
  | .tune, none => s.claims.holds

/-- R84: the points whose demand leaving PLAY lowers. -/
def State.leftDemands (s : State) : List Point := s.keyDemands ++ s.serviceNotes .roll s.serves

/-- R103: a route entry that entry to PLAY finds unmasked, with its level ACTIVE. -/
def State.routeBegins (t : State) (i : Nat) : Bool :=
  !(t.route i).fields.masked && decide (t.maskDemand (t.route i).fields.group = 0) && (t.route i).active

/-- R60, R93, R103: what entry to PLAY from another mode leaves: each active list holds its drawn stops with mapping in
ascending number, the drawn TREMULANT and ROUTE-MASK stops have raised their demands, and each LEVEL or SPLIT entry that is
unmasked and ACTIVE has begun. -/
structure PlayEntered (s t : State) : Prop where
  active : ∀ q, t.active q =
    s.drawnStops.filter (fun n => (s.stop n).kind.hasMapping && decide ((s.stop n).row = q))
  tremulants : ∀ k, t.tremulantDemand k = s.tremulantDemand k +
    s.drawnStops.countP (fun n => decide ((s.stop n).kind = .tremulant) && decide ((s.stop n).tremulant = k))
  masks : ∀ g, t.maskDemand g =
    s.drawnStops.countP (fun n => decide ((s.stop n).kind = .routeMask) && decide ((s.stop n).group = g))
  levels : ∀ i, i < 96 → (s.route i).fields.trigger = .level → (t.route i).state =
    if t.routeBegins i = true ∧ (s.route i).fields.target ≠ .none then .inService else .idle
  splits : ∀ i, i < 96 → (s.route i).fields.trigger = .split →
    (t.routeBegins i = true →
      (t.route i).state = .measuring ∧ (t.route i).timer = some (s.route i).fields.splitTime) ∧
    (t.routeBegins i = false → (t.route i).state = .idle)
  edges : ∀ i, i < 96 → (s.route i).fields.trigger = .edge → (t.route i).state = .idle
  fields : ∀ i, (t.route i).fields = (s.route i).fields ∧ (t.route i).active = (s.route i).active

/-! ### The cipher guard (R148), as a claim states it -/

/-- R148: the guard of one point of a chamber has been lifted: where it is still claimed in PLAY, under a limit above 0, its
on-timer starts afresh. -/
structure GuardLifted (c p : Nat) (s t : State) : Prop where
  guard : (t.chamber c).guarded p = false
  idle : s.claimCount ⟨c, p⟩ = 0 ∨ s.mode ≠ .play ∨ s.isPipe ⟨c, p⟩ = false → (t.chamber c).onTimer p = none
  afresh : 0 < s.claimCount ⟨c, p⟩ → s.mode = .play → ∀ k, s.rankOf ⟨c, p⟩ = some k → (s.rank k).kind = .pipe →
    (t.chamber c).onTimer p = if 0 < (s.rank k).cipherLimit then some (1000 * (s.rank k).cipherLimit) else none

/-- R148: every guarded point of a chamber has been lifted and is off the list; a point that is not guarded is not
touched. -/
structure ChamberCleared (c : Nat) (s t : State) : Prop where
  lifted : ∀ p, p < 1024 → (s.chamber c).guarded p = true → GuardLifted c p s t
  others : ∀ p, p < 1024 → (s.chamber c).guarded p = false →
    (t.chamber c).guarded p = false ∧ (t.chamber c).onTimer p = (s.chamber c).onTimer p
  listed : (t.chamber c).ciphers = (s.chamber c).ciphers.filter
    (fun e => !(decide (e.point < 1024) && (s.chamber c).guarded e.point))

/-! ### A tick (log 2), as a claim states it -/

/-- The remaining time of a timer 1 ms later. -/
def counted (timer : Option Nat) : Option Nat := timer.map (· - 1)

/-- The relay 1 ms later, with nothing taken yet: each timer that runs has 1 ms less, each age 1 ms more, each RUNNING
pizzicato entry 1 ms less, and each SERVING generator's counter is 1 higher; nothing else has changed. -/
structure Counted (s c : State) : Prop where
  pending : c.pending = s.pending
  freeCount : c.freeCount = s.freeCount
  port : c.port = { s.port with
    timer := counted s.port.timer
    silence := if s.port.line = none ∧ s.port.returnQueue = [] then s.port.silence + 1 else s.port.silence }
  ext : c.ext = { s.ext with timer := counted s.ext.timer }
  scan : c.scan = s.scan
  engine : c.engine = s.engine
  claims : c.claims = { s.claims with
    pizz := s.claims.pizz.map (fun e => if e.spent then e else { e with remaining := e.remaining - 1 }) }
  pool : c.pool = { s.pool with strikes := c.pool.strikes, generators := c.pool.generators }
  strikes : ∀ p : Point, c.strikeTimer p = counted (s.strikeTimer p)
  generators : ∀ g, c.generator g = (s.generator g).map (fun v => { v with counter := v.counter + 1 })
  maskDemand : c.router.maskDemand = s.router.maskDemand
  routes : ∀ i, c.route i = { s.route i with timer := counted (s.route i).timer }
  sequencer : c.sequencer = { s.sequencer with players := c.sequencer.players }
  players : ∀ n, c.player n = (s.player n).map (fun run => { run with timer := run.timer - 1 })
  samples : c.expression.samples = s.expression.samples
  channels : ∀ k, c.channel k = { s.channel k with timer := counted (s.channel k).timer }
  chambers : ∀ k, k < 4 → c.chamber k = { s.chamber k with
    windTimer := counted (s.chamber k).windTimer
    settleTimer := counted (s.chamber k).settleTimer
    drainTimer := counted (s.chamber k).drainTimer
    linkTimer := counted (s.chamber k).linkTimer
    controlAge := (s.chamber k).controlAge + 1
    onTimers := (c.chamber k).onTimers
    groups := (c.chamber k).groups }
  onTimers : ∀ k p, k < 4 → (c.chamber k).onTimer p = counted ((s.chamber k).onTimer p)
  groups : ∀ k g, k < 4 → g < 16 →
    (c.chamber k).group g = { (s.chamber k).group g with age := ((s.chamber k).group g).age + 1 }
  status : c.status = { s.status with stretch := c.status.stretch, blinkLeft := s.status.blinkLeft - 1 }
  stretches : ∀ i, c.stretch i = counted (s.stretch i)

/-- The timer runs, and runs out at the latest in this millisecond. -/
def runsOut (timer : Option Nat) : Prop := ∃ n, timer = some n ∧ n ≤ 1

/-- The event is due in the tick from this state: a timer runs out; an age reaches 18 ms (R144); a generator's counter
reaches A with its level on, or P (R72); a RUNNING pizzicato entry has no time left (R52); the return line has been silent
for 10 ms with nothing waiting (R158); a half of the blink clock ends (R168). -/
def State.dueNext (s : State) : Instr → Prop
  | .linkTimerExpiry => runsOut s.port.timer
  | .extTimerExpiry => runsOut s.ext.timer
  | .chamberLinkTimerExpiry c => runsOut (s.chamber c).linkTimer
  | .windTimerExpiry c => runsOut (s.chamber c).windTimer
  | .settleTimerExpiry c => runsOut (s.chamber c).settleTimer
  | .drainTimerExpiry c => runsOut (s.chamber c).drainTimer
  | .groupAgeExpiry c g => ((s.chamber c).group g).age + 1 = 18
  | .controlAgeExpiry c => (s.chamber c).controlAge + 1 = 18
  | .onTimerExpiry c p => runsOut ((s.chamber c).onTimer p)
  | .strikeTimerExpiry c p => runsOut (s.strikeTimer ⟨c, p⟩)
  | .generatorLevelOff g => ∃ v, s.generator g = some v ∧ v.level = true ∧ v.onValue ≤ v.counter + 1
  | .generatorReturnToZero g => ∃ v, s.generator g = some v ∧ v.period ≤ v.counter + 1
  | .pizzicatoExpiry r k n => ∃ e, s.pizzEntry r k n = some e ∧ e.spent = false ∧ e.remaining ≤ 1
  | .splitTimerExpiry i => runsOut (s.route i).timer
  | .stepTimerExpiry n => ∃ run, s.player n = some run ∧ run.timer ≤ 1
  | .slewTimerExpiry c => runsOut (s.channel c).timer
  | .returnLineSilence => s.port.line = none ∧ s.port.returnQueue = [] ∧ 10 ≤ s.port.silence + 1
  | .blinkClockTurn => s.status.blinkLeft ≤ 1
  | .lampStretchExpiry item => runsOut (s.stretch (eventItem item))
  | _ => False

/-! ### The transmitter's choice (R144), as a claim states it -/

/-- R144: how many groups lie between the last group sent and group `g`, ascending and wrapping from 15 to 0. -/
def turnAfter (last g : Nat) : Nat := (g + 15 - last % 16) % 16

/-- R144: group `g` is forced, of age 18 ms or more, or changed. -/
def State.Pends (s : State) (c g : Nat) : Prop :=
  ((s.chamber c).group g).forced = true ∨ 18 ≤ ((s.chamber c).group g).age ∨
    s.nextImage c g ≠ ((s.chamber c).group g).driven

/-- R144: a CONTROL frame is due: a line change not yet sent, or an age of 18 ms. -/
def Chamber.ControlPends (ch : Chamber) : Prop := ch.controlDue = true ∨ 18 ≤ ch.controlAge

/-- R144: `t` is `u` after the transmitter of chamber `c` has had its choice. A busy one sends on. A free one takes a due
CONTROL frame, with both lines as they stand; otherwise the pending group that comes first after the last group sent, whose
next image becomes its driven image, with age 0 and no forced mark; and otherwise nothing. -/
structure Chooses (c : Nat) (u t : State) : Prop where
  busy : (u.chamber c).tx ≠ .free → t.chamber c = u.chamber c
  control : (u.chamber c).tx = .free → (u.chamber c).ControlPends → t.chamber c = { u.chamber c with
    tx := .control (u.chamber c).blower (u.chamber c).supply, controlAge := 0, controlDue := false }
  drive : (u.chamber c).tx = .free → ¬(u.chamber c).ControlPends → ∀ g, g < 16 → u.Pends c g →
    (∀ h, h < 16 → u.Pends c h → turnAfter (u.chamber c).lastGroup g ≤ turnAfter (u.chamber c).lastGroup h) →
    (t.chamber c).tx = .drive g (u.nextImage c g) ∧ (t.chamber c).group g = ⟨u.nextImage c g, 0, false⟩ ∧
      (t.chamber c).lastGroup = g ∧ (∀ h, h ≠ g → (t.chamber c).group h = (u.chamber c).group h) ∧
      (t.chamber c).controlAge = (u.chamber c).controlAge ∧ (t.chamber c).controlDue = (u.chamber c).controlDue ∧
      (u.chamber c).sameLogic (t.chamber c)
  idle : (u.chamber c).tx = .free → ¬(u.chamber c).ControlPends → (∀ g, g < 16 → ¬u.Pends c g) →
    t.chamber c = u.chamber c

/-! ### Records read field by field (R174, R175), as a claim states it -/

/-- The number of the first test of a list that fails, the first test being number `no`. -/
def firstBad : Nat → List Bool → Option Nat
  | _, [] => none
  | no, ok :: rest => if ok then firstBad (no + 1) rest else some no

/-- R174: the number of the field among whose bytes place `n` lies, by the widths of the fields, the first field being
number `no`. -/
def fieldAt : Nat → List Nat → Nat → Nat
  | no, [], _ => no
  | no, w :: rest, n => if n < w then no else fieldAt (no + 1) rest (n - w)

/-- R175: how a reader judges the bytes of a record, given the widths of its fields, the test of each, and the place, field
and number of values of each enumeration. The first field whose test fails is answered; bytes that remain, with the number
one above the last field; bytes that run out, with the field they break off in; an enumeration byte beyond its values, with
its field; and a record with none of these is read. -/
structure ReadsInOrder {α : Type} (read : Bytes → Except Nat α) (x : α) (bytes : Bytes) (widths : List Nat)
    (tests : List Bool) (enums : List (Nat × Nat × Nat)) : Prop where
  judged : ∀ extra, read (bytes ++ extra) =
    match firstBad 1 tests with
    | some n => .error n
    | none => if extra = [] then .ok x else .error (widths.length + 1)
  short : firstBad 1 tests = none → ∀ n, n < bytes.length → read (bytes.take n) = .error (fieldAt 1 widths n)
  enums : firstBad 1 tests = none → ∀ e ∈ enums, ∀ (b : Byte) (rest : Bytes), e.2.2 ≤ b.toNat →
    read (bytes.take e.1 ++ b :: rest) = .error e.2.1

/-- A value that a signed byte holds. -/
def byteHolds (n : Int) : Prop := -128 ≤ n ∧ n ≤ 127

/-- R174: every field has a value that its bytes can hold, in its range or not. -/
def RankRecord.sendable (x : RankRecord) : Prop :=
  x.chamber < 256 ∧ x.base < 65536 ∧ byteHolds x.lowest ∧ x.noteCount < 256 ∧ x.priority < 256 ∧ x.strikeLength < 256 ∧
    x.period < 65536 ∧ x.strikeTime < 65536 ∧ x.cipherLimit < 65536

/-- R17 to R19: the tests of a RANK record, field by field. -/
def RankRecord.tests (x : RankRecord) : List Bool :=
  [true, decide (x.chamber ≤ 3), decide (x.base ≤ 1023), decide (-24 ≤ x.lowest ∧ x.lowest ≤ 96),
    decide (1 ≤ x.noteCount ∧ x.noteCount ≤ 97 ∧ x.lowest + x.noteCount - 1 ≤ 111 ∧ x.base + x.noteCount - 1 ≤ 1023),
    decide (x.priority ≤ 15), decide (5 ≤ x.strikeLength ∧ x.strikeLength ≤ 250), decide (30 ≤ x.period ∧ x.period ≤ 500),
    decide (1 ≤ x.strikeTime ∧ x.strikeTime ≤ x.period - 1), decide (x.cipherLimit ≤ 600)]

/-- R174: as for a RANK record. -/
def StopRecord.sendable (x : StopRecord) : Prop :=
  x.row < 256 ∧ x.rank < 256 ∧ byteHolds x.offset ∧ (∀ b, x.borrow = some b → b < 256) ∧
    (∀ n, x.pizz = some n → n < 65536) ∧ x.tremulant < 256 ∧ x.group < 256

/-- R24, R26: the tests of a STOP record, field by field. -/
def StopRecord.tests (x : StopRecord) : List Bool :=
  [true, decide (x.row ≤ 8), decide (x.rank ≤ 47), decide (-24 ≤ x.offset ∧ x.offset ≤ 48), true, true,
    x.borrow.all (fun b => decide (b ≤ 47) && decide (x.kind = .tonal)),
    x.pizz.all (fun n => decide (20 ≤ n ∧ n ≤ 2000) && decide (x.kind = .tonal)), decide (x.tremulant ≤ 7),
    decide (x.group ≤ 3)]

/-- R174: as for a RANK record. -/
def RouteFields.sendable (x : RouteFields) : Prop :=
  x.group < 256 ∧ x.rank < 256 ∧ byteHolds x.note ∧ x.sequences.length < 256 ∧ (∀ q ∈ x.sequences, q < 256) ∧
    x.tapRank < 256 ∧ byteHolds x.tapNote ∧ x.holdRank < 256 ∧ byteHolds x.holdNote ∧ x.splitTime < 65536

/-- R88, R89: the tests of a ROUTE entry, field by field. -/
def RouteFields.tests (x : RouteFields) : List Bool :=
  [true, triggerAgrees x.trigger x.target, true, true, true, decide (x.group ≤ 3), decide (x.rank ≤ 47),
    decide (-24 ≤ x.note ∧ x.note ≤ 111),
    decide (x.sequences.length ≤ 4 ∧ (∀ q ∈ x.sequences, q ≤ 15) ∧ x.sequences.Nodup ∧
      (x.target = .sequence → x.sequences ≠ [])),
    decide (x.tapRank ≤ 47), decide (-24 ≤ x.tapNote ∧ x.tapNote ≤ 111), true, decide (x.holdRank ≤ 47),
    decide (-24 ≤ x.holdNote ∧ x.holdNote ≤ 111), decide (50 ≤ x.splitTime ∧ x.splitTime ≤ 2000)]

/-- R174: as for a RANK record. -/
def TremulantRecord.sendable (x : TremulantRecord) : Prop :=
  x.chamber < 256 ∧ x.point < 65536 ∧ x.period < 65536 ∧ x.onTime < 65536

/-- R74: the tests of a TREMULANT record, field by field. -/
def TremulantRecord.tests (x : TremulantRecord) : List Bool :=
  [decide (x.chamber ≤ 3), decide (x.point ≤ 1023), decide (80 ≤ x.period ∧ x.period ≤ 600),
    decide (1 ≤ x.onTime ∧ x.onTime ≤ x.period - 1)]

/-- R174: as for a RANK record; a shoe's 0xFF says "none". -/
def CurveRecord.sendable (x : CurveRecord) : Prop :=
  (∀ n, x.shoe = some n → n < 255) ∧ x.stageCount < 256 ∧ x.hysteresis < 256 ∧ x.slew < 65536 ∧ x.base < 65536 ∧
    x.curve.length < 256 ∧ ∀ b ∈ x.curve, b.1 < 65536 ∧ b.2 < 65536

/-- R123: the tests of a CURVE record, field by field. -/
def CurveRecord.tests (x : CurveRecord) : List Bool :=
  [x.shoe.all (fun n => decide (n ≤ 3)), decide (1 ≤ x.stageCount ∧ x.stageCount ≤ 16), decide (x.hysteresis ≤ 100),
    decide (10 ≤ x.slew ∧ x.slew ≤ 500), decide (x.base ≤ 1023 ∧ x.base + x.stageCount - 1 ≤ 1023),
    decide (2 ≤ x.curve.length ∧ x.curve.length ≤ 8 ∧ (∀ b ∈ x.curve, b.1 ≤ 1023 ∧ b.2 ≤ 1000) ∧
      x.curve.Pairwise (fun a b => a.1 < b.1))]

/-- R174: as for a RANK record. -/
def StepRecord.sendable (x : StepRecord) : Prop :=
  x.duration < 65536 ∧ x.actions.length < 256 ∧ ∀ a ∈ x.actions, a.rank < 256 ∧ byteHolds a.note

/-- R107, R108: the tests of a SEQMEM record, field by field. -/
def StepRecord.tests (x : StepRecord) : List Bool :=
  [true, decide (1 ≤ x.duration ∧ x.duration ≤ 1000),
    decide (x.actions.length ≤ 3 ∧ ∀ a ∈ x.actions, a.rank ≤ 47 ∧ -24 ≤ a.note ∧ a.note ≤ 111)]

/-! ### Levels and goals (R125, R126), as a claim states them -/

/-- R125: `y` is the level of sample `x` on the curve. At or below the first breakpoint, and at or above the last, it is that
breakpoint's own. In the segment from `a` to `b` it is `a`'s level with the exact product over the segment's width,
truncated toward zero, added: on a rising segment the level is rounded down, on a falling one up. It lies between the two
levels, and in 0..1000. -/
structure LevelTaken (curve : List (Nat × Nat)) (x : Nat) (y : Int) : Prop where
  first : ∀ a, curve.head? = some a → x ≤ a.1 → y = a.2
  last : ∀ a, curve.getLast? = some a → a.1 ≤ x → y = a.2
  rising : ∀ i a b, curve[i]? = some a → curve[i + 1]? = some b → a.1 ≤ x → x < b.1 → a.2 ≤ b.2 →
    (y - a.2) * ((b.1 : Int) - a.1) ≤ ((x : Int) - a.1) * ((b.2 : Int) - a.2) ∧
      ((x : Int) - a.1) * ((b.2 : Int) - a.2) < (y - a.2 + 1) * ((b.1 : Int) - a.1) ∧ a.2 ≤ y ∧ y ≤ b.2
  falling : ∀ i a b, curve[i]? = some a → curve[i + 1]? = some b → a.1 ≤ x → x < b.1 → b.2 < a.2 →
    ((x : Int) - a.1) * ((b.2 : Int) - a.2) ≤ (y - a.2) * ((b.1 : Int) - a.1) ∧
      (y - a.2 - 1) * ((b.1 : Int) - a.1) < ((x : Int) - a.1) * ((b.2 : Int) - a.2) ∧ b.2 ≤ y ∧ y ≤ a.2
  range : 0 ≤ y ∧ y ≤ 1000

/-- R126: `goal` is the goal of level `y` under stage count `n` and hysteresis `h` from stage `c`. `up` is the stage nearest
the level less `h`, `down` the stage nearest the level plus `h`, exact halves rounded up; a stage below `up` is raised to
it, one above `down` is lowered to it, and one between them stays. Both thresholds and the goal lie in 0..n. -/
def GoalTaken (n h c : Nat) (y : Int) (goal : Nat) : Prop :=
  ∃ up down : Nat,
    (1000 * (up : Int) ≤ n * max (y - h) 0 + 500 ∧ n * max (y - h) 0 + 500 < 1000 * ((up : Int) + 1)) ∧
    (1000 * (down : Int) ≤ n * min (y + h) 1000 + 500 ∧ n * min (y + h) 1000 + 500 < 1000 * ((down : Int) + 1)) ∧
    up ≤ down ∧ down ≤ n ∧ (c < up → goal = up) ∧ (down < c → goal = down) ∧ (up ≤ c → c ≤ down → goal = c) ∧ goal ≤ n

/-- R125, R126: a channel with the record, at stage `c`, takes the goal from sample `x`. -/
def CurveRecord.aims (r : CurveRecord) (x c goal : Nat) : Prop :=
  ∃ y : Int, LevelTaken r.curve x y ∧ GoalTaken r.stageCount r.hysteresis c y goal

/-! ### Chamber link loss (R139, R141), as a claim states it -/

/-- `s` with the flag of the item latched where the condition holds. -/
def State.latchedWhere (s : State) (item : StatusItem) (b : Bool) : State := if b then s.setLatched item true else s

/-- R141: the chamber is coming up or ENABLED: a loss of its link moves it to FAULT. -/
def Chamber.isUp (ch : Chamber) : Bool :=
  decide (ch.state = .blower ∨ ch.state = .settle ∨ ch.state = .enabled)

/-! ### Lamps (R168), as a claim states it -/

/-- R165: the condition under which a FOLLOW lamp of the item is lit; an event item's is its stretch. -/
def State.followLit (s : State) : StatusItem → Prop
  | .link => s.port.link = .up
  | .ext => s.ext.up = true
  | .mode => s.mode = .play
  | .state c => (s.chamber c).state = .enabled
  | .wind c => (s.chamber c).windReady = true
  | .supply c => (s.chamber c).supplyOk = true
  | .driverFault c => (s.chamber c).boards ≠ 0
  | .cipher => ∃ c, c < 4 ∧ (s.chamber c).ciphers ≠ []
  | .waiting => s.waitingAny = true
  | .returnOverrun => ∃ n, s.stretch .returnOverrun = some n
  | .cipherOverflow => ∃ n, s.stretch .cipherOverflow = some n
  | .genSteal => ∃ n, s.stretch .genSteal = some n
  | .pizzFull => ∃ n, s.stretch .pizzFull = some n
  | .seqNoPlayer => ∃ n, s.stretch .seqNoPlayer = some n
  | .seqHoldFull => ∃ n, s.stretch .seqHoldFull = some n

end Sys2Proof.Machine
end

