-- ==== Sys2Proof/WellFormed.lean ====
section
/-! DEFINITION. The commands that a link can deliver. Unit numbers are in range by their types; what remains is what
the frame format bounds (chapter 11). -/

namespace Sys2Proof

/-- A REQUEST payload is 3..255 bytes, so its fields are at most 252 (R171). -/
def requestFits (fields : Bytes) : Bool := decide (fields.length ≤ 252)

/-- A frame put up by the relay below is good and is not IDLE (R160). -/
def upstreamFits (bytes : Bytes) : Bool := goodFromBelow bytes && !idleFromBelow bytes

/-- The command can be delivered as it stands. -/
def Instr.wellFormed : Instr → Bool
  | .request _ _ _ fields => requestFits fields
  | .extUpstreamFrame bytes => upstreamFits bytes
  | _ => true

end Sys2Proof
end

