-- ==== Sys2Proof/Certificates/Slice0/Obligations.lean ====
section
/-! DEFINITION. The statements for the provers. Each docstring names the rules it rests on; a clause that rests on the
model's own choice names its log entry. -/

open Sys2Proof Sys2Proof.Machine

/-! ### Steps -/

/-- A step takes the command at the front of the queue, with the queue's rest. -/
def Obligations.StepTakesFrontCommand : Prop :=
  ∀ (s : State) (i : Instr) (rest : List Instr), s.pending = i :: rest → step s = exec i (s.setPending rest)

/-- With no command waiting a step is one tick of 1 ms: the model's choice (log 2). The blink clock, 250 ms a half
(R168), turns at the tick that ends its half and counts at every other; the console link timer (R153) counts, and the
link is DOWN after the tick that ends it. In every tick each running timer of the relay counts down by 1 ms, each RUNNING
pizzicato entry with them, and each age, each SERVING generator's counter (R72) and the silence of the return line up by
1; what is due after that, and nothing else, is then taken, and free transmitters choose. A tick with nothing due does
nothing more. -/
def Obligations.IdleStepTicksClocks : Prop :=
  ∀ s : State, s.pending = [] → ∃ t, step s = .next t ∧ t.pending = [] ∧
    (s.status.blinkLeft ≤ 1 → t.status.blinkOn = !s.status.blinkOn ∧ t.status.blinkLeft = 250) ∧
    (2 ≤ s.status.blinkLeft → t.status.blinkOn = s.status.blinkOn ∧ t.status.blinkLeft = s.status.blinkLeft - 1) ∧
    (∀ n, s.port.timer = some (n + 2) → t.port.timer = some (n + 1) ∧ t.port.link = s.port.link) ∧
    (s.port.timer = some 1 → t.port.timer = none ∧ t.port.link = .down) ∧
    (s.port.timer = none → t.port.timer = none ∧ t.port.link = s.port.link) ∧
    ∃ c, Counted s c ∧ t = transmitAll (c.ownEvents.foldl takeDue c) ∧ (∀ i, c.isDue i = true ↔ s.dueNext i) ∧
      (∀ i, s.dueNext i → i ∈ c.ownEvents) ∧ ((∀ i, ¬s.dueNext i) → QuietlySame c t)

/-- No command stops the relay: the spec names no event that does (95). Its effect is on everything but the queue of
commands. -/
def Obligations.EveryCommandCompletes : Prop :=
  ∀ (i : Instr) (s : State), ∃ t, exec i s = .next t ∧ t.pending = s.pending

/-! ### Invariants -/

/-- R152, R157, R158, R159: link states, runs, timers and queues stay sound at every step. -/
def Obligations.LinksStaySound : Prop := ∀ s t : State, LinksSound s → step s = .next t → LinksSound t

/-- R50, R58, R111, R147: the bounded lists stay within their capacities at every step, and the waiting set (R80) in the
canonical form of a table, the model's choice (log 31). -/
def Obligations.ListsStayBounded : Prop := ∀ s t : State, ListsBounded s → step s = .next t → ListsBounded t

/-- R3, R18, R19, R26, R74, R89, R108, R109, R123, R135, R168: every table record stays in its ranges at every step. -/
def Obligations.RecordsStayInRange : Prop := ∀ s t : State, RecordsInRange s → step s = .next t → RecordsInRange t

/-- R2: held images, lockouts and candidates stay sound at every step. -/
def Obligations.RowsStaySound : Prop := ∀ s t : State, RowsSound s → step s = .next t → RowsSound t

/-- R39, R50, R59, R61, R63, R88, R93, R104, R111: at every step, outside PLAY the active stop lists and the pizzicato list
are empty, every player and every route entry is IDLE and every mask demand is 0, outside TUNE the tuning hold set is empty,
and in every mode the active lists hold drawn stops with mapping of their rows, none twice (R41, R42). Claims, demands,
generators and guards are no part of it: ModeSetChangesMode states what a leaving takes away of them. -/
def Obligations.PlayStateRestsOutsidePlay : Prop :=
  ∀ s t : State, QuietOutsidePlay s → step s = .next t → QuietOutsidePlay t

/-- The state after reset satisfies the invariants. -/
def Obligations.ResetStateIsSound : Prop :=
  LinksSound State.reset ∧ ListsBounded State.reset ∧ RecordsInRange State.reset ∧ RowsSound State.reset ∧
    QuietOutsidePlay State.reset

/-! ### Frames and records -/

/-- R159, R170 to R173: frames survive their line. A console frame, sent and received, is the command it was, for every
command that a console frame spells. A CHSTATUS frame is the command it was, whatever its ignored bits. A frame of a type
and length that a relay sends upward is taken by the relay above, with either value of its attention flag: an IDLE frame
as such, any other byte for byte. -/
def Obligations.FramesRoundTrip : Prop :=
  (∀ (i : Instr) (bytes : Bytes), i.wellFormed = true → consoleFrame i = some bytes → receiveConsole bytes = i) ∧
  (∀ (c : Fin 4) (lines : Byte) (boards : BitVec 16),
    receiveChamber c (frameBytes 0x31#8 (lines :: imageBytes 2 boards.toNat)) =
      .chstatus c (lines.getLsbD 0) (lines.getLsbD 1) boards) ∧
  ∀ (code : Byte) (payload : Bytes) (attention : Bool), code.toNat < 128 → payload.length ≤ 255 →
    upstreamLengthOk code.toNat payload.length = true →
    receiveBelow (LineFrame.wire ⟨.own code payload, attention⟩) =
      if code = 0x05#8 then .extIdle else .extUpstreamFrame (LineFrame.wire ⟨.own code payload, attention⟩)

/-- R17 to R19, R88, R89, R107, R108, R123, R174, R175: a RANK record, the written fields of a ROUTE entry and of a CURVE
record, and a SEQMEM record are read from exactly the bytes they are sent as, when they are in their ranges. R24, R26: a
STOP record is read from the bytes it is sent as, whatever the ignored bytes of its absent fields. R3, R74, R135, R168: so
are a TREMULANT, SCAN, CHAMBER and LAMP record; R109: and a SEQDIR record, whatever its ignored bytes. R175: the reader of
each record answers a bad one with the number of its first bad field: a value at any place outside its range, an enumeration
byte beyond its values, a list too long, bytes that run out in the field, or bytes that remain after the last. -/
def Obligations.TableRecordsRoundTrip : Prop :=
  (∀ (x : RankRecord) (bytes : Bytes), readRank bytes = .ok x ↔ x.fits ∧ bytes = rankBytes x) ∧
  (∀ (fill : Nat → Byte) (x : StopRecord), x.fits → readStop (stopBytes fill x) = .ok x) ∧
  (∀ (x : RouteFields) (bytes : Bytes), readRoute bytes = .ok x ↔ x.fits ∧ bytes = routeFieldBytes x) ∧
  (∀ (x : CurveRecord) (bytes : Bytes), readCurve bytes = .ok x ↔ x.fits ∧ bytes = curveFieldBytes x) ∧
  (∀ (x : StepRecord) (bytes : Bytes), readStep bytes = .ok x ↔ x.fits ∧ bytes = stepBytes x) ∧
  (∀ (x : TremulantRecord) (bytes : Bytes), readTremulant bytes = .ok x ↔ x.fits ∧ bytes = tremulantBytes x) ∧
  (∀ (fill : Nat → Byte) (x : SeqEntry), x.fits → readSeqEntry (seqEntryBytes fill x) = .ok x) ∧
  (∀ (x : KeySetting) (bytes : Bytes), readKeySetting bytes = .ok x ↔
    x.fits ∧ bytes = [byteOf x.keyCount, byteOf x.confirm]) ∧
  (∀ (n : Nat) (bytes : Bytes), readConfirm bytes = .ok n ↔ (1 ≤ n ∧ n ≤ 3) ∧ bytes = [byteOf n]) ∧
  (∀ (x : Nat × Nat) (bytes : Bytes), readChamber bytes = .ok x ↔
    ((1 ≤ x.1 ∧ x.1 ≤ 60) ∧ 50 ≤ x.2 ∧ x.2 ≤ 2000) ∧ bytes = byteOf x.1 :: wordBytes x.2) ∧
  (∀ (x : LampRecord) (bytes : Bytes), readLamp bytes = .ok x ↔ x.item.known ∧ bytes = lampBytes x) ∧
  (∀ x : RankRecord, x.sendable →
    ReadsInOrder readRank x (rankBytes x) [1, 1, 2, 1, 1, 1, 1, 2, 2, 2] x.tests [(0, 1, 3)]) ∧
  (∀ (fill : Nat → Byte) (x : StopRecord), x.sendable →
    ReadsInOrder readStop x (stopBytes fill x) [1, 1, 1, 1, 1, 1, 2, 3, 1, 1] x.tests
      [(0, 1, 6), (4, 5, 2), (5, 6, 2), (6, 7, 2), (8, 8, 2)]) ∧
  (∀ x : RouteFields, x.sendable →
    ReadsInOrder readRoute x (routeFieldBytes x)
      [1, 1, 1, 1, 1, 1, 1, 1, 1 + x.sequences.length, 1, 1, 1, 1, 1, 2] x.tests
      [(0, 1, 6), (1, 2, 3), (2, 3, 2), (3, 4, 2), (4, 5, 2), (11 + x.sequences.length, 12, 2)]) ∧
  (∀ x : TremulantRecord, x.sendable → ReadsInOrder readTremulant x (tremulantBytes x) [1, 2, 2, 2] x.tests []) ∧
  (∀ x : CurveRecord, x.sendable →
    ReadsInOrder readCurve x (curveFieldBytes x) [1, 1, 1, 2, 2, 1 + 4 * x.curve.length] x.tests []) ∧
  (∀ (fill : Nat → Byte) (x : SeqEntry), (∀ n, x.first = some n → n < 65536) →
    ReadsInOrder readSeqEntry x (seqEntryBytes fill x) [3, 1] [x.first.all (fun n => decide (n ≤ 1023)), true]
      [(0, 1, 2), (3, 2, 2)]) ∧
  (∀ x : StepRecord, x.sendable →
    ReadsInOrder readStep x (stepBytes x) [1, 2, 1 + 3 * x.actions.length] x.tests
      ((0, 1, 2) :: (List.range x.actions.length).map (fun i => (4 + 3 * i, 3, 3)))) ∧
  (∀ x : KeySetting, x.keyCount < 256 → x.confirm < 256 →
    ReadsInOrder readKeySetting x [byteOf x.keyCount, byteOf x.confirm] [1, 1]
      [decide (x.keyCount ≤ 64), decide (1 ≤ x.confirm ∧ x.confirm ≤ 3)] []) ∧
  (∀ n : Nat, n < 256 → ReadsInOrder readConfirm n [byteOf n] [1] [decide (1 ≤ n ∧ n ≤ 3)] []) ∧
  (∀ x : Nat × Nat, x.1 < 256 → x.2 < 65536 →
    ReadsInOrder readChamber x (byteOf x.1 :: wordBytes x.2) [1, 2]
      [decide (1 ≤ x.1 ∧ x.1 ≤ 60), decide (50 ≤ x.2 ∧ x.2 ≤ 2000)] []) ∧
  ∀ x : LampRecord, x.item.known →
    ReadsInOrder readLamp x (lampBytes x) [1, 2, 1] [true, true, true] [(0, 1, 4), (3, 3, 2)] ∧
    ∀ (mode group no : Byte) (rest : Bytes), mode.toNat < 4 → itemAt group.toNat no.toNat = none →
      readLamp (mode :: group :: no :: rest) = .error 2

/-! ### Mapping, claims, generators -/

/-- R34 to R37: the target of a note n under a rank of kind PIPE or STRUCK. In the compass it is point B + (n - L) of the
rank's chamber, whatever the breaks and the borrow rank. Below, with a borrow rank, it comes from that rank alone: its point
when the note lies in its compass, and silent otherwise or when its kind is NONE, whatever the breaks; a rank that borrows
from itself is silent there. Below, with no borrow rank, and above, with any: SILENT is silent; a FOLD reaches m by 12s, the
first value at or above L or at or below H, which is a point when it lies in the compass and silent otherwise; a rank of 12
notes or more always gives a point. -/
def Obligations.MappingFoldsOrSilences : Prop :=
  ∀ (r : RankRecord) (n : Int), r.kind ≠ .none → 1 ≤ r.noteCount →
    (∀ borrow low high, r.lowest ≤ n → n ≤ r.lowest + r.noteCount - 1 →
      noteTarget r borrow low high n = some ⟨r.chamber, ((r.base : Int) + (n - r.lowest)).toNat⟩) ∧
    (n < r.lowest → ∀ (b : RankRecord) (low high : Break),
      noteTarget r (some b) low high n =
        (if b.kind ≠ .none ∧ b.lowest ≤ n ∧ n ≤ b.lowest + b.noteCount - 1 then
          some ⟨b.chamber, ((b.base : Int) + (n - b.lowest)).toNat⟩
         else none) ∧
      noteTarget r (some r) low high n = none) ∧
    (n < r.lowest → ∀ high,
      noteTarget r none .silent high n = none ∧
      ∃ m k : Int, 0 < k ∧ m = n + 12 * k ∧ r.lowest ≤ m ∧ m - 12 < r.lowest ∧
        noteTarget r none .fold high n =
          (if m ≤ r.lowest + r.noteCount - 1 then
            some ⟨r.chamber, ((r.base : Int) + (m - r.lowest)).toNat⟩
           else none) ∧
        (12 ≤ r.noteCount → noteTarget r none .fold high n ≠ none)) ∧
    (r.lowest + r.noteCount - 1 < n → ∀ borrow low,
      noteTarget r borrow low .silent n = none ∧
      ∃ m k : Int, 0 < k ∧ m = n - 12 * k ∧ m ≤ r.lowest + r.noteCount - 1 ∧
        r.lowest + r.noteCount - 1 < m + 12 ∧
        noteTarget r borrow low .fold n =
          (if r.lowest ≤ m then some ⟨r.chamber, ((r.base : Int) + (m - r.lowest)).toNat⟩ else none) ∧
        (12 ≤ r.noteCount → noteTarget r borrow low .fold n ≠ none))

/-- R40: a STRUCK coupling with a point hands one strike to the pool (R67) at its start and nothing at its end; a
REITERATE coupling raises the demand of its point by 1 at its start and lowers it at its end (R69, R76, R78); neither
touches a claim, and one with a silent target does nothing. R40, R45, R47: a TONAL coupling without pizzicato adds one
claim to its target and no other point, and its end takes the claim away again, whatever happens to the chambers. R51:
with a pizzicato length it adds the same claim and a RUNNING entry at the tail of the list, or latches PIZZ-FULL when
the list holds 64; a silent target adds nothing. R53: the end of a coupling deletes its entry, with one claim removed
from the entry's point where it was RUNNING and none where it was SPENT; with no entry one claim is removed from the
target. R48, R146: each claim so added starts the on-timer of its point at a rise, and each one removed stops it and clears
the guard at a fall. -/
def Obligations.TonalCouplingClaimsBalance : Prop :=
  (∀ (s : State) (r k n : Nat), (s.stop n).kind = .struck →
    endCoupling r k n s = s ∧
    (s.target (s.stop n).mapping k = none → startCoupling r k n s = s) ∧
    ∀ p : Point, s.target (s.stop n).mapping k = some p →
      StrikeTaken p s (startCoupling r k n s) ∧
      startCoupling r k n s = s.setPool (startCoupling r k n s).pool) ∧
  (∀ (s : State) (r k n : Nat), (s.stop n).kind = .reiterate →
    (s.target (s.stop n).mapping k = none → startCoupling r k n s = s ∧ endCoupling r k n s = s) ∧
    ∀ p : Point, s.target (s.stop n).mapping k = some p →
      startCoupling r k n s = raiseDemand p s ∧ endCoupling r k n s = lowerDemand p s ∧
      DemandMoves (· + 1) p s (startCoupling r k n s) ∧ (startCoupling r k n s).claims = s.claims ∧
      DemandMoves (· - 1) p s (endCoupling r k n s) ∧ (endCoupling r k n s).claims = s.claims) ∧
  ∀ (s : State) (r k n : Nat), (s.stop n).kind = .tonal →
    (s.target (s.stop n).mapping k = none → startCoupling r k n s = s ∧ endCoupling r k n s = s) ∧
    ∀ p : Point, s.target (s.stop n).mapping k = some p →
      ClaimRises p s (startCoupling r k n s) ∧ (startCoupling r k n s).pool = s.pool ∧
      ((s.stop n).pizz = none → (startCoupling r k n s).claims.pizz = s.claims.pizz ∧
        (s.pizzEntry r k n = none →
          ∀ q : Point, (endCoupling r k n (startCoupling r k n s)).claimCount q = s.claimCount q)) ∧
      (∀ length, (s.stop n).pizz = some length →
        (s.claims.pizz.length < 64 →
          (startCoupling r k n s).claims.pizz = s.claims.pizz ++ [⟨r, k, n, p, length, false⟩]) ∧
        (64 ≤ s.claims.pizz.length →
          (startCoupling r k n s).claims.pizz = s.claims.pizz ∧
          (startCoupling r k n s).latched .pizzFull = true)) ∧
      (endCoupling r k n s).pool = s.pool ∧
      (s.pizzEntry r k n = none →
        ClaimFalls p s (endCoupling r k n s) ∧ (endCoupling r k n s).claims.pizz = s.claims.pizz) ∧
      ∀ e, s.pizzEntry r k n = some e →
        (endCoupling r k n s).claims.pizz =
          s.claims.pizz.filter (fun x => !(decide (x.row = r) && decide (x.key = k) && decide (x.stop = n))) ∧
        (e.spent = false → ClaimFalls e.target s (endCoupling r k n s)) ∧
        (e.spent = true → (endCoupling r k n s).chambers = s.chambers ∧
          ∀ q : Point, (endCoupling r k n s).claimCount q = s.claimCount q)

/-- R69, R73, R76: the rise of a struck point's demand takes the lowest-numbered IDLE generator, with counter 0, level
on, and P and A of the point's rank, and cancels its strike timer; with no generator IDLE it steals from the struck client of
lowest priority, if that is lower than its own, the lowest-numbered generator first: the client joins the waiting set with
its demand unchanged, and GEN-STEAL is latched; otherwise the point joins the waiting set and is struck once. R77: the rise
of a tremulant's demand does the same with no comparison of priority. R78, R79: at the fall of a demand to 0 a generator
that served is freed and passes to the waiting point of highest priority, and a point that waited leaves the waiting set. -/
def Obligations.DemandRiseIsGrantedOrWaits : Prop :=
  (∀ (s : State) (p : Point) (r : Nat), s.rankOf p = some r → (s.rank r).kind = .struck → s.demandOf p = 0 →
    s.servedBy (.struck p) = none →
    (raiseDemand p s).demandOf p = 1 ∧
    (∀ g, s.idleGenerator = some g →
      (raiseDemand p s).generator g = some ⟨.struck p, 0, true, (s.rank r).period, (s.rank r).strikeTime⟩ ∧
      (∀ h, h ≠ g → (raiseDemand p s).generator h = s.generator h) ∧ (raiseDemand p s).strikeTimer p = none) ∧
    (s.idleGenerator = none → ∀ v ∈ s.struckClients, s.priority v.2 < s.priority p →
      (∀ w ∈ s.struckClients, s.priority v.2 < s.priority w.2 ∨ (s.priority v.2 = s.priority w.2 ∧ v.1 ≤ w.1)) →
      (raiseDemand p s).generator v.1 = some ⟨.struck p, 0, true, (s.rank r).period, (s.rank r).strikeTime⟩ ∧
      (∀ h, h ≠ v.1 → (raiseDemand p s).generator h = s.generator h) ∧ (raiseDemand p s).strikeTimer p = none ∧
      (raiseDemand p s).isWaiting v.2 = true ∧ (raiseDemand p s).latched .genSteal = true ∧
      (s.waitingAny = false → (raiseDemand p s).latched .waiting = true) ∧
      (v.2.index ≠ p.index → (raiseDemand p s).demandOf v.2 = s.demandOf v.2)) ∧
    (s.idleGenerator = none → (∀ v ∈ s.struckClients, s.priority p ≤ s.priority v.2) →
      (raiseDemand p s).isWaiting p = true ∧ (∀ g, (raiseDemand p s).generator g = s.generator g) ∧
      (raiseDemand p s).strikeTimer p =
        (if (s.strikeTimer p).isSome then s.strikeTimer p else some (s.rank r).strikeLength))) ∧
  (∀ (s : State) (k : Nat), s.tremulantDemand k = 0 →
    (raiseTremulant k s).tremulantDemand k = 1 ∧
    (∀ g, s.idleGenerator = some g →
      (raiseTremulant k s).generator g =
        some ⟨.tremulant k, 0, true, (s.tremulant k).period, (s.tremulant k).onTime⟩ ∧
      ∀ h, h ≠ g → (raiseTremulant k s).generator h = s.generator h) ∧
    (s.idleGenerator = none → ∀ v ∈ s.struckClients,
      (∀ w ∈ s.struckClients, s.priority v.2 < s.priority w.2 ∨ (s.priority v.2 = s.priority w.2 ∧ v.1 ≤ w.1)) →
      (raiseTremulant k s).generator v.1 =
        some ⟨.tremulant k, 0, true, (s.tremulant k).period, (s.tremulant k).onTime⟩ ∧
      (∀ h, h ≠ v.1 → (raiseTremulant k s).generator h = s.generator h) ∧
      (raiseTremulant k s).isWaiting v.2 = true ∧ (raiseTremulant k s).latched .genSteal = true ∧
      (raiseTremulant k s).demandOf v.2 = s.demandOf v.2)) ∧
  (∀ (s : State) (p : Point), s.demandOf p = 1 →
    (lowerDemand p s).demandOf p = 0 ∧
    (s.servedBy (.struck p) = none →
      (lowerDemand p s).isWaiting p = false ∧ ∀ g, (lowerDemand p s).generator g = s.generator g) ∧
    ∀ g, s.servedBy (.struck p) = some g → GeneratorFreed g s (lowerDemand p s)) ∧
  ∀ (s : State) (k g : Nat), s.tremulantDemand k = 1 → s.servedBy (.tremulant k) = some g →
    (lowerTremulant k s).tremulantDemand k = 0 ∧ GeneratorFreed g s (lowerTremulant k s)

/-- R143: the next image. A point is on only while its chamber is ENABLED, and there it takes the first of these that
applies: a pipe point is on exactly when its claim count is above 0 and it is not guarded; a struck point takes its driven
value (R68); a stage point of the chamber's channel is on exactly when its index is below the current stage (R129); the
output point of a tremulant is on exactly while one of those tremulants is served and its generator's level is on (R75); any
other point is off. Each group's image shows its 64 points in order (R144). -/
def Obligations.NextImageShowsClaimsAndGuards : Prop :=
  ∀ (s : State) (c g i : Nat), i < 64 →
    ((s.chamber c).state ≠ .enabled → (s.nextImage c g).getLsbD i = false) ∧
    ((s.chamber c).state = .enabled →
      (s.isPipe ⟨c, 64 * g + i⟩ = true →
        (s.nextImage c g).getLsbD i =
          (decide (0 < s.claimCount ⟨c, 64 * g + i⟩) && !(s.chamber c).guarded (64 * g + i))) ∧
      (s.isPipe ⟨c, 64 * g + i⟩ = false → s.isStruck ⟨c, 64 * g + i⟩ = true →
        (s.nextImage c g).getLsbD i = s.drivenValue ⟨c, 64 * g + i⟩) ∧
      (s.isPipe ⟨c, 64 * g + i⟩ = false → s.isStruck ⟨c, 64 * g + i⟩ = false →
        (∀ k, k < (s.channel c).record.stageCount → 64 * g + i = (s.channel c).record.base + k →
          (s.nextImage c g).getLsbD i = decide (k < (s.channel c).stage)) ∧
        ((∀ k, k < (s.channel c).record.stageCount → 64 * g + i ≠ (s.channel c).record.base + k) →
          ((s.nextImage c g).getLsbD i = true ↔
            ∃ k h v, k < 8 ∧ (s.tremulant k).chamber = c ∧ (s.tremulant k).point = 64 * g + i ∧
              s.servedBy (.tremulant k) = some h ∧ s.generator h = some v ∧ v.level = true))))

/-! ### Resets -/

/-- R3, R15, R20, R27, R39, R55, R65, R74, R87, R88, R106, R107, R109, R120, R121, R134, R135, R141, R145, R146, R152, R156
to R159, R163, R165, R168: power-on reset, from any state, with the strap inputs read: every unit at its power-on values.
The model's own: that the age of the CONTROL frame is 0 (log 15), that the blink clock begins its on half (log 14), that the
list of frames sent down is emptied (log 19), that releaseDue is false and no LAMP frame is held (fields of the model, logs
17, 10), and that each transmitter is still free with its CONTROL frame due, the first choice coming at the end of the next
command or tick (log 8). -/
def Obligations.PowerOnResets : Prop :=
  ∀ (strap : Fin 4) (s : State), ∃ t, exec (.powerOnReset strap) s = .next t ∧ t.pending = s.pending ∧
    t.status.strap = strap ∧ t.mode = .config ∧ t.port.link = .down ∧ t.port.timer = none ∧ t.port.requests = [] ∧
    t.outgoing = [] ∧ t.ext.up = false ∧ (∀ kind r, t.row kind r = ⟨0, none, 0, 0⟩) ∧
    (∀ r, t.keySetting r = ⟨0, 1⟩) ∧ t.scan.stopConfirm = 2 ∧ t.scan.inputConfirm = 2 ∧
    (∀ r, t.rank r = ⟨.none, 0, 0, 0, 1, 0, 20, 100, 50, 0⟩) ∧
    (∀ n, t.stop n = ⟨.silent, 0, 0, 0, .silent, .silent, none, none, 0, 0⟩) ∧ (∀ p, t.claimCount p = 0) ∧
    (∀ g, t.generator g = none) ∧ (∀ n, t.player n = none) ∧
    t.port = ⟨.down, 0, 0, none, [], [], none, 0⟩ ∧ t.ext = ⟨false, none, []⟩ ∧ t.scan.releaseDue = false ∧
    (∀ r, t.active r = []) ∧ t.engine.tuning = none ∧ t.claims.pizz = [] ∧ t.claims.holds = [] ∧
    (∀ p, t.strikeTimer p = none ∧ t.demandOf p = 0 ∧ t.isWaiting p = false) ∧ t.waitingAny = false ∧
    (∀ k, t.tremulant k = ⟨0, 0, 400, 200⟩ ∧ t.tremulantDemand k = 0) ∧
    (∀ i, t.route i =
      ⟨⟨.none, .edge, false, true, false, 0, 0, 0, [], 0, 0, .hold, 0, 0, 500⟩, .idle, false, none⟩) ∧
    (∀ g, t.maskDemand g = 0) ∧ (∀ i, t.stepRecord i = ⟨.final, 1, []⟩) ∧ (∀ q, t.seqEntry q = ⟨none, false⟩) ∧
    (∀ n, t.sample n = 0) ∧ (∀ c, t.channel c = ⟨⟨none, 8, 0, 50, 0, [(0, 0), (1023, 1000)]⟩, 0, 0, none⟩) ∧
    (∀ c, (t.chamber c).state = .dark ∧ (t.chamber c).blower = false ∧ (t.chamber c).supply = false ∧
      (t.chamber c).windTimer = none ∧ (t.chamber c).settleTimer = none ∧ (t.chamber c).drainTimer = none ∧
      (t.chamber c).windTimeout = 15 ∧ (t.chamber c).settle = 300 ∧ (t.chamber c).present = false ∧
      (t.chamber c).linkTimer = some 100 ∧ (t.chamber c).windReady = false ∧ (t.chamber c).supplyOk = false ∧
      (t.chamber c).boards = 0 ∧ (∀ g, (t.chamber c).group g = ⟨0, 0, true⟩) ∧ (t.chamber c).lastGroup = 15 ∧
      (t.chamber c).controlAge = 0 ∧ (t.chamber c).controlDue = true ∧ (t.chamber c).tx = .free ∧
      (∀ p, (t.chamber c).guarded p = false ∧ (t.chamber c).onTimer p = none) ∧ (t.chamber c).ciphers = []) ∧
    (∀ n, t.lamp n = ⟨.off, .link, false⟩) ∧ t.status.blinkOn = true ∧ t.status.blinkLeft = 250 ∧
    t.status.heldNotice = false ∧ t.status.heldLamps = [] ∧
    ∀ i, t.latched i = false ∧ t.maskedItem i = false ∧ t.stretch i = none

/-- R16, R152, R157, R158, R169: RELAY-RESET: the REPLY first, then every block at its power-on values but for what is
kept: the console link with its runs and timer, the frames still to leave, the strap address, the blink clock, what has been
sent down (log 19), the driven images and the frames on the chamber links. Every group is forced with age 0 and the last
group sent is 15; the first frame on each free chamber link is the CONTROL frame of both lines off (R145). Behind the REPLY
stand the NOTICE that was held, the LAMP frames that were held, in their order, and, where any lamp was lit, one LAMP frame
of all dark outputs (R167 to R169); that the whole reset is one event (log 9) and that a held LAMP frame keeps the outputs
it was caused with (log 10) are the model's reading. -/
def Obligations.RelayResets : Prop :=
  ∀ (s : State) (r : Request), HeadIs s r 0x11#8 [] → ∃ t, exec .relayReset s = .next t ∧ t.pending = s.pending ∧
    (s.port.returnQueue.length < 32 → ∃ later, t.outgoing = s.outgoing ++ s.replyFrame r.tag (.done []) :: later) ∧
    (s.port.returnQueue.length + s.status.heldLamps.length + 3 ≤ 32 →
      t.outgoing = s.outgoing ++ s.replyFrame r.tag (.done []) ::
        ((if s.status.heldNotice then [s.noticeFrame] else []) ++ s.status.heldLamps.map s.lampFrame ++
          if s.lampOutputs = 0 then [] else [s.lampFrame 0])) ∧
    t.port.requests = [] ∧ t.port.link = s.port.link ∧ t.port.badRun = s.port.badRun ∧
    t.port.goodRun = s.port.goodRun ∧ t.port.timer = s.port.timer ∧ t.port.silence = s.port.silence ∧
    t.ext = { resetExt with sentDown := s.ext.sentDown } ∧ t.scan = resetScan ∧ t.engine = resetEngine ∧
    t.claims = resetClaims ∧ t.pool = resetPool ∧ t.router = resetRouter ∧ t.sequencer = resetSequencer ∧
    t.expression = resetExpression ∧
    t.status = { resetStatus with
      strap := s.status.strap, blinkOn := s.status.blinkOn, blinkLeft := s.status.blinkLeft } ∧
    ∀ c, c < 4 →
      (t.chamber c).state = .dark ∧ (t.chamber c).blower = false ∧ (t.chamber c).supply = false ∧
      (t.chamber c).windTimer = none ∧ (t.chamber c).settleTimer = none ∧ (t.chamber c).drainTimer = none ∧
      (t.chamber c).windTimeout = 15 ∧ (t.chamber c).settle = 300 ∧
      (t.chamber c).present = false ∧ (t.chamber c).linkTimer = some 100 ∧ (t.chamber c).windReady = false ∧
      (t.chamber c).supplyOk = false ∧ (t.chamber c).boards = 0 ∧ (t.chamber c).ciphers = [] ∧
      (∀ p, (t.chamber c).guarded p = false ∧ (t.chamber c).onTimer p = none) ∧
      (∀ g, g < 16 → (t.chamber c).group g = ⟨((s.chamber c).group g).driven, 0, true⟩) ∧
      (t.chamber c).lastGroup = 15 ∧
      ((s.chamber c).tx = .free → (t.chamber c).tx = .control false false ∧ (t.chamber c).controlDue = false) ∧
      ((s.chamber c).tx ≠ .free → (t.chamber c).tx = (s.chamber c).tx ∧ (t.chamber c).controlDue = true)

/-! ### The console link -/

/-- R153, R154: in DOWN a good frame other than HELLO is discarded and changes nothing, and so is a bad frame. -/
def Obligations.DownDiscardsFrames : Prop :=
  ∀ s : State, s.port.link = .down →
    (∀ kind row image, exec (.scan kind row image) s = .next s) ∧
    (∀ shoe sample, exec (.shoe shoe sample) s = .next s) ∧
    (∀ address tag code fields, exec (.request address tag code fields) s = .next s) ∧
    (∀ sender, exec (.idle sender) s = .next s) ∧ exec .badFrame s = .next s

/-- R153, R154: in TRAINING every good frame other than HELLO is counted and otherwise discarded; the third one in a row
takes the link to UP and latches LINK. -/
def Obligations.TrainingCountsGoodFrames : Prop :=
  ∀ (s : State) (i : Instr), s.port.link = .training →
    (∃ kind row image, i = .scan kind row image) ∨ (∃ shoe sample, i = .shoe shoe sample) ∨
      (∃ address tag code fields, i = .request address tag code fields) ∨ (∃ sender, i = .idle sender) →
    ∃ t, exec i s = .next t ∧
      (s.port.goodRun + 1 < 3 →
        QuietlySame (s.setPort { s.port with badRun := 0, timer := some 60, goodRun := s.port.goodRun + 1 }) t) ∧
      (3 ≤ s.port.goodRun + 1 →
        QuietlySame ((s.setPort { s.port with
          badRun := 0, timer := some 60, goodRun := 0, link := .up }).setLatched .link true) t)

/-- R154, R160: HELLO in every state: the HELLO-REPLY, the forwarding, and the link state after. -/
def Obligations.HelloIsAnswered : Prop :=
  ∀ s : State, ∃ t, exec .hello s = .next t ∧
    (s.port.returnQueue.length < 32 →
      ∃ later, t.outgoing =
        s.outgoing ++ .own 0x11#8 [s.strapByte, 5#8, 1#8, 0x40#8, 96#8, 4#8, 48#8, 1#8] :: later) ∧
    t.ext.up = s.ext.up ∧ t.ext.timer = s.ext.timer ∧
    t.ext.sentDown = (if s.ext.up then s.ext.sentDown ++ [frameBytes 0x03#8 []] else s.ext.sentDown) ∧
    t.port.link = (if s.port.link = .up then .up else .training) ∧ t.port.timer = some 60 ∧ t.port.badRun = 0 ∧
    t.port.goodRun = (if s.port.link = .up then s.port.goodRun else 0) ∧
    (s.port.link = .down → t.latched .link = true) ∧ t.port.requests = s.port.requests ∧ t.scan = s.scan ∧
    t.engine = s.engine ∧ t.claims = s.claims ∧ t.pool = s.pool ∧ t.router = s.router ∧ t.sequencer = s.sequencer ∧
    t.expression = s.expression ∧ t.mode = s.mode ∧ ∀ c, (s.chamber c).sameLogic (t.chamber c)

/-- R156, R157, R160: a REQUEST in UP. For this relay it joins the request queue, or is turned away with BUSY at once
when 4 are held; for another it is forwarded. -/
def Obligations.RequestsQueueOrTurnAway : Prop :=
  ∀ (s : State) (address tag code : Byte) (fields : Bytes), s.port.link = .up →
    ∃ t, exec (.request address tag code fields) s = .next t ∧
      (address = s.strapByte → s.port.requests.length < 4 →
        ReportsOnly (s.setPort { s.port with badRun := 0, timer := some 60 }) t ∧
        t.port.requests = s.port.requests ++ [⟨tag, code, fields⟩] ∧ t.outgoing = s.outgoing) ∧
      (address = s.strapByte → 4 ≤ s.port.requests.length →
        QuietlySame (s.setPort { s.port with badRun := 0, timer := some 60 }) t ∧
        (s.port.returnQueue.length < 32 → t.outgoing = s.outgoing ++ [s.replyFrame tag .busy])) ∧
      (address ≠ s.strapByte →
        QuietlySame ((s.setPort { s.port with badRun := 0, timer := some 60 }).setExt
          { s.ext with sentDown :=
              if s.ext.up then
                s.ext.sentDown ++ [frameBytes 0x04#8 (address :: tag :: code :: fields)]
              else s.ext.sentDown }) t)

/-- R153, R156: an IDLE frame in UP restarts the link timer and does nothing else. A bad frame in TRAINING or UP, short of
the eighth in a row, is counted and ends the run of good frames. R141, R159: a bad frame from below or from a chamber
changes nothing. -/
def Obligations.IdleAndBadFramesAct : Prop :=
  ∀ s : State,
    (s.port.link = .up → ∀ sender, ∃ t, exec (.idle sender) s = .next t ∧
      QuietlySame (s.setPort { s.port with badRun := 0, timer := some 60 }) t) ∧
    (s.port.link ≠ .down → s.port.badRun + 1 < 8 → ∃ t, exec .badFrame s = .next t ∧
      QuietlySame (s.setPort { s.port with badRun := s.port.badRun + 1, goodRun := 0 }) t) ∧
    exec .extBadFrame s = .next s ∧ ∀ c, exec (.chamberBadFrame c) s = .next s

/-- R14, R91, R153, R155: the link timer's expiry, and the eighth bad frame in a row, take the link DOWN: one request
stays, LINK is latched, every key and input row is emptied, every stop row keeps what is held, every route input is
INACTIVE, and the tables, samples, mode and chamber states stand. R44, R56, R64, R86, R104: each coupling of a held key has
ended, with its claim, its pizzicato entry or its demand, and a point that this leaves with no claim is unguarded (R149); so
has each LEVEL or SPLIT entry that was ACTIVE, with its claim,
its demand, or its players made FINISHING; player holds, tuning holds, PENDING entries and the stops' demands stand. -/
def Obligations.LinkLossReleasesEverything : Prop :=
  ∀ (s : State) (i : Instr),
    (i = .linkTimerExpiry ∧ s.port.timer.isSome = true) ∨
      (i = .badFrame ∧ s.port.link ≠ .down ∧ 8 ≤ s.port.badRun + 1) →
    ∃ t, exec i s = .next t ∧ t.port.link = .down ∧ t.port.timer = none ∧ t.port.badRun = 0 ∧ t.port.goodRun = 0 ∧
      t.port.requests = s.port.requests.take 1 ∧ t.latched .link = true ∧
      (∀ r, r < 9 → t.row .key r = ⟨0, none, 0, 0⟩) ∧ (∀ r, r < 3 → t.row .input r = ⟨0, none, 0, 0⟩) ∧
      (∀ r, r < 10 → (t.row .stop r).held = (s.row .stop r).held ∧ (t.row .stop r).candidate = none) ∧
      (∀ j, j < 96 → (t.route j).active = false ∧ (t.route j).fields = (s.route j).fields) ∧
      t.engine = s.engine ∧ t.expression = s.expression ∧ t.mode = s.mode ∧ t.ext = s.ext ∧
      t.sequencer.memory = s.sequencer.memory ∧ t.claims.holds = s.claims.holds ∧
      (∀ c, (t.chamber c).state = (s.chamber c).state) ∧
      ((∀ r, (s.active r).Nodup) → ∀ q : Point, t.claimCount q =
        s.claimCount q - occurrences q (s.keyClaims ++ s.serviceNotes .hold (fun j => s.serves j && s.endsInactive j))) ∧
      ((∀ r, (s.active r).Nodup) →
        FallsClear (s.keyClaims ++ s.serviceNotes .hold (fun j => s.serves j && s.endsInactive j)) s t) ∧
      t.claims.pizz = s.claims.pizz.filter (fun e => !s.entryLive e) ∧
      (∀ q : Point, t.demandOf q =
        s.demandOf q - occurrences q (s.keyDemands ++ s.serviceNotes .roll (fun j => s.serves j && s.endsInactive j))) ∧
      t.pool.tremDemand = s.pool.tremDemand ∧ t.router.maskDemand = s.router.maskDemand ∧
      (∀ j, j < 96 → (t.route j).state = if s.endsInactive j then .idle else (s.route j).state) ∧
      ∀ n, n < 8 → (∀ run, s.player n = some run → run.input < 96) →
        t.player n = (s.player n).map (fun run =>
          if s.serves run.input = true ∧ s.endsInactive run.input = true ∧
              (s.route run.input).fields.heldNote = none ∧ (s.route run.input).fields.target = .sequence then
            { run with finishing := true }
          else run)

/-! ### Rows and shoes -/

/-- R6, R7, R8: a SCAN of a key row in UP: the row is filtered and no other row, table, route or player changes. R40, R44,
R53, R56: the keys that have left the held image are released and those that have joined it are pressed, by the relay mode.
In CONFIG, and in TUNE on a row that is not selected, nothing sounds. In PLAY each released key ends its coupling with every
stop of the row's active list, and each pressed one starts it: one claim for each TONAL target (R53 where it is pizzicato),
one unit of demand for each REITERATE target, one strike for each STRUCK target, also on a row whose list holds REITERATE
stops; the on-timers follow the claims (R146), and the frame is forwarded while the extension link is UP (R160). In TUNE,
on the selected row, the tuning couplings end and start. That no stop is twice on an active list is
PlayStateRestsOutsidePlay. -/
def Obligations.ScanFiltersKeyRow : Prop :=
  ∀ (s : State) (r : Byte) (image : Image), s.port.link = .up → r.toNat < 9 → s.scan.releaseDue = false →
    ∃ t, exec (.scan 0#8 r image) s = .next t ∧
      t.row .key r.toNat =
        filteredRow true (s.keySetting r.toNat).confirm (s.row .key r.toNat)
          (image &&& below (s.keySetting r.toNat).keyCount) ∧
      (∀ kind q, ¬(kind = .key ∧ q = r.toNat) → t.row kind q = s.row kind q) ∧
      t.scan.keySettings = s.scan.keySettings ∧ t.engine = s.engine ∧ t.claims.holds = s.claims.holds ∧
      t.router = s.router ∧ t.sequencer = s.sequencer ∧ t.expression = s.expression ∧ t.mode = s.mode ∧
      t.port.timer = some 60 ∧ t.port.badRun = 0 ∧ t.port.requests = s.port.requests ∧
      t.ext = { s.ext with sentDown :=
        if s.ext.up then s.ext.sentDown ++ [frameBytes 0x01#8 (0#8 :: r :: imageBytes 8 image.toNat)]
        else s.ext.sentDown } ∧
      KeyRunTaken r.toNat
        (positions ((s.row .key r.toNat).held &&& ~~~(t.row .key r.toNat).held))
        (positions ((t.row .key r.toNat).held &&& ~~~(s.row .key r.toNat).held))
        (((s.setPort { s.port with badRun := 0, timer := some 60 }).setRow .key r.toNat (t.row .key r.toNat)).setExt t.ext) t

/-- R6, R7, R10, R25, R41, R42: a SCAN of a stop row in UP: the row is filtered with no lockout, in every mode; outside
PLAY nothing else changes but the link's runs and what is forwarded. In PLAY each active list loses its cancelled stops and
then gains its drawn ones at the tail, in ascending number. R40, R53, R93: one stop alone, drawn or cancelled, starts or ends
its coupling with every key held on its row: a TONAL one adds a claim at each target or removes it (R53 where it is
pizzicato), a STRUCK one strikes each target at its draw, a REITERATE one raises or lowers the demand of each; a TREMULANT
stop raises or lowers its demand; a ROUTE-MASK stop raises or lowers its group's, and from 0 to 1 the OPEN entries of the
group become masked, from 1 to 0 unmasked. Several stops cancelled and drawn by one frame move the tremulant and mask demands
so, the cancelled ones first (R8, R25), with the entries that a group's fall to 0 unmasks and its rise masks; and with no
ROUTE-MASK stop among them the claims, demands and strikes of all their couplings. The frame is forwarded in every mode
(R160). -/
def Obligations.ScanFiltersStopRow : Prop :=
  ∀ (s : State) (r : Byte) (image : Image), s.port.link = .up → r.toNat < 10 →
    let row := filteredRow false s.scan.stopConfirm (s.row .stop r.toNat) (image &&& below 32)
    let old := (s.row .stop r.toNat).held
    ∃ t, exec (.scan 1#8 r image) s = .next t ∧ t.row .stop r.toNat = row ∧ t.port.requests = s.port.requests ∧
      (∀ q, q ≠ r.toNat → t.row .stop q = s.row .stop q) ∧ t.engine.ranks = s.engine.ranks ∧
      t.engine.stops = s.engine.stops ∧ t.engine.tuning = s.engine.tuning ∧
      t.ext = { s.ext with sentDown :=
        if s.ext.up then s.ext.sentDown ++ [frameBytes 0x01#8 (1#8 :: r :: imageBytes 8 image.toNat)]
        else s.ext.sentDown } ∧
      (s.mode = .play → s.scan.releaseDue = false →
        StopsTaken ((positions (old &&& ~~~row.held)).map (32 * r.toNat + ·))
          ((positions (row.held &&& ~~~old)).map (32 * r.toNat + ·)) s t) ∧
      (s.mode ≠ .play → s.scan.releaseDue = false →
        QuietlySame (((s.setPort { s.port with badRun := 0, timer := some 60 }).setRow .stop r.toNat row).setExt
          { s.ext with sentDown :=
              if s.ext.up then
                s.ext.sentDown ++ [frameBytes 0x01#8 (1#8 :: r :: imageBytes 8 image.toNat)]
              else s.ext.sentDown }) t) ∧
      (s.mode = .play → (old &&& ~~~below 32) = 0 → ∀ q,
        t.active q =
          (s.active q).filter (fun n => !((s.stop n).kind.hasMapping && decide ((s.stop n).row = q) &&
            decide (n / 32 = r.toNat) && old.getLsbD (n % 32) && !row.held.getLsbD (n % 32))) ++
          ((List.range 32).map (32 * r.toNat + ·)).filter (fun n => (s.stop n).kind.hasMapping &&
            decide ((s.stop n).row = q) && row.held.getLsbD (n % 32) && !old.getLsbD (n % 32))) ∧
      (s.mode = .play → s.scan.releaseDue = false → ∀ p, p < 32 →
        row.held = old ^^^ (1#64 <<< p) →
        ((s.stop (32 * r.toNat + p)).kind = .tremulant →
          t.tremulantDemand (s.stop (32 * r.toNat + p)).tremulant =
            (if row.held.getLsbD p then s.tremulantDemand (s.stop (32 * r.toNat + p)).tremulant + 1
             else s.tremulantDemand (s.stop (32 * r.toNat + p)).tremulant - 1) ∧
          t.claims = s.claims ∧ t.router = s.router ∧ t.sequencer = s.sequencer) ∧
        ((s.stop (32 * r.toNat + p)).kind = .routeMask → ∀ g,
          t.maskDemand g =
            if g ≠ (s.stop (32 * r.toNat + p)).group then s.maskDemand g
            else if row.held.getLsbD p then s.maskDemand g + 1 else s.maskDemand g - 1) ∧
        ((s.stop (32 * r.toNat + p)).kind = .routeMask →
          let g := (s.stop (32 * r.toNat + p)).group
          let base := ((s.setPort { s.port with badRun := 0, timer := some 60 }).setRow .stop r.toNat row).setExt t.ext
          (row.held.getLsbD p = true →
            (s.maskDemand g = 0 → GroupMasked g (base.setMaskDemand g 1) t) ∧
            (s.maskDemand g ≠ 0 → ReportsOnly (base.setMaskDemand g (s.maskDemand g + 1)) t)) ∧
          (row.held.getLsbD p = false →
            (s.maskDemand g = 1 → GroupUnmasked g (base.setMaskDemand g 0) t) ∧
            (s.maskDemand g ≠ 1 → ReportsOnly (base.setMaskDemand g (s.maskDemand g - 1)) t))) ∧
        ((s.stop (32 * r.toNat + p)).kind = .tonal →
          (∀ q : Point, t.claimCount q =
            if row.held.getLsbD p then
              s.claimCount q + occurrences q ((s.heldKeys (s.stop (32 * r.toNat + p)).row).filterMap
                (s.target (s.stop (32 * r.toNat + p)).mapping))
            else
              s.claimCount q - occurrences q ((s.heldKeys (s.stop (32 * r.toNat + p)).row).filterMap
                (fun k => s.endedClaim (s.stop (32 * r.toNat + p)).row k (32 * r.toNat + p)))) ∧
          t.pool = s.pool ∧ t.router = s.router ∧ t.sequencer = s.sequencer) ∧
        ((s.stop (32 * r.toNat + p)).kind = .struck →
          (row.held.getLsbD p = true →
            StrikesTaken ((s.heldKeys (s.stop (32 * r.toNat + p)).row).filterMap
              (s.target (s.stop (32 * r.toNat + p)).mapping)) s t) ∧
          (row.held.getLsbD p = false → t.pool = s.pool) ∧
          t.claims = s.claims ∧ t.router = s.router ∧ t.sequencer = s.sequencer) ∧
        ((s.stop (32 * r.toNat + p)).kind = .reiterate →
          (∀ q : Point, t.demandOf q =
            if row.held.getLsbD p then
              s.demandOf q + occurrences q ((s.heldKeys (s.stop (32 * r.toNat + p)).row).filterMap
                (s.target (s.stop (32 * r.toNat + p)).mapping))
            else
              s.demandOf q - occurrences q ((s.heldKeys (s.stop (32 * r.toNat + p)).row).filterMap
                (s.target (s.stop (32 * r.toNat + p)).mapping))) ∧
          t.claims = s.claims ∧ t.router = s.router ∧ t.sequencer = s.sequencer))

/-- R6, R7, R11, R91: a SCAN of an input row in UP whose entries do not ask for a general release: the row is filtered, and
the level of each input whose contact has changed takes the contact by its polarity. R94 to R99: where one contact has
changed, whatever its target, the activation or deactivation of its entry is taken by the entry's trigger: an EDGE
activation delivers, becomes PENDING or is swallowed; a LEVEL one starts and ends its service; a SPLIT one measures, taps,
or ends its hold; a RELEASE-ALL target brings a general release. -/
def Obligations.ScanFiltersInputRow : Prop :=
  (∀ (s : State) (r : Byte) (image : Image), s.port.link = .up → r.toNat < 3 → s.scan.releaseDue = false →
    (s.row .input r.toNat).held &&& ~~~below 32 = 0 →
    (∀ p, p < 32 → (s.route (32 * r.toNat + p)).fields.target ≠ .releaseAll) →
    ∃ t, exec (.scan 2#8 r image) s = .next t ∧
      t.row .input r.toNat =
        filteredRow true s.scan.inputConfirm (s.row .input r.toNat) (image &&& below 32) ∧
      (∀ kind q, ¬(kind = .input ∧ q = r.toNat) → t.row kind q = s.row kind q) ∧
      (∀ p, p < 32 → (t.route (32 * r.toNat + p)).active =
        if (t.row .input r.toNat).held.getLsbD p = (s.row .input r.toNat).held.getLsbD p then
          (s.route (32 * r.toNat + p)).active
        else xor ((t.row .input r.toNat).held.getLsbD p) (s.route (32 * r.toNat + p)).fields.inverted) ∧
      (∀ i, (t.route i).fields = (s.route i).fields) ∧
      (∀ i, i < 32 * r.toNat ∨ 32 * r.toNat + 32 ≤ i → t.route i = s.route i) ∧
      t.engine = s.engine ∧ t.claims.holds = s.claims.holds ∧ t.expression = s.expression ∧ t.mode = s.mode) ∧
  ∀ (s : State) (r : Byte) (image : Image) (p : Nat), s.port.link = .up → r.toNat < 3 → s.scan.releaseDue = false →
    p < 32 →
    let row := filteredRow true s.scan.inputConfirm (s.row .input r.toNat) (image &&& below 32)
    let i := 32 * r.toNat + p
    let level := xor (row.held.getLsbD p) (s.route i).fields.inverted
    let base := ((s.setPort { s.port with badRun := 0, timer := some 60 }).setRow .input r.toNat row).setExt
      { s.ext with sentDown :=
          if s.ext.up then s.ext.sentDown ++ [frameBytes 0x01#8 (2#8 :: r :: imageBytes 8 image.toNat)]
          else s.ext.sentDown }
    row.held = (s.row .input r.toNat).held ^^^ (1#64 <<< p) →
    ∃ t, exec (.scan 2#8 r image) s = .next t ∧ t.port.requests = s.port.requests ∧
      (level = (s.route i).active → ReportsOnly base t) ∧
      (level = true → (s.route i).active = false →
        ActivationTaken i (base.setRoute i { s.route i with active := true }) t) ∧
      (level = false → (s.route i).active = true →
        DeactivationTaken i (base.setRoute i { s.route i with active := false }) t)

/-- R5: a SCAN in UP of an unknown row kind, or of a row outside its kind, is ignored but counts as a good frame. -/
def Obligations.ScanOutOfRangeIgnored : Prop :=
  ∀ (s : State) (kind r : Byte) (image : Image), s.port.link = .up →
    (3 ≤ kind.toNat ∨ (kind = 0#8 ∧ 9 ≤ r.toNat) ∨ (kind = 1#8 ∧ 10 ≤ r.toNat) ∨ (kind = 2#8 ∧ 3 ≤ r.toNat)) →
    ∃ t, exec (.scan kind r image) s = .next t ∧
      QuietlySame ((s.setPort { s.port with badRun := 0, timer := some 60 }).setExt
        { s.ext with sentDown :=
            if s.ext.up then
              s.ext.sentDown ++ [frameBytes 0x01#8 (kind :: r :: imageBytes 8 image.toNat)]
            else s.ext.sentDown }) t

/-- R122, R125 to R127, R160: a SHOE in UP: the frame is forwarded while the extension link is UP; the clamped sample is
stored, every channel that follows the shoe takes its goal from it and an idle one moves one stage at once; other channels
and samples, and every other block, stand. A shoe above 3 changes no sample and no channel. The goal of a channel whose
record is in its ranges is the one that R126 gives for the level of R125: the curve's segment with the quotient truncated
toward zero, the two thresholds, and the choice between them and the stage. -/
def Obligations.ShoeMovesFollowingChannels : Prop :=
  ∀ (s : State) (shoe : Byte) (sample : BitVec 16), s.port.link = .up →
    ∃ t, exec (.shoe shoe sample) s = .next t ∧
      QuietlySame (((s.setPort { s.port with badRun := 0, timer := some 60 }).setExt
        { s.ext with sentDown :=
            if s.ext.up then s.ext.sentDown ++ [frameBytes 0x02#8 (shoe :: wordBytes sample.toNat)]
            else s.ext.sentDown }).setExpression t.expression) t ∧
      (3 < shoe.toNat → t.expression = s.expression) ∧
      (shoe.toNat ≤ 3 →
        t.sample shoe.toNat = min sample.toNat 1023 ∧
        (∀ o, o ≠ shoe.toNat → t.sample o = s.sample o) ∧
        ∀ c, c < 4 →
          ((s.channel c).record.shoe ≠ some shoe.toNat → t.channel c = s.channel c) ∧
          ((s.channel c).record.shoe = some shoe.toNat →
            (t.channel c).record = (s.channel c).record ∧
            (t.channel c).goal =
              goalOf (s.channel c).record.stageCount (s.channel c).record.hysteresis
                (curveLevel (s.channel c).record.curve (min sample.toNat 1023)) (s.channel c).stage ∧
            ((s.channel c).record.fits →
              (s.channel c).record.aims (min sample.toNat 1023) (s.channel c).stage (t.channel c).goal) ∧
            ((s.channel c).timer.isSome →
              (t.channel c).stage = (s.channel c).stage ∧ (t.channel c).timer = (s.channel c).timer) ∧
            ((s.channel c).timer = none → (t.channel c).goal ≠ (s.channel c).stage →
              (t.channel c).stage = stageToward (s.channel c).stage (t.channel c).goal ∧
              (t.channel c).timer = some (s.channel c).record.slew) ∧
            ((s.channel c).timer = none → (t.channel c).goal = (s.channel c).stage →
              (t.channel c).stage = (s.channel c).stage ∧ (t.channel c).timer = none)))

/-! ### Requests -/

/-- R161, R175: ECHO returns its 0 to 16 bytes; more are refused with field 1. -/
def Obligations.EchoReturnsData : Prop :=
  ∀ (s : State) (r : Request) (fields : Bytes), HeadIs s r 0x01#8 fields →
    AnsweredUnchanged .echo s r (if fields.length ≤ 16 then .done fields else .badRecord 1)

/-- R161, R162, R175: an unknown request code is refused with field 0; a table that is unknown, missing, or cannot be
written is NO-SUCH-TABLE; an index beyond a table is BAD-INDEX, for every table, for writes and reads alike. That a read with
such an index is BAD-INDEX even with bytes left over after it is the model's reading of the order of the tests (log 32). -/
def Obligations.RequestsOutsideTablesRefused : Prop :=
  (∀ (s : State) (r : Request), s.port.requests.head? = some r → (r.code = 0#8 ∨ 0x11 < r.code.toNat) →
    AnsweredUnchanged .unknownRequest s r (.badRecord 0)) ∧
  (∀ (s : State) (r : Request) (fields : Bytes), HeadIs s r 0x03#8 fields →
    (∀ t rest, fields = t :: rest → t = 0#8 ∨ 10 < t.toNat) → AnsweredUnchanged .noSuchTable s r .noSuchTable) ∧
  (∀ (s : State) (r : Request) (fields : Bytes), HeadIs s r 0x04#8 fields →
    (∀ t rest, fields = t :: rest → t = 0#8 ∨ 12 < t.toNat) → AnsweredUnchanged .noSuchTable s r .noSuchTable) ∧
  ∀ (s : State) (r : Request) (hi lo : Byte) (rest : Bytes),
    (∀ x ∈ [(Instr.tableWriteStop, 1#8, 319), (.tableWriteRank, 2#8, 47), (.tableWriteRoute, 3#8, 95),
        (.tableWriteTremulant, 4#8, 7), (.tableWriteCurve, 5#8, 3), (.tableWriteSeqdir, 6#8, 15),
        (.tableWriteSeqmem, 7#8, 1023), (.tableWriteScan, 8#8, 10), (.tableWriteChamber, 9#8, 3),
        (.tableWriteLamp, 10#8, 15)],
      HeadIs s r 0x03#8 (x.2.1 :: hi :: lo :: rest) → x.2.2 < wordOf hi lo → AnsweredUnchanged x.1 s r .badIndex) ∧
    (∀ x ∈ [(Instr.tableReadStop, 1#8, 319), (.tableReadRank, 2#8, 47), (.tableReadRoute, 3#8, 95),
        (.tableReadTremulant, 4#8, 7), (.tableReadCurve, 5#8, 3), (.tableReadSeqdir, 6#8, 15),
        (.tableReadSeqmem, 7#8, 1023), (.tableReadScan, 8#8, 10), (.tableReadChamber, 9#8, 3),
        (.tableReadLamp, 10#8, 15), (.tableReadActive, 11#8, 8), (.tableReadPizz, 12#8, 0)],
      HeadIs s r 0x04#8 (x.2.1 :: hi :: lo :: rest) → x.2.2 < wordOf hi lo → AnsweredUnchanged x.1 s r .badIndex)

/-- R19, R29, R66: a TABLE-WRITE of RANK with its index in range: the first field out of range, the frozen mapping fields
in PLAY and TUNE, and the taken write, after which the points that are no struck points hold no strike timer, no demand and
no place in the waiting set. -/
def Obligations.RankWriteIsTakenOrRefused : Prop :=
  ∀ (s : State) (r : Request) (hi lo : Byte) (bytes : Bytes), HeadIs s r 0x03#8 (2#8 :: hi :: lo :: bytes) →
    wordOf hi lo ≤ 47 →
    (∀ n, readRank bytes = .error n → AnsweredUnchanged .tableWriteRank s r (.badRecord n)) ∧
    ∀ x, readRank bytes = .ok x →
      (s.mode ≠ .config →
        ¬(x.kind = (s.rank (wordOf hi lo)).kind ∧ x.chamber = (s.rank (wordOf hi lo)).chamber ∧
          x.base = (s.rank (wordOf hi lo)).base ∧ x.lowest = (s.rank (wordOf hi lo)).lowest ∧
          x.noteCount = (s.rank (wordOf hi lo)).noteCount) →
        AnsweredUnchanged .tableWriteRank s r .wrongMode) ∧
      ((s.mode = .config ∨
          (x.kind = (s.rank (wordOf hi lo)).kind ∧ x.chamber = (s.rank (wordOf hi lo)).chamber ∧
            x.base = (s.rank (wordOf hi lo)).base ∧ x.lowest = (s.rank (wordOf hi lo)).lowest ∧
            x.noteCount = (s.rank (wordOf hi lo)).noteCount)) →
        ∃ t, exec .tableWriteRank s = .next t ∧ Answered s t r.tag (.done []) ∧
          ReportsOnly ((s.setRank (wordOf hi lo) x).setPool t.pool) t ∧ t.rank (wordOf hi lo) = x ∧
          (∀ q, q ≠ wordOf hi lo → t.rank q = s.rank q) ∧ t.pool.generators = s.pool.generators ∧
          t.pool.tremulants = s.pool.tremulants ∧ t.pool.tremDemand = s.pool.tremDemand ∧
          ∀ p : Point, p.point < 1024 →
            t.strikeTimer p = (if t.isStruck p then s.strikeTimer p else none) ∧
            t.demandOf p = (if t.isStruck p then s.demandOf p else 0) ∧
            t.isWaiting p = (t.isStruck p && s.isWaiting p))

/-- R26, R29, R74, R108, R109, R135, R168: TABLE-WRITEs of STOP, TREMULANT, SEQDIR, SEQMEM, CHAMBER and LAMP with the index
in range. The first field out of range is refused; a taken write replaces the record named and nothing else. In PLAY and
TUNE, SEQDIR and SEQMEM are refused, STOP where more than the pizzicato length differs, and TREMULANT where chamber or
point differs. -/
def Obligations.PlainTableWrites : Prop :=
  ∀ (s : State) (r : Request) (hi lo : Byte) (bytes : Bytes),
    (HeadIs s r 0x03#8 (1#8 :: hi :: lo :: bytes) → wordOf hi lo ≤ 319 →
      (∀ n, readStop bytes = .error n → AnsweredUnchanged .tableWriteStop s r (.badRecord n)) ∧
      ∀ x, readStop bytes = .ok x →
        (s.mode ≠ .config → x ≠ { s.stop (wordOf hi lo) with pizz := x.pizz } →
          AnsweredUnchanged .tableWriteStop s r .wrongMode) ∧
        (s.mode = .config ∨ x = { s.stop (wordOf hi lo) with pizz := x.pizz } →
          AnsweredAs .tableWriteStop s r (s.setStop (wordOf hi lo) x))) ∧
    (HeadIs s r 0x03#8 (4#8 :: hi :: lo :: bytes) → wordOf hi lo ≤ 7 →
      (∀ n, readTremulant bytes = .error n → AnsweredUnchanged .tableWriteTremulant s r (.badRecord n)) ∧
      ∀ x, readTremulant bytes = .ok x →
      (s.mode = .config ∨ (x.chamber = (s.tremulant (wordOf hi lo)).chamber ∧
          x.point = (s.tremulant (wordOf hi lo)).point) →
        AnsweredAs .tableWriteTremulant s r (s.setTremulant (wordOf hi lo) x)) ∧
      (s.mode ≠ .config → ¬(x.chamber = (s.tremulant (wordOf hi lo)).chamber ∧
          x.point = (s.tremulant (wordOf hi lo)).point) →
        AnsweredUnchanged .tableWriteTremulant s r .wrongMode)) ∧
    (HeadIs s r 0x03#8 (6#8 :: hi :: lo :: bytes) → wordOf hi lo ≤ 15 →
      (∀ n, readSeqEntry bytes = .error n → AnsweredUnchanged .tableWriteSeqdir s r (.badRecord n)) ∧
      ∀ x, readSeqEntry bytes = .ok x →
      (s.mode = .config → AnsweredAs .tableWriteSeqdir s r (s.setSeqEntry (wordOf hi lo) x)) ∧
      (s.mode ≠ .config → AnsweredUnchanged .tableWriteSeqdir s r .wrongMode)) ∧
    (HeadIs s r 0x03#8 (7#8 :: hi :: lo :: bytes) → wordOf hi lo ≤ 1023 →
      (∀ n, readStep bytes = .error n → AnsweredUnchanged .tableWriteSeqmem s r (.badRecord n)) ∧
      ∀ x, readStep bytes = .ok x →
      (s.mode = .config → AnsweredAs .tableWriteSeqmem s r (s.setStepRecord (wordOf hi lo) x)) ∧
      (s.mode ≠ .config → AnsweredUnchanged .tableWriteSeqmem s r .wrongMode)) ∧
    (HeadIs s r 0x03#8 (9#8 :: hi :: lo :: bytes) → wordOf hi lo ≤ 3 →
      (∀ n, readChamber bytes = .error n → AnsweredUnchanged .tableWriteChamber s r (.badRecord n)) ∧
      ∀ x, readChamber bytes = .ok x →
      AnsweredAs .tableWriteChamber s r
        (s.setChamber (wordOf hi lo) { s.chamber (wordOf hi lo) with windTimeout := x.1, settle := x.2 })) ∧
    (HeadIs s r 0x03#8 (10#8 :: hi :: lo :: bytes) → wordOf hi lo ≤ 15 →
      (∀ n, readLamp bytes = .error n → AnsweredUnchanged .tableWriteLamp s r (.badRecord n)) ∧
      ∀ x, readLamp bytes = .ok x →
      AnsweredAs .tableWriteLamp s r (s.setLamp (wordOf hi lo) x))

/-- R89, R90: a TABLE-WRITE of ROUTE: in CONFIG the fields are replaced and a change of polarity sets the level afresh;
in PLAY and TUNE a write that differs beyond mask and defer is refused, and a taken one leaves every entry's other
fields. A write taken in PLAY is answered DONE: a PENDING entry whose new defer is no returns to IDLE without delivery, and
then a change of the effective mask is taken by the entry's trigger (R92, R97 to R99). In TUNE, where no entry is PENDING
(R104), it changes no state. -/
def Obligations.RouteWriteIsTakenOrRefused : Prop :=
  ∀ (s : State) (r : Request) (hi lo : Byte) (bytes : Bytes), HeadIs s r 0x03#8 (3#8 :: hi :: lo :: bytes) →
    wordOf hi lo ≤ 95 →
    (∀ n, readRoute bytes = .error n → AnsweredUnchanged .tableWriteRoute s r (.badRecord n)) ∧
    ∀ x, readRoute bytes = .ok x →
      (s.mode = .config →
        AnsweredAs .tableWriteRoute s r (s.setRoute (wordOf hi lo) { s.route (wordOf hi lo) with
          fields := x
          active :=
            if x.inverted = (s.route (wordOf hi lo)).fields.inverted then (s.route (wordOf hi lo)).active
            else decide (s.port.link = .up) && xor (s.contact (wordOf hi lo)) x.inverted })) ∧
      (s.mode ≠ .config →
        x ≠ { (s.route (wordOf hi lo)).fields with masked := x.masked, defer := x.defer } →
        AnsweredUnchanged .tableWriteRoute s r .wrongMode) ∧
      (s.mode ≠ .config →
        x = { (s.route (wordOf hi lo)).fields with masked := x.masked, defer := x.defer } →
        ∃ t, exec .tableWriteRoute s = .next t ∧ t.port.requests = s.port.requests.tail ∧
          (t.route (wordOf hi lo)).fields = x ∧
          (∀ j, j ≠ wordOf hi lo → (t.route j).fields = (s.route j).fields) ∧ t.engine = s.engine ∧
          t.mode = s.mode ∧ t.expression = s.expression ∧
          (s.scan.releaseDue = false →
            Answered s t r.tag (.done []) ∧
            (s.mode = .tune → (s.route (wordOf hi lo)).state ≠ .pending →
              ReportsOnly (s.setRoute (wordOf hi lo) { s.route (wordOf hi lo) with fields := x }) t) ∧
            (s.mode = .play → ((s.route (wordOf hi lo)).state ≠ .pending ∨ x.defer = true) →
              MaskChangeTaken (wordOf hi lo) s
                (s.setRoute (wordOf hi lo) { s.route (wordOf hi lo) with fields := x }) t) ∧
            (s.mode = .play → (s.route (wordOf hi lo)).state = .pending → x.defer = false →
              MaskChangeTaken (wordOf hi lo) s
                (s.setRoute (wordOf hi lo) { s.route (wordOf hi lo) with
                  fields := x, state := .idle, timer := none }) t)))

/-- R123 to R126: a taken TABLE-WRITE of CURVE replaces the record, brings the stage within the new count, recomputes the
goal from the sample of the new shoe and moves an idle channel, whose timer starts with the new slew; in PLAY and TUNE a
changed stage count or base is refused. The goal is the one that R126 gives for the level of R125 under the new record. -/
def Obligations.CurveWriteActsOnChannel : Prop :=
  ∀ (s : State) (r : Request) (hi lo : Byte) (bytes : Bytes), HeadIs s r 0x03#8 (5#8 :: hi :: lo :: bytes) →
    wordOf hi lo ≤ 3 →
    (∀ n, readCurve bytes = .error n → AnsweredUnchanged .tableWriteCurve s r (.badRecord n)) ∧
    ∀ x, readCurve bytes = .ok x →
      (s.mode ≠ .config → ¬(x.stageCount = (s.channel (wordOf hi lo)).record.stageCount ∧
          x.base = (s.channel (wordOf hi lo)).record.base) →
        AnsweredUnchanged .tableWriteCurve s r .wrongMode) ∧
      ((s.mode = .config ∨ (x.stageCount = (s.channel (wordOf hi lo)).record.stageCount ∧
          x.base = (s.channel (wordOf hi lo)).record.base)) →
        ∃ t, exec .tableWriteCurve s = .next t ∧ Answered s t r.tag (.done []) ∧
          ReportsOnly (s.setExpression t.expression) t ∧ t.expression.samples = s.expression.samples ∧
          (∀ c, c ≠ wordOf hi lo → t.channel c = s.channel c) ∧ (t.channel (wordOf hi lo)).record = x ∧
          (t.channel (wordOf hi lo)).goal =
            goalOf x.stageCount x.hysteresis
              (curveLevel x.curve (match x.shoe with | some shoe => s.sample shoe | none => 0))
              (min (s.channel (wordOf hi lo)).stage x.stageCount) ∧
          x.aims (match x.shoe with | some shoe => s.sample shoe | none => 0)
            (min (s.channel (wordOf hi lo)).stage x.stageCount) (t.channel (wordOf hi lo)).goal ∧
          (t.channel (wordOf hi lo)).stage =
            (if (s.channel (wordOf hi lo)).timer.isSome then min (s.channel (wordOf hi lo)).stage x.stageCount
             else stageToward (min (s.channel (wordOf hi lo)).stage x.stageCount) (t.channel (wordOf hi lo)).goal) ∧
          (t.channel (wordOf hi lo)).timer =
            (if (s.channel (wordOf hi lo)).timer.isSome then (s.channel (wordOf hi lo)).timer
             else if (t.channel (wordOf hi lo)).goal = min (s.channel (wordOf hi lo)).stage x.stageCount then none
             else some x.slew))

/-- R3, R4: a TABLE-WRITE of SCAN. A changed key count releases what is held at or above it, trims the lockout and clears
the candidate; the keys released end their couplings as on any release (R44, R56); a confirm count touches no row. -/
def Obligations.ScanWriteSetsCounts : Prop :=
  ∀ (s : State) (r : Request) (hi lo : Byte) (bytes : Bytes), HeadIs s r 0x03#8 (8#8 :: hi :: lo :: bytes) →
    (wordOf hi lo ≤ 8 → ∀ n, readKeySetting bytes = .error n →
      AnsweredUnchanged .tableWriteScan s r (.badRecord n)) ∧
    (wordOf hi lo = 9 ∨ wordOf hi lo = 10 → ∀ n, readConfirm bytes = .error n →
      AnsweredUnchanged .tableWriteScan s r (.badRecord n)) ∧
    (wordOf hi lo ≤ 8 → ∀ x, readKeySetting bytes = .ok x →
      ∃ t, exec .tableWriteScan s = .next t ∧ Answered s t r.tag (.done []) ∧
        t.keySetting (wordOf hi lo) = x ∧
        (∀ q, q ≠ wordOf hi lo → t.keySetting q = s.keySetting q) ∧
        t.row .key (wordOf hi lo) =
          (if x.keyCount = (s.keySetting (wordOf hi lo)).keyCount then s.row .key (wordOf hi lo)
           else ⟨(s.row .key (wordOf hi lo)).held &&& below x.keyCount, none, 0,
             (s.row .key (wordOf hi lo)).lockout &&& below x.keyCount⟩) ∧
        (∀ kind q, ¬(kind = .key ∧ q = wordOf hi lo) → t.row kind q = s.row kind q) ∧ t.engine = s.engine ∧
        t.router = s.router ∧ t.expression = s.expression ∧
        (x.keyCount = (s.keySetting (wordOf hi lo)).keyCount → t.claims = s.claims ∧ t.pool = s.pool) ∧
        (x.keyCount ≠ (s.keySetting (wordOf hi lo)).keyCount →
          KeyRunTaken (wordOf hi lo)
            (positions ((s.row .key (wordOf hi lo)).held &&& ~~~below x.keyCount)) []
            ((s.setKeySetting (wordOf hi lo) x).setRow .key (wordOf hi lo) (t.row .key (wordOf hi lo))) t)) ∧
    (wordOf hi lo = 9 → ∀ n, readConfirm bytes = .ok n →
      AnsweredAs .tableWriteScan s r (s.setScan { s.scan with stopConfirm := n })) ∧
    (wordOf hi lo = 10 → ∀ n, readConfirm bytes = .ok n →
      AnsweredAs .tableWriteScan s r (s.setScan { s.scan with inputConfirm := n }))

/-- R162, R176: every TABLE-READ in range returns its record and changes nothing. -/
def Obligations.TableReadsReturnRecords : Prop :=
  ∀ (s : State) (r : Request) (hi lo : Byte),
    (HeadIs s r 0x04#8 [1#8, hi, lo] → wordOf hi lo ≤ 319 →
      AnsweredUnchanged .tableReadStop s r (.done (stopBytes s.fill (s.stop (wordOf hi lo))))) ∧
    (HeadIs s r 0x04#8 [2#8, hi, lo] → wordOf hi lo ≤ 47 →
      AnsweredUnchanged .tableReadRank s r (.done (rankBytes (s.rank (wordOf hi lo))))) ∧
    (HeadIs s r 0x04#8 [3#8, hi, lo] → wordOf hi lo ≤ 95 →
      AnsweredUnchanged .tableReadRoute s r (.done (routeBytes (s.route (wordOf hi lo))))) ∧
    (HeadIs s r 0x04#8 [4#8, hi, lo] → wordOf hi lo ≤ 7 →
      AnsweredUnchanged .tableReadTremulant s r (.done (tremulantBytes (s.tremulant (wordOf hi lo))))) ∧
    (HeadIs s r 0x04#8 [5#8, hi, lo] → wordOf hi lo ≤ 3 →
      AnsweredUnchanged .tableReadCurve s r
        (.done (curveBytes (s.channel (wordOf hi lo)) (s.workingSample (wordOf hi lo))))) ∧
    (HeadIs s r 0x04#8 [6#8, hi, lo] → wordOf hi lo ≤ 15 →
      AnsweredUnchanged .tableReadSeqdir s r (.done (seqEntryBytes s.fill (s.seqEntry (wordOf hi lo))))) ∧
    (HeadIs s r 0x04#8 [7#8, hi, lo] → wordOf hi lo ≤ 1023 →
      AnsweredUnchanged .tableReadSeqmem s r (.done (stepBytes (s.stepRecord (wordOf hi lo))))) ∧
    (HeadIs s r 0x04#8 [8#8, hi, lo] → wordOf hi lo ≤ 8 →
      AnsweredUnchanged .tableReadScan s r
        (.done [byteOf (s.keySetting (wordOf hi lo)).keyCount, byteOf (s.keySetting (wordOf hi lo)).confirm])) ∧
    (HeadIs s r 0x04#8 [8#8, 0#8, 9#8] →
      AnsweredUnchanged .tableReadScan s r (.done [byteOf s.scan.stopConfirm])) ∧
    (HeadIs s r 0x04#8 [8#8, 0#8, 10#8] →
      AnsweredUnchanged .tableReadScan s r (.done [byteOf s.scan.inputConfirm])) ∧
    (HeadIs s r 0x04#8 [9#8, hi, lo] → wordOf hi lo ≤ 3 →
      AnsweredUnchanged .tableReadChamber s r
        (.done (byteOf (s.chamber (wordOf hi lo)).windTimeout :: wordBytes (s.chamber (wordOf hi lo)).settle))) ∧
    (HeadIs s r 0x04#8 [10#8, hi, lo] → wordOf hi lo ≤ 15 →
      AnsweredUnchanged .tableReadLamp s r (.done (lampBytes (s.lamp (wordOf hi lo))))) ∧
    (HeadIs s r 0x04#8 [11#8, hi, lo] → wordOf hi lo ≤ 8 →
      AnsweredUnchanged .tableReadActive s r
        (.done (byteOf (s.active (wordOf hi lo)).length :: (s.active (wordOf hi lo)).flatMap wordBytes))) ∧
    (HeadIs s r 0x04#8 [12#8, 0#8, 0#8] →
      AnsweredUnchanged .tableReadPizz s r
        (.done (byteOf s.claims.pizz.length :: s.claims.pizz.flatMap pizzBytes)))

/-- R163: a MODE-SET: the mode already in force, TUNE with no selection, a failed cross-check, and a change made. On
leaving PLAY for CONFIG the active lists, pizzicato list, players, strike timers and mask demands are empty and every
route entry is IDLE (R61, R84, R104, R116). Entry to PLAY draws the drawn stops and begins the unmasked ACTIVE route entries
(R60, R93, R103); from CONFIG, with every route entry MASKED, each TONAL coupling of a held key has added its one claim.
Entry to TUNE from CONFIG adds one claim for each tuning coupling of a held key, or strikes its point (R62), and no point
is guarded (R149). Leaving PLAY takes away the claims of the couplings, HOLD services and player holds, and the demand of
the REITERATE couplings, ROLL services and drawn TREMULANT stops (R61, R84, R104, R116); leaving TUNE takes away the claims of
the tuning couplings and of the tuning holds (R63); what the new mode brings is added to that. R146, R149: a point that a
leaving leaves with no claim has no guard, no on-timer and no entry on a list, so that after leaving PLAY, with every claim
one of those that end and every guard, on-timer and entry that of a claimed point, none is left; entry to TUNE lifts every
guard; and on entry to PLAY each rise starts its on-timer. R164:
the cross-check passes exactly when the tests of R30 to R32, R75, R130, R105 and R110 all pass, and otherwise names the first
failing table and index. -/
def Obligations.ModeSetChangesMode : Prop :=
  (∀ s : State, RecordsInRange s → CrossCheckFinds s) ∧
  ∀ (s : State) (r : Request) (i : Instr) (m : Mode) (code : Byte), HeadIs s r 0x02#8 [code] →
    (i, m, code) ∈ [(Instr.modeSetConfig, Mode.config, 0#8), (.modeSetPlay, .play, 1#8), (.modeSetTune, .tune, 2#8)] →
    (s.mode = m → AnsweredUnchanged i s r (.done [])) ∧
    (s.mode ≠ .tune → m = .tune → s.engine.tuning = none → AnsweredUnchanged i s r .unset) ∧
    (s.mode ≠ m → m ≠ .config → (m = .tune → s.engine.tuning ≠ none) → ∀ x, s.crossCheck = some x →
      AnsweredUnchanged i s r (.inconsistent x.1 x.2)) ∧
    (s.mode ≠ m → (m = .tune → s.engine.tuning ≠ none) → (m ≠ .config → s.crossCheck = none) →
      ∃ t, exec i s = .next t ∧ Answered s t r.tag (.done []) ∧ t.mode = m ∧ t.latched .mode = true ∧
        t.scan = s.scan ∧ t.expression = s.expression ∧ t.engine.ranks = s.engine.ranks ∧
        t.engine.stops = s.engine.stops ∧ t.engine.tuning = s.engine.tuning ∧
        (∀ c, (t.chamber c).state = (s.chamber c).state) ∧
        (s.mode = .play → m = .config →
          (∀ q, t.active q = []) ∧ t.claims.pizz = [] ∧ (∀ n, n < 8 → t.player n = none) ∧
          (∀ p, t.strikeTimer p = none) ∧ (∀ g, t.maskDemand g = 0) ∧
          ∀ j, j < 96 → (t.route j).state = .idle) ∧
        (m = .play → QuietOutsidePlay s →
          PlayEntered s t ∧
          (s.mode = .config → (∀ j, j < 96 → (s.route j).fields.masked = true) →
            ∀ p : Point, t.claimCount p = s.claimCount p + occurrences p s.drawnTargets)) ∧
        (m = .tune → s.mode = .config → ∀ sel, s.engine.tuning = some sel →
          (∀ p : Point, t.claimCount p = s.claimCount p + occurrences p (s.tuningTargets sel)) ∧
          ((s.rank sel.rank).kind = .struck → StrikesTaken ((s.heldKeys sel.row).filterMap (s.target sel.mapping)) s t) ∧
          ∀ c, c < 4 → (t.chamber c).ciphers = [] ∧ ∀ p, (t.chamber c).guarded p = false) ∧
        ((∀ r, (s.active r).Nodup) → ∀ p : Point,
          (m = .config → t.claimCount p = s.claimCount p - occurrences p s.leftClaims) ∧
          (m = .tune → ∀ sel, s.engine.tuning = some sel →
            t.claimCount p = s.claimCount p - occurrences p s.leftClaims + occurrences p (s.tuningTargets sel)) ∧
          (m = .play → QuietOutsidePlay s → (∀ j, j < 96 → (s.route j).fields.masked = true) →
            t.claimCount p = s.claimCount p - occurrences p s.leftClaims + occurrences p s.drawnTargets)) ∧
        (s.mode = .play →
          (∀ p : Point, t.demandOf p = s.demandOf p - occurrences p s.leftDemands) ∧
          ∀ k, t.tremulantDemand k = s.tremulantDemand k -
            s.drawnStops.countP (fun n => decide ((s.stop n).kind = .tremulant) && decide ((s.stop n).tremulant = k))) ∧
        (s.mode = .tune → m = .config → t.claims.holds = [] ∧ ∀ p, t.strikeTimer p = none) ∧
        ((∀ q, (s.active q).Nodup) → m = .config → FallsClear s.leftClaims s t) ∧
        (s.mode = .play → m ≠ .play → (∀ q, (s.active q).Nodup) → (∀ q ∈ s.leftClaims, q.point < 1024) →
          (∀ p : Point, p.chamber < 4 → p.point < 1024 → s.claimCount p ≤ occurrences p s.leftClaims) →
          (∀ p : Point, p.chamber < 4 → p.point < 1024 → s.claimCount p = 0 → s.Unguarded p) →
          ∀ p : Point, p.chamber < 4 → p.point < 1024 → t.Unguarded p) ∧
        (m = .tune → ∀ c, c < 4 → (t.chamber c).ciphers = [] ∧ ∀ p, (t.chamber c).guarded p = false) ∧
        (m = .play → s.mode = .config → QuietOutsidePlay s → (∀ j, j < 96 → (s.route j).fields.masked = true) →
          RisesTimed s.drawnTargets s t))

/-- R90: ROUTE-MASK sets the mask field of one entry in every mode and is answered DONE; outside PLAY it changes nothing
else. In PLAY a change of the effective mask is taken by the entry's trigger (R92, R97 to R99): a masking ends a service and
abandons a measurement; an unmasking delivers a PENDING edge and begins an ACTIVE LEVEL or SPLIT entry. -/
def Obligations.RouteMaskSetsMask : Prop :=
  ∀ (s : State) (r : Request) (input mask : Byte), HeadIs s r 0x05#8 [input, mask] →
    (95 < input.toNat → AnsweredUnchanged .routeMask s r .badIndex) ∧
    (input.toNat ≤ 95 → mask.toNat ≤ 1 →
      ∃ t, exec .routeMask s = .next t ∧ t.port.requests = s.port.requests.tail ∧
        (t.route input.toNat).fields = { (s.route input.toNat).fields with masked := decide (mask = 0#8) } ∧
        (∀ j, j ≠ input.toNat → (t.route j).fields = (s.route j).fields) ∧ t.engine = s.engine ∧ t.mode = s.mode ∧
        (s.mode ≠ .play → s.scan.releaseDue = false →
          ReportsOnly (s.setRoute input.toNat { s.route input.toNat with
            fields := { (s.route input.toNat).fields with masked := decide (mask = 0#8) } }) t) ∧
        (s.scan.releaseDue = false → Answered s t r.tag (.done [])) ∧
        (s.mode = .play → s.scan.releaseDue = false →
          MaskChangeTaken input.toNat s (s.setRoute input.toNat { s.route input.toNat with
            fields := { (s.route input.toNat).fields with masked := decide (mask = 0#8) } }) t))

/-- R134, R136: CHAMBER-RAISE by the chamber's state. -/
def Obligations.ChamberRaise : Prop :=
  ∀ (s : State) (r : Request) (c : Byte), HeadIs s r 0x06#8 [c] →
    (3 < c.toNat → AnsweredUnchanged .chamberRaise s r .badIndex) ∧
    (c.toNat ≤ 3 →
      ((s.chamber c.toNat).state = .dark → (s.chamber c.toNat).present = true →
        AnsweredAs .chamberRaise s r ((s.setChamber c.toNat { s.chamber c.toNat with
          state := .blower
          blower := true
          windTimer := some (1000 * (s.chamber c.toNat).windTimeout) }).setLatched (.state c.toNat) true)) ∧
      ((s.chamber c.toNat).state = .dark → (s.chamber c.toNat).present = false →
        AnsweredUnchanged .chamberRaise s r .chamberBusy) ∧
      ((s.chamber c.toNat).state = .enabled → AnsweredUnchanged .chamberRaise s r (.done [])) ∧
      ((s.chamber c.toNat).state = .blower ∨ (s.chamber c.toNat).state = .settle ∨
          (s.chamber c.toNat).state = .fault ∨ (∃ phase, (s.chamber c.toNat).state = .lowering phase) →
        AnsweredUnchanged .chamberRaise s r .chamberBusy))

/-- R137, R140: CHAMBER-LOWER by the chamber's state; on entry every group is forced, or, when the transmitter was free
with no CONTROL frame due, every group but the one whose frame starts at once. -/
def Obligations.ChamberLower : Prop :=
  ∀ (s : State) (r : Request) (c : Byte), HeadIs s r 0x07#8 [c] →
    (3 < c.toNat → AnsweredUnchanged .chamberLower s r .badIndex) ∧
    (c.toNat ≤ 3 →
      ((s.chamber c.toNat).state = .dark ∨ (∃ phase, (s.chamber c.toNat).state = .lowering phase) →
        AnsweredUnchanged .chamberLower s r (.done [])) ∧
      ((s.chamber c.toNat).state = .blower ∨ (s.chamber c.toNat).state = .settle ∨
          (s.chamber c.toNat).state = .enabled ∨ (s.chamber c.toNat).state = .fault →
        ∃ t, exec .chamberLower s = .next t ∧ Answered s t r.tag (.done []) ∧
          ReportsOnly ((s.setChamber c.toNat { s.chamber c.toNat with
            state := .lowering .clearing
            windTimer := none
            settleTimer := none }).setLatched (.state c.toNat) true) t ∧
          ∀ g, g < 16 →
            ((t.chamber c.toNat).group g).forced = true ∨
              ((s.chamber c.toNat).tx = .free ∧ (t.chamber c.toNat).tx = .drive g 0)))

/-- R55, R57: TUNE-SELECT writes the selection in every mode; outside TUNE, or when the selection is the present one, it
does nothing further. In TUNE, with another selection, the tuning couplings of the old one end and those of the new one
start: a PIPE rank's claims go and come, and a STRUCK rank's points are struck. -/
def Obligations.TuneSelectWritesSelection : Prop :=
  ∀ (s : State) (r : Request) (fields : Bytes), HeadIs s r 0x08#8 fields →
    (∀ n, readSelection fields = .error n → AnsweredUnchanged .tuneSelect s r (.badRecord n)) ∧
    ∀ sel, readSelection fields = .ok sel →
      (s.mode ≠ .tune → AnsweredAs .tuneSelect s r (s.setEngine { s.engine with tuning := some sel })) ∧
      (s.mode = .tune → s.engine.tuning = some sel → AnsweredUnchanged .tuneSelect s r (.done [])) ∧
      (s.mode = .tune →
        ∃ t, exec .tuneSelect s = .next t ∧ Answered s t r.tag (.done []) ∧
          t.engine = { s.engine with tuning := some sel } ∧ t.claims.holds = s.claims.holds ∧ t.scan = s.scan ∧
          t.router = s.router ∧ t.sequencer = s.sequencer ∧ t.expression = s.expression ∧
          ∀ old, s.engine.tuning = some old → old ≠ sel →
            (∀ q : Point, t.claimCount q =
              s.claimCount q - occurrences q (s.tuningTargets old) + occurrences q (s.tuningTargets sel)) ∧
            ((s.rank sel.rank).kind ≠ .struck → t.pool = s.pool) ∧
            ((s.rank sel.rank).kind = .struck →
              StrikesTaken ((s.heldKeys sel.row).filterMap (s.target sel.mapping)) s t))

/-- R58: TUNE-HOLD: refused outside TUNE; ADD, REMOVE and CLEAR in TUNE. CLEAR empties the set and removes one claim from
each point of it. -/
def Obligations.TuneHoldActsOnHoldSet : Prop :=
  ∀ (s : State) (r : Request) (action c hi lo : Byte), HeadIs s r 0x09#8 [action, c, hi, lo] → c.toNat ≤ 3 →
    wordOf hi lo ≤ 1023 →
    (∀ x ∈ [(Instr.tuneHoldAdd, 0#8), (.tuneHoldRemove, 1#8), (.tuneHoldClear, 2#8)], action = x.2 →
      s.mode ≠ .tune → AnsweredUnchanged x.1 s r .wrongMode) ∧
    (action = 0#8 → s.mode = .tune →
      (⟨c.toNat, wordOf hi lo⟩ ∈ s.claims.holds → AnsweredUnchanged .tuneHoldAdd s r (.done [])) ∧
      (⟨c.toNat, wordOf hi lo⟩ ∉ s.claims.holds →
        (s.isPipe ⟨c.toNat, wordOf hi lo⟩ = false ∨ 4 ≤ s.claims.holds.length →
          AnsweredUnchanged .tuneHoldAdd s r (.badRecord 3)) ∧
        (s.isPipe ⟨c.toNat, wordOf hi lo⟩ = true → s.claims.holds.length < 4 →
          AnsweredAs .tuneHoldAdd s r
            ((s.setClaims { s.claims with holds := s.claims.holds ++ [⟨c.toNat, wordOf hi lo⟩] }).setClaimCount
              ⟨c.toNat, wordOf hi lo⟩ (s.claimCount ⟨c.toNat, wordOf hi lo⟩ + 1))))) ∧
    (action = 1#8 → s.mode = .tune →
      (⟨c.toNat, wordOf hi lo⟩ ∉ s.claims.holds → AnsweredUnchanged .tuneHoldRemove s r (.done [])) ∧
      (⟨c.toNat, wordOf hi lo⟩ ∈ s.claims.holds →
        ∃ t, exec .tuneHoldRemove s = .next t ∧ Answered s t r.tag (.done []) ∧
          t.claims.holds = s.claims.holds.filter (fun q => q ≠ ⟨c.toNat, wordOf hi lo⟩) ∧
          t.claimCount ⟨c.toNat, wordOf hi lo⟩ = s.claimCount ⟨c.toNat, wordOf hi lo⟩ - 1 ∧
          (∀ q : Point, q.index ≠ (Point.mk c.toNat (wordOf hi lo)).index → t.claimCount q = s.claimCount q) ∧
          t.engine = s.engine ∧ t.pool = s.pool ∧ t.scan = s.scan ∧ t.router = s.router)) ∧
    (action = 2#8 → s.mode = .tune →
      ∃ t, exec .tuneHoldClear s = .next t ∧ Answered s t r.tag (.done []) ∧ t.claims.holds = [] ∧
        t.claims.pizz = s.claims.pizz ∧ t.engine = s.engine ∧ t.pool = s.pool ∧ t.scan = s.scan ∧
        t.router = s.router ∧ t.sequencer = s.sequencer ∧ t.expression = s.expression ∧
        ∀ q : Point, t.claimCount q = s.claimCount q - occurrences q s.claims.holds)

/-- R166, R176: STATUS-READ returns a group and clears its latched flags; SNAPSHOT does so for all. RETURN-OVERRUN may be
latched again by the reply, when the return queue has no room left for it and what is held behind it. -/
def Obligations.StatusReadsClearFlags : Prop :=
  (∀ (s : State) (r : Request) (g : Byte), HeadIs s r 0x0A#8 [g] →
    (3 < g.toNat → AnsweredUnchanged .statusRead s r .badIndex) ∧
    (g.toNat ≤ 3 →
      ∃ t, exec .statusRead s = .next t ∧ Answered s t r.tag (.done (s.groupData g.toNat)) ∧
        ReportsOnly (clearGroup g.toNat s) t ∧
        (∀ i ∈ groupItems g.toNat, i ≠ .returnOverrun ∨
          s.port.returnQueue.length + s.status.heldLamps.length + 2 ≤ 32 → t.latched i = false) ∧
        (∀ i ∈ allItems, i ∉ groupItems g.toNat → i ≠ .returnOverrun → t.latched i = s.latched i) ∧
        ∀ i, t.maskedItem i = s.maskedItem i)) ∧
  (∀ (s : State) (r : Request), HeadIs s r 0x0C#8 [] →
    ∃ t, exec .snapshot s = .next t ∧
      Answered s t r.tag (.done (s.groupData 0 ++ s.groupData 1 ++ s.groupData 2 ++ s.groupData 3 ++
        [byteOf (modeCode s.mode), byteOf (stateCode (s.chamber 0).state), byteOf (stateCode (s.chamber 1).state),
          byteOf (stateCode (s.chamber 2).state), byteOf (stateCode (s.chamber 3).state)])) ∧
      (∀ i ∈ allItems, i ≠ .returnOverrun ∨
        s.port.returnQueue.length + s.status.heldLamps.length + 2 ≤ 32 → t.latched i = false) ∧
      t.mode = s.mode ∧ ∀ i, t.maskedItem i = s.maskedItem i)

/-- R167: STATUS-MASK sets one mask flag, numbered by its group and item; where that makes attention rise, a NOTICE follows
the REPLY directly. A latch with no request being served puts out one NOTICE when attention rises, and none otherwise; while
one is being served it is held. A command that leaves no request to be served puts out exactly one NOTICE when attention is
higher after it, and otherwise none. R157, R167, R168: a request served by any command but RELAY-RESET, whose frames
RelayResets gives, puts out its REPLY, then the NOTICE held before it or caused by its own rise of attention, then the LAMP
frames held before it, and then one of its own where an output has changed; that one command is one event (log 9) and that a
held LAMP frame keeps the outputs it was caused with (log 10) are the model's reading. -/
def Obligations.StatusMaskSetsMask : Prop :=
  (∀ (s : State) (r : Request) (g no mask : Byte), HeadIs s r 0x0B#8 [g, no, mask] →
    (3 < g.toNat → AnsweredUnchanged .statusMask s r .badIndex) ∧
    (g.toNat ≤ 3 → (groupItems g.toNat).length ≤ no.toNat → AnsweredUnchanged .statusMask s r (.badRecord 2)) ∧
    (g.toNat ≤ 3 → ∀ i, itemAt g.toNat no.toNat = some i → mask.toNat ≤ 1 →
      AnsweredAs .statusMask s r (s.setMasked i (decide (mask = 0#8))) ∧
      (s.attention = false → (s.setMasked i (decide (mask = 0#8))).attention = true →
        s.port.returnQueue.length + 2 ≤ 32 →
        ∃ t later, exec .statusMask s = .next t ∧
          t.outgoing = s.outgoing ++ s.replyFrame r.tag (.done []) ::
            (s.setMasked i (decide (mask = 0#8))).noticeFrame :: later))) ∧
  (∀ (s : State), ∀ item ∈ allItems,
    (latch item s).latched item = true ∧
    (s.port.requests = [] → s.port.returnQueue.length < 32 →
      (latch item s).outgoing =
        s.outgoing ++ (if s.attention = false ∧ s.maskedItem item = false then [(latch item s).noticeFrame] else [])) ∧
    (s.port.requests ≠ [] → (latch item s).outgoing = s.outgoing ∧
      (s.attention = false → s.maskedItem item = false → (latch item s).status.heldNotice = true))) ∧
  (∀ (s t : State) (i : Instr), exec i s = .next t → (∀ strap, i ≠ .powerOnReset strap) → i ≠ .returnFrameSent →
    s.port.requests = [] → t.port.requests = [] → s.port.returnQueue.length + 4 ≤ 32 →
    ∃ added, t.outgoing = s.outgoing ++ added ∧
      (added.filter UpFrame.isNotice).length = if s.attention = false ∧ t.attention = true then 1 else 0) ∧
  ∀ (s t : State) (i : Instr) (r : Request), exec i s = .next t → (∀ strap, i ≠ .powerOnReset strap) →
    i ≠ .relayReset → i ≠ .linkTimerExpiry → i ≠ .badFrame → s.port.requests.head? = some r →
    t.port.requests = s.port.requests.tail → s.port.requests ≠ t.port.requests →
    s.port.returnQueue.length + s.status.heldLamps.length + 3 ≤ 32 →
    ∃ reply, t.outgoing = s.outgoing ++ s.replyFrame r.tag reply ::
      ((if s.status.heldNotice = true ∨ (s.attention = false ∧ t.attention = true) then [t.noticeFrame] else []) ++
        s.status.heldLamps.map s.lampFrame ++
        if t.lampOutputs = s.lampOutputs then [] else [t.lampFrame t.lampOutputs])

/-- R148, R176: CIPHER-READ returns a chamber's list. CIPHER-CLEAR of one point: a point that is not guarded is not
touched; a guarded one is lifted and leaves the list, and its on-timer starts afresh only while it is claimed, in PLAY,
under a limit above 0. Point ALL lifts so every guarded point of the chamber, and chamber ALL those of every chamber; a
point that is not guarded keeps its on-timer, and CIPHER is latched when its value has changed. A chamber or point out of
range is refused with its field, and chamber ALL with a point with field 2. -/
def Obligations.CipherRequestsServeList : Prop :=
  (∀ (s : State) (r : Request) (c : Byte), HeadIs s r 0x0D#8 [c] →
    (3 < c.toNat → AnsweredUnchanged .cipherRead s r .badIndex) ∧
    (c.toNat ≤ 3 → AnsweredUnchanged .cipherRead s r
      (.done (byteOf (s.chamber c.toNat).ciphers.length :: (s.chamber c.toNat).ciphers.flatMap cipherBytes)))) ∧
  ∀ (s : State) (r : Request) (c hi lo : Byte), HeadIs s r 0x0E#8 [c, hi, lo] →
    (c = 0xFF#8 → wordOf hi lo ≤ 1023 → AnsweredUnchanged .cipherClear s r (.badRecord 2)) ∧
    (3 < c.toNat → c ≠ 0xFF#8 → AnsweredUnchanged .cipherClear s r (.badRecord 1)) ∧
    (c.toNat ≤ 3 ∨ c = 0xFF#8 → 1023 < wordOf hi lo → wordOf hi lo ≠ 0xFFFF →
      AnsweredUnchanged .cipherClear s r (.badRecord 2)) ∧
    (wordOf hi lo = 0xFFFF → c.toNat ≤ 3 ∨ c = 0xFF#8 →
      ∃ t, exec .cipherClear s = .next t ∧ Answered s t r.tag (.done []) ∧
        (∀ d, d < 4 → (c.toNat = d ∨ c = 0xFF#8 → ChamberCleared d s t) ∧
          (c.toNat ≠ d → c ≠ 0xFF#8 → (s.chamber d).sameLogic (t.chamber d)) ∧
          (t.chamber d).state = (s.chamber d).state) ∧
        t.latched .cipher = (s.latched .cipher || decide (s.cipherAny ≠ t.cipherAny)) ∧
        t.claims = s.claims ∧ t.pool = s.pool ∧ t.engine = s.engine ∧ t.scan = s.scan ∧ t.router = s.router ∧
        t.sequencer = s.sequencer ∧ t.expression = s.expression) ∧
    (c.toNat ≤ 3 → wordOf hi lo ≤ 1023 →
      ((s.chamber c.toNat).guarded (wordOf hi lo) = false → AnsweredUnchanged .cipherClear s r (.done [])) ∧
      ((s.chamber c.toNat).guarded (wordOf hi lo) = true →
        ∃ t, exec .cipherClear s = .next t ∧ Answered s t r.tag (.done []) ∧
          (t.chamber c.toNat).guarded (wordOf hi lo) = false ∧
          (t.chamber c.toNat).ciphers =
            (s.chamber c.toNat).ciphers.filter (fun e => e.point ≠ wordOf hi lo) ∧
          (s.claimCount ⟨c.toNat, wordOf hi lo⟩ = 0 ∨ s.mode ≠ .play →
            (t.chamber c.toNat).onTimer (wordOf hi lo) = none) ∧
          (0 < s.claimCount ⟨c.toNat, wordOf hi lo⟩ → s.mode = .play → ∀ k,
            s.rankOf ⟨c.toNat, wordOf hi lo⟩ = some k → (s.rank k).kind = .pipe →
            (t.chamber c.toNat).onTimer (wordOf hi lo) =
              if 0 < (s.rank k).cipherLimit then some (1000 * (s.rank k).cipherLimit) else none) ∧
          t.claims = s.claims ∧ t.pool = s.pool ∧ t.engine = s.engine ∧ t.scan = s.scan))

/-- R143, R161, R176: POINT-QUERY changes nothing; its data are the class, the next image's value, the driven value (R145),
the chamber state, the claim count (R48), and the pipe, struck, tremulant and stage parts (R150, R82, R129), each present by
its own condition (log 34), with free bytes where it is absent (log 12). The class is 0 for a pipe point and 1 for a struck
point, and otherwise 2 for a stage point; the next image's value of a pipe point is on exactly while its chamber is ENABLED
and it is claimed and not guarded, and that of any point is off while its chamber is not ENABLED. -/
def Obligations.PointQueryReportsPoint : Prop :=
  ∀ (s : State) (r : Request) (c hi lo : Byte), HeadIs s r 0x0F#8 [c, hi, lo] →
    (3 < c.toNat → AnsweredUnchanged .pointQuery s r (.badRecord 1)) ∧
    (c.toNat ≤ 3 → 1023 < wordOf hi lo → AnsweredUnchanged .pointQuery s r (.badRecord 2)) ∧
    (c.toNat ≤ 3 → wordOf hi lo ≤ 1023 →
      let p : Point := ⟨c.toNat, wordOf hi lo⟩
      let kind := byteOf (classCode (s.pointClass p))
      let next := yesNoByte (s.nextValue p)
      AnsweredUnchanged .pointQuery s r (.done (kind :: next ::
        yesNoByte (((s.chamber c.toNat).group (wordOf hi lo / 64)).driven.getLsbD (wordOf hi lo % 64)) ::
        byteOf (stateCode (s.chamber c.toNat).state) :: wordBytes (s.claimCount p) ++
        optionalBytes s.fill 0 4 id (s.pipePart p) ++ optionalBytes s.fill 4 5 id (s.struckPart p) ++
        optionalBytes s.fill 9 5 id (s.tremulantPart p) ++ optionalBytes s.fill 14 5 id (s.stagePart p))) ∧
      (s.isPipe p = true → kind = 0#8 ∧
        next = (if (s.chamber c.toNat).state = .enabled ∧ 0 < s.claimCount p ∧
          (s.chamber c.toNat).guarded (wordOf hi lo) = false then 1#8 else 0#8)) ∧
      (s.isPipe p = false → s.isStruck p = true → kind = 1#8) ∧
      (s.isPipe p = false → s.isStruck p = false → s.stageIndex p ≠ none → kind = 2#8) ∧
      ((s.chamber c.toNat).state ≠ .enabled → next = 0#8) ∧
      (s.nextValue p = (s.nextImage c.toNat (wordOf hi lo / 64)).getLsbD (wordOf hi lo % 64)))

/-- R13, R59, R64, R86, R102, R116, R161: RELEASE-ALL: every held key and input joins the lockout and its row is emptied, the
stop rows stand, every player and every route entry is IDLE, and the tuning hold set is empty; the claims of the held keys'
couplings, of HOLD services, of player holds and of tuning holds are gone, with the pizzicato entries of those couplings and
the demand of REITERATE couplings and ROLL services; the demands of TREMULANT and ROUTE-MASK stops stand. -/
def Obligations.ReleaseAllReleasesEverything : Prop :=
  ∀ (s : State) (r : Request), HeadIs s r 0x10#8 [] →
    ∃ t, exec .releaseAll s = .next t ∧ Answered s t r.tag (.done []) ∧ GeneralReleased s t ∧
      ∀ c, (t.chamber c).state = (s.chamber c).state

/-! ### The extension link -/

/-- R159, R160: a good frame from below restarts the extension timer and brings the link UP, latching EXT when it was
DOWN; a frame other than IDLE joins the return queue, byte for byte. The extension timer's expiry takes a link that is UP
DOWN and latches EXT. -/
def Obligations.ExtensionLinkFollowsFrames : Prop :=
  ∀ (s : State) (bytes : Bytes),
    (∃ t, exec .extIdle s = .next t ∧
      (s.ext.up = true → QuietlySame (s.setExt { s.ext with timer := some 60 }) t ∧ t.outgoing = s.outgoing) ∧
      (s.ext.up = false →
        QuietlySame ((s.setExt { s.ext with up := true, timer := some 60 }).setLatched .ext true) t)) ∧
    (∃ t, exec (.extUpstreamFrame bytes) s = .next t ∧
      (s.ext.up = true → QuietlySame (s.setExt { s.ext with timer := some 60 }) t ∧
        (s.port.returnQueue.length < 32 → t.outgoing = s.outgoing ++ [.forwarded bytes])) ∧
      (s.ext.up = false →
        QuietlySame ((s.setExt { s.ext with up := true, timer := some 60 }).setLatched .ext true) t ∧
        (s.port.returnQueue.length + 1 < 32 → ∃ before later, before.length ≤ 1 ∧
          t.outgoing = s.outgoing ++ before ++ .forwarded bytes :: later))) ∧
    (s.ext.timer.isSome = true → s.ext.up = true → ∃ t, exec .extTimerExpiry s = .next t ∧
      QuietlySame ((s.setExt { s.ext with up := false, timer := none }).setLatched .ext true) t)

/-! ### Chambers -/

/-- R138, R139, R141, R142: a CHSTATUS frame: the link is PRESENT with its timer restarted, the held values are the
frame's, each that changes latches its item, and the chamber state reacts. -/
def Obligations.ChamberStatusDrivesState : Prop :=
  ∀ (s : State) (c : Fin 4) (wind supply : Bool) (boards : BitVec 16),
    ∃ t, exec (.chstatus c wind supply boards) s = .next t ∧
      (t.chamber c).present = true ∧ (t.chamber c).linkTimer = some 100 ∧ (t.chamber c).windReady = wind ∧
      (t.chamber c).supplyOk = supply ∧ (t.chamber c).boards = boards ∧
      t.latched (.wind c) = (s.latched (.wind c) || decide (wind ≠ (s.chamber c).windReady)) ∧
      t.latched (.supply c) = (s.latched (.supply c) || decide (supply ≠ (s.chamber c).supplyOk)) ∧
      t.latched (.driverFault c) = (s.latched (.driverFault c) || decide (boards ≠ (s.chamber c).boards)) ∧
      ((s.chamber c).state = .blower → wind = true →
        (t.chamber c).state = .settle ∧ (t.chamber c).supply = true ∧ (t.chamber c).windTimer = none ∧
        (t.chamber c).settleTimer = some (s.chamber c).settle ∧ t.latched (.state c) = true) ∧
      (((s.chamber c).state = .settle ∧ wind = false) ∨
          ((s.chamber c).state = .enabled ∧ (wind = false ∨ supply = false)) →
        (t.chamber c).state = .fault ∧ (t.chamber c).supply = false ∧ (t.chamber c).settleTimer = none ∧
        t.latched (.state c) = true) ∧
      (¬((s.chamber c).state = .blower ∧ wind = true) → ¬((s.chamber c).state = .settle ∧ wind = false) →
        ¬((s.chamber c).state = .enabled ∧ (wind = false ∨ supply = false)) →
        (t.chamber c).state = (s.chamber c).state ∧ (t.chamber c).supply = (s.chamber c).supply ∧
        t.latched (.state c) = s.latched (.state c)) ∧
      (t.chamber c).blower = (s.chamber c).blower ∧
      (∀ d, d ≠ c.val → (s.chamber d).sameLogic (t.chamber d)) ∧ t.engine = s.engine ∧ t.claims = s.claims ∧
      t.pool = s.pool ∧ t.router = s.router ∧ t.sequencer = s.sequencer ∧ t.expression = s.expression ∧
      t.scan = s.scan

/-- R138, R139, R141, R142: the expiries of a chamber's link, wind and settle timers. At a link loss WIND and SUPPLY are
latched where the held value changes; a chamber coming up or ENABLED moves to FAULT, with STATE latched, the supply line off,
the blower line as it was and the wind and settle timers cancelled, and in another state only the link and the held values
change. That the held values go false with the
link in FAULT and LOWERING too is the model's reading of R141 against R139 and R140 (log 35). -/
def Obligations.ChamberTimersExpire : Prop :=
  ∀ (s : State) (c : Fin 4),
    ((s.chamber c).windTimer.isSome = true → (s.chamber c).state = .blower →
      ∃ t, exec (.windTimerExpiry c) s = .next t ∧
        QuietlySame ((s.setChamber c { s.chamber c with
          state := .fault, supply := false, windTimer := none, settleTimer := none }).setLatched (.state c) true) t) ∧
    ((s.chamber c).settleTimer.isSome = true → (s.chamber c).state = .settle →
      ∃ t, exec (.settleTimerExpiry c) s = .next t ∧
        ((s.chamber c).supplyOk = true →
          QuietlySame ((s.setChamber c { s.chamber c with
            state := .enabled, settleTimer := none }).setLatched (.state c) true) t) ∧
        ((s.chamber c).supplyOk = false →
          QuietlySame ((s.setChamber c { s.chamber c with
            state := .fault, supply := false, windTimer := none, settleTimer := none }).setLatched (.state c)
              true) t)) ∧
    ((s.chamber c).linkTimer.isSome = true →
      ∃ t, exec (.chamberLinkTimerExpiry c) s = .next t ∧
        QuietlySame
          ((((s.setChamber c { s.chamber c with
              present := false, linkTimer := none, windReady := false, supplyOk := false,
              state := if (s.chamber c).isUp then .fault else (s.chamber c).state,
              supply := if (s.chamber c).isUp then false else (s.chamber c).supply,
              windTimer := if (s.chamber c).isUp then none else (s.chamber c).windTimer,
              settleTimer := if (s.chamber c).isUp then none else (s.chamber c).settleTimer }).latchedWhere
            (.wind c) (s.chamber c).windReady).latchedWhere (.supply c) (s.chamber c).supplyOk).latchedWhere
            (.state c) (s.chamber c).isUp) t ∧
        (t.latched (.wind c) = ((s.chamber c).windReady || s.latched (.wind c))) ∧
        (t.latched (.supply c) = ((s.chamber c).supplyOk || s.latched (.supply c))) ∧
        (t.latched (.state c) = ((s.chamber c).isUp || s.latched (.state c))) ∧
        (t.chamber c).blower = (s.chamber c).blower ∧ (t.chamber c).present = false ∧
        (t.chamber c).linkTimer = none ∧ (t.chamber c).windReady = false ∧ (t.chamber c).supplyOk = false ∧
        (t.chamber c).boards = (s.chamber c).boards ∧
        (t.chamber c).state =
          (if (s.chamber c).state = .blower ∨ (s.chamber c).state = .settle ∨ (s.chamber c).state = .enabled then
            .fault
           else (s.chamber c).state) ∧
        (∀ d, d ≠ c.val → (s.chamber d).sameLogic (t.chamber d)) ∧ t.claims = s.claims ∧ t.pool = s.pool)

/-- R140, R142, R144: the phases of a lowering. CLEARING ends with a DRIVE frame sent once no group is forced; the drain
timer's expiry turns the supply line off and RELEASING begins, or the chamber is DARK at once; RELEASING ends with the
CONTROL frame that carried the supply line off. Each of these leaves the transmitter free, and it takes its next frame: a
CONTROL frame that is due, a changed line among them, otherwise the pending group that comes first after the last group sent,
wrapping from 15 to 0, whose DRIVE frame sets its driven image, age and forced mark, and otherwise nothing. That the choice
falls at the end of the command is the model's reading (log 8). -/
def Obligations.LoweringPhasesFollowFrames : Prop :=
  ∀ (s : State) (c : Fin 4),
    ((s.chamber c).drainTimer.isSome = true → (s.chamber c).state = .lowering .draining →
      ∃ t, exec (.drainTimerExpiry c) s = .next t ∧
        ((s.chamber c).supply = true →
          QuietlySame (s.setChamber c { s.chamber c with
            state := .lowering .releasing, supply := false, drainTimer := none }) t ∧
          Chooses c (s.setChamber c { s.chamber c with
            state := .lowering .releasing, supply := false, drainTimer := none, controlDue := true }) t) ∧
        ((s.chamber c).supply = false →
          QuietlySame ((s.setChamber c { s.chamber c with
            state := .dark, blower := false, drainTimer := none }).setLatched (.state c) true) t ∧
          Chooses c (s.setChamber c { s.chamber c with
            state := .dark, blower := false, drainTimer := none,
            controlDue := (s.chamber c).controlDue || (s.chamber c).blower }) t)) ∧
    (∀ blower supply, (s.chamber c).tx = .control blower supply →
      ∃ t, exec (.controlSent c) s = .next t ∧
        ((s.chamber c).state = .lowering .releasing → supply = false →
          QuietlySame ((s.setChamber c { s.chamber c with
            state := .dark, blower := false }).setLatched (.state c) true) t ∧
          Chooses c (s.setChamber c { s.chamber c with
            state := .dark, blower := false, tx := .free,
            controlDue := (s.chamber c).controlDue || (s.chamber c).blower }) t) ∧
        ((s.chamber c).state ≠ .lowering .releasing ∨ supply = true →
          QuietlySame s t ∧ Chooses c (s.setChamber c { s.chamber c with tx := .free }) t)) ∧
    (∀ (g : Nat) (image : Image), (s.chamber c).tx = .drive g image →
      ∃ t, exec (.driveSent c) s = .next t ∧
        ((s.chamber c).state = .lowering .clearing → (∀ h, h < 16 → ((s.chamber c).group h).forced = false) →
          QuietlySame (s.setChamber c { s.chamber c with
            state := .lowering .draining, drainTimer := some 200 }) t ∧
          Chooses c (s.setChamber c { s.chamber c with
            state := .lowering .draining, drainTimer := some 200, tx := .free }) t) ∧
        ((s.chamber c).state ≠ .lowering .clearing ∨ (∃ h, h < 16 ∧ ((s.chamber c).group h).forced = true) →
          QuietlySame s t ∧ Chooses c (s.setChamber c { s.chamber c with tx := .free }) t) ∧
        ((s.chamber c).controlDue = true →
          (t.chamber c).tx = .control (s.chamber c).blower (s.chamber c).supply ∧ (t.chamber c).controlAge = 0 ∧
          (t.chamber c).controlDue = false))

/-- R144: an age that reaches 18 ms: while the transmitter is busy the frame waits; when it is free the CONTROL frame
starts at once, and so does the DRIVE frame of the only group pending when no CONTROL frame is due; of several the one
that comes first after the last group sent. The other controllers choose by themselves, all at the end of the command, which
is the model's reading (log 8). -/
def Obligations.AgedFramesAreSentAgain : Prop :=
  ∀ (s : State) (c : Fin 4) (g : Fin 16),
    (∃ t, exec (.controlAgeExpiry c) s = .next t ∧ QuietlySame s t ∧
      ((s.chamber c).tx = .free →
        (t.chamber c).tx = .control (s.chamber c).blower (s.chamber c).supply ∧ (t.chamber c).controlAge = 0) ∧
      ((s.chamber c).tx ≠ .free →
        t.chamber c = { s.chamber c with controlAge := max (s.chamber c).controlAge 18 }) ∧
      ∀ d, d < 4 → Chooses d (s.setChamber c { s.chamber c with controlAge := max (s.chamber c).controlAge 18 }) t) ∧
    (∃ t, exec (.groupAgeExpiry c g) s = .next t ∧ QuietlySame s t ∧
      ((s.chamber c).tx = .free → (s.chamber c).controlIsDue = false →
        (∀ h, h < 16 → h ≠ g.val → s.groupPending c h = false) →
        (t.chamber c).tx = .drive g (s.nextImage c g) ∧
        (t.chamber c).group g = ⟨s.nextImage c g, 0, false⟩ ∧ (t.chamber c).lastGroup = g) ∧
      ((s.chamber c).tx ≠ .free →
        t.chamber c = (s.chamber c).setGroup g { (s.chamber c).group g with
          age := max ((s.chamber c).group g).age 18 }) ∧
      ∀ d, d < 4 → Chooses d (s.setChamber c ((s.chamber c).setGroup g { (s.chamber c).group g with
        age := max ((s.chamber c).group g).age 18 })) t)

/-- R146: the shared operations through which every claim is added and removed: a rise starts the point's on-timer, and a
fall stops it, clears the guard and takes the point off the cipher list. R147: an on-timer's expiry sets the guard and
latches CIPHER; the point is listed with its rank and count while the list has room, and otherwise CIPHER-OVERFLOW is
latched. -/
def Obligations.OnTimerGuardsPoint : Prop :=
  (∀ (s : State) (p : Point), ClaimRises p s (addClaim p s) ∧ ClaimFalls p s (removeClaim p s)) ∧
  ∀ (s : State) (c : Fin 4) (p : Fin 1024), ((s.chamber c).onTimer p).isSome = true →
    ∃ t, exec (.onTimerExpiry c p) s = .next t ∧ (t.chamber c).guarded p = true ∧ (t.chamber c).onTimer p = none ∧
      t.latched .cipher = true ∧
      ((s.chamber c).ciphers.length < 32 → ∀ r, s.rankOf ⟨c, p⟩ = some r →
        (t.chamber c).ciphers = (s.chamber c).ciphers ++ [⟨p, r, s.claimCount ⟨c, p⟩⟩]) ∧
      (32 ≤ (s.chamber c).ciphers.length →
        (t.chamber c).ciphers = (s.chamber c).ciphers ∧ t.latched .cipherOverflow = true) ∧
      (∀ q, q ≠ p.val → (t.chamber c).guarded q = (s.chamber c).guarded q ∧
        (t.chamber c).onTimer q = (s.chamber c).onTimer q) ∧
      (t.chamber c).state = (s.chamber c).state ∧ t.claims = s.claims ∧ t.pool = s.pool ∧ t.engine = s.engine ∧
      t.scan = s.scan ∧ t.router = s.router ∧ t.sequencer = s.sequencer ∧ t.expression = s.expression

/-! ### The pool, the pizzicato list, routes, players, channels -/

/-- R68, R72: the expiry of a strike timer, the end of a generator's on part, and its return to 0, where it loads P and A
of its client's table as they stand. That each acts at whatever the timer or counter reads, and that the end of the on part
leaves the counter at the on value, is the model's choice (log 3). -/
def Obligations.PoolTimersAct : Prop :=
  ∀ s : State,
    (∀ (c : Fin 4) (p : Fin 1024), ∃ t, exec (.strikeTimerExpiry c p) s = .next t ∧
      QuietlySame (s.setStrikeTimer ⟨c, p⟩ none) t) ∧
    (∀ (g : Fin 32) (v : Service), s.generator g = some v →
      (v.level = true → ∃ t, exec (.generatorLevelOff g) s = .next t ∧
        QuietlySame (s.setGenerator g (some { v with counter := v.onValue, level := false })) t) ∧
      (∀ (p : Point) (r : Nat), v.client = .struck p → s.rankOf p = some r →
        ∃ t, exec (.generatorReturnToZero g) s = .next t ∧
          QuietlySame (s.setGenerator g (some ⟨v.client, 0, true, (s.rank r).period, (s.rank r).strikeTime⟩)) t) ∧
      (∀ n, v.client = .tremulant n →
        ∃ t, exec (.generatorReturnToZero g) s = .next t ∧
          QuietlySame (s.setGenerator g
            (some ⟨v.client, 0, true, (s.tremulant n).period, (s.tremulant n).onTime⟩)) t))

/-- R50, R52: the expiry of a RUNNING pizzicato entry removes one claim from its point and leaves the entry SPENT in its
place; every other entry stands in its place as it was. -/
def Obligations.PizzicatoExpirySpendsEntry : Prop :=
  ∀ (s : State) (row : Fin 9) (key : Fin 64) (stop : Fin 320) (e : PizzEntry),
    s.pizzEntry row key stop = some e → e.spent = false →
    ∃ t, exec (.pizzicatoExpiry row key stop) s = .next t ∧
      t.claimCount e.target = s.claimCount e.target - 1 ∧
      (∀ q : Point, q.index ≠ e.target.index → t.claimCount q = s.claimCount q) ∧
      t.pizzEntry row key stop = some { e with remaining := 0, spent := true } ∧
      t.claims.pizz = s.claims.pizz.map (fun x =>
        if x.row = row.val ∧ x.key = key.val ∧ x.stop = stop.val then { x with remaining := 0, spent := true } else x) ∧
      (∀ before later, s.claims.pizz = before ++ e :: later →
        (∀ x ∈ before ++ later, ¬(x.row = row.val ∧ x.key = key.val ∧ x.stop = stop.val)) →
        t.claims.pizz = before ++ { e with remaining := 0, spent := true } :: later) ∧
      t.claims.pizz.length = s.claims.pizz.length ∧ t.claims.holds = s.claims.holds ∧ t.engine = s.engine ∧
      t.pool = s.pool ∧ t.scan = s.scan ∧ t.router = s.router ∧ t.sequencer = s.sequencer

/-- R94, R99: the expiry of a MEASURING entry's split timer: IN-SERVICE, with one claim added or one unit of demand raised
on the hold note's point. -/
def Obligations.SplitTimerStartsHold : Prop :=
  ∀ (s : State) (i : Fin 96), (s.route i).state = .measuring → (s.route i).timer.isSome = true →
    (s.route i).fields.trigger = .split →
    ∃ t, exec (.splitTimerExpiry i) s = .next t ∧
      t.route i = { s.route i with state := .inService, timer := none } ∧
      (∀ j, j ≠ i.val → t.route j = s.route j) ∧
      ((s.route i).fields.holdKind = .hold →
        t.claimCount (s.notePoint (s.route i).fields.holdRank (s.route i).fields.holdNote) =
          s.claimCount (s.notePoint (s.route i).fields.holdRank (s.route i).fields.holdNote) + 1 ∧
        t.pool = s.pool) ∧
      ((s.route i).fields.holdKind = .roll →
        t.demandOf (s.notePoint (s.route i).fields.holdRank (s.route i).fields.holdNote) =
          s.demandOf (s.notePoint (s.route i).fields.holdRank (s.route i).fields.holdNote) + 1 ∧
        t.claims = s.claims) ∧
      t.scan = s.scan ∧ t.engine = s.engine ∧ t.sequencer = s.sequencer ∧ t.expression = s.expression

/-- R114, R115, R116: a step timer's expiry: a FINISHING player stops, with one claim removed from each of its holds; a
RUNNING one moves to the next step, step 1023 followed by step 0, applies its actions to its hold set (R113) and starts the
timer of 10 ms units; at an END step a looped player moves to the first step of its sequence at once, and an unlooped one
stops. R112: a delivery of sequences assigns IDLE players in list order, and each takes its first step. -/
def Obligations.StepTimerMovesPlayer : Prop :=
  (∀ (s : State) (n : Fin 8) (run : Run), s.player n = some run →
    ∃ t, exec (.stepTimerExpiry n) s = .next t ∧
      (run.finishing = true → PlayerStopped n run s t) ∧
      (run.finishing = false → (s.stepRecord ((run.step + 1) % 1024)).kind = .timed →
        PlayerMoved n run ((run.step + 1) % 1024) s t) ∧
      (run.finishing = false → (s.stepRecord ((run.step + 1) % 1024)).kind = .final →
        ((s.seqEntry run.sequence).loop = false → PlayerStopped n run s t) ∧
        ((s.seqEntry run.sequence).loop = true → ∀ i, (s.seqEntry run.sequence).first = some i →
          (s.stepRecord i).kind = .timed → PlayerMoved n run i s t)) ∧
      (∀ m, m ≠ n.val → t.player m = s.player m) ∧ t.sequencer.memory = s.sequencer.memory ∧
      t.sequencer.directory = s.sequencer.directory ∧ t.engine = s.engine ∧ t.scan = s.scan ∧
      t.router = s.router ∧ t.expression = s.expression) ∧
  ∀ (s : State) (level : Bool) (input : Nat) (sequences : List Nat),
    PlayersStart level input sequences s (startDelivery level input sequences s)

/-- R127: a slew timer's expiry moves the channel one stage toward its goal and starts the timer again, or stops it at
the goal. -/
def Obligations.SlewTimerMovesStage : Prop :=
  ∀ (s : State) (c : Fin 4), (s.channel c).timer.isSome = true → ∃ t, exec (.slewTimerExpiry c) s = .next t ∧
    ((s.channel c).goal = (s.channel c).stage → QuietlySame (s.setChannel c { s.channel c with timer := none }) t) ∧
    ((s.channel c).stage < (s.channel c).goal →
      QuietlySame (s.setChannel c { s.channel c with
        stage := (s.channel c).stage + 1, timer := some (s.channel c).record.slew }) t) ∧
    ((s.channel c).goal < (s.channel c).stage →
      QuietlySame (s.setChannel c { s.channel c with
        stage := (s.channel c).stage - 1, timer := some (s.channel c).record.slew }) t)

/-! ### The return line and the lamps -/

/-- R158, R172: a frame sent leaves the line to the oldest waiting frame, with the attention flag as it stands; a quiet
line puts out an IDLE frame. A frame offered joins a queue of up to 31; offered to one of 32 it is dropped, the queue and the
line stand and RETURN-OVERRUN is latched: a frame of the relay's own, as offered, or a frame from below, a HELLO-REPLY, a
BUSY reply or the REPLY of a request, each by its command. -/
def Obligations.ReturnLineSendsInOrder : Prop :=
  (∀ (s : State) (f : UpFrame),
    (s.port.returnQueue.length < 32 → (offer f s).outgoing = s.outgoing ++ [f] ∧
      (s.port.line.isSome = true → (offer f s).port = { s.port with returnQueue := s.port.returnQueue ++ [f] }) ∧
      (s.port.line = none → s.port.returnQueue = [] →
        (offer f s).port = { s.port with line := some ⟨f, s.attention⟩ }) ∧
      (offer f s).status = s.status) ∧
    (32 ≤ s.port.returnQueue.length → (offer f s).port = s.port ∧ (offer f s).latched .returnOverrun = true ∧
      (offer f s).stretch .returnOverrun = some 100)) ∧
  (∀ (s : State) (bytes : Bytes), s.port.line.isSome = true →
    ∃ t, exec (.extUpstreamFrame bytes) s = .next t ∧
      (s.port.returnQueue.length = 31 → s.ext.up = true →
        t.port.returnQueue = s.port.returnQueue ++ [.forwarded bytes]) ∧
      (32 ≤ s.port.returnQueue.length → t.port.returnQueue = s.port.returnQueue ∧ t.port.line = s.port.line ∧
        t.latched .returnOverrun = true)) ∧
  (∀ s : State, 32 ≤ s.port.returnQueue.length →
    (∃ t, exec .hello s = .next t ∧ t.port.returnQueue = s.port.returnQueue ∧ t.port.line = s.port.line ∧
      t.latched .returnOverrun = true) ∧
    (∀ (tag code : Byte) (fields : Bytes), s.port.link = .up → 4 ≤ s.port.requests.length →
      ∃ t, exec (.request s.strapByte tag code fields) s = .next t ∧ t.port.returnQueue = s.port.returnQueue ∧
        t.port.line = s.port.line ∧ t.latched .returnOverrun = true) ∧
    ∀ (r : Request) (data : Bytes), HeadIs s r 0x01#8 data →
      ∃ t, exec .echo s = .next t ∧ t.port.requests = s.port.requests.tail ∧
        t.port.returnQueue = s.port.returnQueue ∧ t.port.line = s.port.line ∧ t.latched .returnOverrun = true) ∧
  ∀ s : State,
    (s.port.line.isSome = true → ∃ t, exec .returnFrameSent s = .next t ∧
      QuietlySame (s.setPort { s.port with line := none, silence := 0 }) t ∧
      t.port.line = s.port.returnQueue.head?.map (fun f => ⟨f, s.attention⟩) ∧
      t.port.returnQueue = s.port.returnQueue.tail) ∧
    (s.port.line = none → s.port.returnQueue = [] → ∃ t, exec .returnLineSilence s = .next t ∧
      QuietlySame s t ∧ t.port.line = some ⟨.own 0x05#8 [s.strapByte], s.attention⟩ ∧ t.port.returnQueue = [])

/-- R165, R168: what a lamp shows: OFF is dark, ON is lit, BLINK is lit in the on half of the blink clock, and FOLLOW is lit
while its item meets its condition, or for 100 ms from each latching of an event item, and the other way about with invert.
A command that leaves no request to be served puts out one LAMP frame of all 16 outputs, behind any NOTICE, when an output
has changed, and otherwise none: that one command is one event is the model's reading (log 9). A turn of the blink clock
changes every BLINK lamp at once and gives one LAMP frame; a stretch ends. -/
def Obligations.LampClocksAct : Prop :=
  (∀ (s : State) (n : Nat), n < 16 →
    ((s.lamp n).mode = .off → s.lampOutputs.getLsbD n = false) ∧
    ((s.lamp n).mode = .steady → s.lampOutputs.getLsbD n = true) ∧
    ((s.lamp n).mode = .blink → s.lampOutputs.getLsbD n = s.status.blinkOn) ∧
    ((s.lamp n).mode = .follow →
      (s.lampOutputs.getLsbD n = true ↔
        ((s.lamp n).invert = false ∧ s.followLit (s.lamp n).item) ∨
          ((s.lamp n).invert = true ∧ ¬s.followLit (s.lamp n).item)))) ∧
  (∀ (s : State) (item : EventItem), (latch (eventItem item) s).stretch (eventItem item) = some 100) ∧
  (∀ (s t : State) (i : Instr), exec i s = .next t → (∀ strap, i ≠ .powerOnReset strap) → i ≠ .returnFrameSent →
    s.port.requests = [] → t.port.requests = [] → s.port.returnQueue.length + 4 ≤ 32 →
    ∃ before, t.outgoing =
        s.outgoing ++ before ++ (if t.lampOutputs = s.lampOutputs then [] else [t.lampFrame t.lampOutputs]) ∧
      ∀ f ∈ before, f.isLamp = false) ∧
  ∀ s : State,
    (∃ t, exec .blinkClockTurn s = .next t ∧
      QuietlySame (s.setStatus { s.status with blinkOn := !s.status.blinkOn, blinkLeft := 250 }) t ∧
      ((∃ n, n < 16 ∧ (s.lamp n).mode = .blink) → s.port.requests = [] → s.port.returnQueue.length < 32 →
        t.outgoing = s.outgoing ++ [t.lampFrame t.lampOutputs]) ∧
      ((∀ n, n < 16 → (s.lamp n).mode ≠ .blink) → t.outgoing = s.outgoing)) ∧
    ∀ item : EventItem, ∃ t, exec (.lampStretchExpiry item) s = .next t ∧ QuietlySame s t ∧
      (s.port.returnQueue.length < 32 → t.stretch (eventItem item) = none ∧
        ∀ j, j ≠ item → t.stretch (eventItem j) = s.stretch (eventItem j))
end

