-- ==== Sys2Proof/Laws/State.lean ====
section
/-! SUPPORT. One lemma per field per update of State: what an update of one unit leaves in every unit. -/

namespace Sys2Proof.Machine

/-! ### setPending -/

@[simp] theorem State.setPending_pending (s : State) (x : List Instr) : (s.setPending x).pending = x := rfl
@[simp] theorem State.setPending_port (s : State) (x : List Instr) : (s.setPending x).port = s.port := rfl
@[simp] theorem State.setPending_ext (s : State) (x : List Instr) : (s.setPending x).ext = s.ext := rfl
@[simp] theorem State.setPending_scan (s : State) (x : List Instr) : (s.setPending x).scan = s.scan := rfl
@[simp] theorem State.setPending_engine (s : State) (x : List Instr) : (s.setPending x).engine = s.engine := rfl
@[simp] theorem State.setPending_claims (s : State) (x : List Instr) : (s.setPending x).claims = s.claims := rfl
@[simp] theorem State.setPending_pool (s : State) (x : List Instr) : (s.setPending x).pool = s.pool := rfl
@[simp] theorem State.setPending_router (s : State) (x : List Instr) : (s.setPending x).router = s.router := rfl
@[simp] theorem State.setPending_sequencer (s : State) (x : List Instr) : (s.setPending x).sequencer = s.sequencer := rfl
@[simp] theorem State.setPending_expression (s : State) (x : List Instr) : (s.setPending x).expression = s.expression := rfl
@[simp] theorem State.setPending_chambers (s : State) (x : List Instr) : (s.setPending x).chambers = s.chambers := rfl
@[simp] theorem State.setPending_status (s : State) (x : List Instr) : (s.setPending x).status = s.status := rfl
@[simp] theorem State.setPending_freeCount (s : State) (x : List Instr) : (s.setPending x).freeCount = s.freeCount := rfl

/-! ### setPort -/

@[simp] theorem State.setPort_pending (s : State) (x : Port) : (s.setPort x).pending = s.pending := rfl
@[simp] theorem State.setPort_port (s : State) (x : Port) : (s.setPort x).port = x := rfl
@[simp] theorem State.setPort_ext (s : State) (x : Port) : (s.setPort x).ext = s.ext := rfl
@[simp] theorem State.setPort_scan (s : State) (x : Port) : (s.setPort x).scan = s.scan := rfl
@[simp] theorem State.setPort_engine (s : State) (x : Port) : (s.setPort x).engine = s.engine := rfl
@[simp] theorem State.setPort_claims (s : State) (x : Port) : (s.setPort x).claims = s.claims := rfl
@[simp] theorem State.setPort_pool (s : State) (x : Port) : (s.setPort x).pool = s.pool := rfl
@[simp] theorem State.setPort_router (s : State) (x : Port) : (s.setPort x).router = s.router := rfl
@[simp] theorem State.setPort_sequencer (s : State) (x : Port) : (s.setPort x).sequencer = s.sequencer := rfl
@[simp] theorem State.setPort_expression (s : State) (x : Port) : (s.setPort x).expression = s.expression := rfl
@[simp] theorem State.setPort_chambers (s : State) (x : Port) : (s.setPort x).chambers = s.chambers := rfl
@[simp] theorem State.setPort_status (s : State) (x : Port) : (s.setPort x).status = s.status := rfl
@[simp] theorem State.setPort_freeCount (s : State) (x : Port) : (s.setPort x).freeCount = s.freeCount := rfl

/-! ### setExt -/

@[simp] theorem State.setExt_pending (s : State) (x : Ext) : (s.setExt x).pending = s.pending := rfl
@[simp] theorem State.setExt_port (s : State) (x : Ext) : (s.setExt x).port = s.port := rfl
@[simp] theorem State.setExt_ext (s : State) (x : Ext) : (s.setExt x).ext = x := rfl
@[simp] theorem State.setExt_scan (s : State) (x : Ext) : (s.setExt x).scan = s.scan := rfl
@[simp] theorem State.setExt_engine (s : State) (x : Ext) : (s.setExt x).engine = s.engine := rfl
@[simp] theorem State.setExt_claims (s : State) (x : Ext) : (s.setExt x).claims = s.claims := rfl
@[simp] theorem State.setExt_pool (s : State) (x : Ext) : (s.setExt x).pool = s.pool := rfl
@[simp] theorem State.setExt_router (s : State) (x : Ext) : (s.setExt x).router = s.router := rfl
@[simp] theorem State.setExt_sequencer (s : State) (x : Ext) : (s.setExt x).sequencer = s.sequencer := rfl
@[simp] theorem State.setExt_expression (s : State) (x : Ext) : (s.setExt x).expression = s.expression := rfl
@[simp] theorem State.setExt_chambers (s : State) (x : Ext) : (s.setExt x).chambers = s.chambers := rfl
@[simp] theorem State.setExt_status (s : State) (x : Ext) : (s.setExt x).status = s.status := rfl
@[simp] theorem State.setExt_freeCount (s : State) (x : Ext) : (s.setExt x).freeCount = s.freeCount := rfl

/-! ### setScan -/

@[simp] theorem State.setScan_pending (s : State) (x : ScanUnit) : (s.setScan x).pending = s.pending := rfl
@[simp] theorem State.setScan_port (s : State) (x : ScanUnit) : (s.setScan x).port = s.port := rfl
@[simp] theorem State.setScan_ext (s : State) (x : ScanUnit) : (s.setScan x).ext = s.ext := rfl
@[simp] theorem State.setScan_scan (s : State) (x : ScanUnit) : (s.setScan x).scan = x := rfl
@[simp] theorem State.setScan_engine (s : State) (x : ScanUnit) : (s.setScan x).engine = s.engine := rfl
@[simp] theorem State.setScan_claims (s : State) (x : ScanUnit) : (s.setScan x).claims = s.claims := rfl
@[simp] theorem State.setScan_pool (s : State) (x : ScanUnit) : (s.setScan x).pool = s.pool := rfl
@[simp] theorem State.setScan_router (s : State) (x : ScanUnit) : (s.setScan x).router = s.router := rfl
@[simp] theorem State.setScan_sequencer (s : State) (x : ScanUnit) : (s.setScan x).sequencer = s.sequencer := rfl
@[simp] theorem State.setScan_expression (s : State) (x : ScanUnit) : (s.setScan x).expression = s.expression := rfl
@[simp] theorem State.setScan_chambers (s : State) (x : ScanUnit) : (s.setScan x).chambers = s.chambers := rfl
@[simp] theorem State.setScan_status (s : State) (x : ScanUnit) : (s.setScan x).status = s.status := rfl
@[simp] theorem State.setScan_freeCount (s : State) (x : ScanUnit) : (s.setScan x).freeCount = s.freeCount := rfl

/-! ### setEngine -/

@[simp] theorem State.setEngine_pending (s : State) (x : Engine) : (s.setEngine x).pending = s.pending := rfl
@[simp] theorem State.setEngine_port (s : State) (x : Engine) : (s.setEngine x).port = s.port := rfl
@[simp] theorem State.setEngine_ext (s : State) (x : Engine) : (s.setEngine x).ext = s.ext := rfl
@[simp] theorem State.setEngine_scan (s : State) (x : Engine) : (s.setEngine x).scan = s.scan := rfl
@[simp] theorem State.setEngine_engine (s : State) (x : Engine) : (s.setEngine x).engine = x := rfl
@[simp] theorem State.setEngine_claims (s : State) (x : Engine) : (s.setEngine x).claims = s.claims := rfl
@[simp] theorem State.setEngine_pool (s : State) (x : Engine) : (s.setEngine x).pool = s.pool := rfl
@[simp] theorem State.setEngine_router (s : State) (x : Engine) : (s.setEngine x).router = s.router := rfl
@[simp] theorem State.setEngine_sequencer (s : State) (x : Engine) : (s.setEngine x).sequencer = s.sequencer := rfl
@[simp] theorem State.setEngine_expression (s : State) (x : Engine) : (s.setEngine x).expression = s.expression := rfl
@[simp] theorem State.setEngine_chambers (s : State) (x : Engine) : (s.setEngine x).chambers = s.chambers := rfl
@[simp] theorem State.setEngine_status (s : State) (x : Engine) : (s.setEngine x).status = s.status := rfl
@[simp] theorem State.setEngine_freeCount (s : State) (x : Engine) : (s.setEngine x).freeCount = s.freeCount := rfl

/-! ### setClaims -/

@[simp] theorem State.setClaims_pending (s : State) (x : ClaimStore) : (s.setClaims x).pending = s.pending := rfl
@[simp] theorem State.setClaims_port (s : State) (x : ClaimStore) : (s.setClaims x).port = s.port := rfl
@[simp] theorem State.setClaims_ext (s : State) (x : ClaimStore) : (s.setClaims x).ext = s.ext := rfl
@[simp] theorem State.setClaims_scan (s : State) (x : ClaimStore) : (s.setClaims x).scan = s.scan := rfl
@[simp] theorem State.setClaims_engine (s : State) (x : ClaimStore) : (s.setClaims x).engine = s.engine := rfl
@[simp] theorem State.setClaims_claims (s : State) (x : ClaimStore) : (s.setClaims x).claims = x := rfl
@[simp] theorem State.setClaims_pool (s : State) (x : ClaimStore) : (s.setClaims x).pool = s.pool := rfl
@[simp] theorem State.setClaims_router (s : State) (x : ClaimStore) : (s.setClaims x).router = s.router := rfl
@[simp] theorem State.setClaims_sequencer (s : State) (x : ClaimStore) : (s.setClaims x).sequencer = s.sequencer := rfl
@[simp] theorem State.setClaims_expression (s : State) (x : ClaimStore) : (s.setClaims x).expression = s.expression := rfl
@[simp] theorem State.setClaims_chambers (s : State) (x : ClaimStore) : (s.setClaims x).chambers = s.chambers := rfl
@[simp] theorem State.setClaims_status (s : State) (x : ClaimStore) : (s.setClaims x).status = s.status := rfl
@[simp] theorem State.setClaims_freeCount (s : State) (x : ClaimStore) : (s.setClaims x).freeCount = s.freeCount := rfl

/-! ### setPool -/

@[simp] theorem State.setPool_pending (s : State) (x : Pool) : (s.setPool x).pending = s.pending := rfl
@[simp] theorem State.setPool_port (s : State) (x : Pool) : (s.setPool x).port = s.port := rfl
@[simp] theorem State.setPool_ext (s : State) (x : Pool) : (s.setPool x).ext = s.ext := rfl
@[simp] theorem State.setPool_scan (s : State) (x : Pool) : (s.setPool x).scan = s.scan := rfl
@[simp] theorem State.setPool_engine (s : State) (x : Pool) : (s.setPool x).engine = s.engine := rfl
@[simp] theorem State.setPool_claims (s : State) (x : Pool) : (s.setPool x).claims = s.claims := rfl
@[simp] theorem State.setPool_pool (s : State) (x : Pool) : (s.setPool x).pool = x := rfl
@[simp] theorem State.setPool_router (s : State) (x : Pool) : (s.setPool x).router = s.router := rfl
@[simp] theorem State.setPool_sequencer (s : State) (x : Pool) : (s.setPool x).sequencer = s.sequencer := rfl
@[simp] theorem State.setPool_expression (s : State) (x : Pool) : (s.setPool x).expression = s.expression := rfl
@[simp] theorem State.setPool_chambers (s : State) (x : Pool) : (s.setPool x).chambers = s.chambers := rfl
@[simp] theorem State.setPool_status (s : State) (x : Pool) : (s.setPool x).status = s.status := rfl
@[simp] theorem State.setPool_freeCount (s : State) (x : Pool) : (s.setPool x).freeCount = s.freeCount := rfl

/-! ### setRouter -/

@[simp] theorem State.setRouter_pending (s : State) (x : Router) : (s.setRouter x).pending = s.pending := rfl
@[simp] theorem State.setRouter_port (s : State) (x : Router) : (s.setRouter x).port = s.port := rfl
@[simp] theorem State.setRouter_ext (s : State) (x : Router) : (s.setRouter x).ext = s.ext := rfl
@[simp] theorem State.setRouter_scan (s : State) (x : Router) : (s.setRouter x).scan = s.scan := rfl
@[simp] theorem State.setRouter_engine (s : State) (x : Router) : (s.setRouter x).engine = s.engine := rfl
@[simp] theorem State.setRouter_claims (s : State) (x : Router) : (s.setRouter x).claims = s.claims := rfl
@[simp] theorem State.setRouter_pool (s : State) (x : Router) : (s.setRouter x).pool = s.pool := rfl
@[simp] theorem State.setRouter_router (s : State) (x : Router) : (s.setRouter x).router = x := rfl
@[simp] theorem State.setRouter_sequencer (s : State) (x : Router) : (s.setRouter x).sequencer = s.sequencer := rfl
@[simp] theorem State.setRouter_expression (s : State) (x : Router) : (s.setRouter x).expression = s.expression := rfl
@[simp] theorem State.setRouter_chambers (s : State) (x : Router) : (s.setRouter x).chambers = s.chambers := rfl
@[simp] theorem State.setRouter_status (s : State) (x : Router) : (s.setRouter x).status = s.status := rfl
@[simp] theorem State.setRouter_freeCount (s : State) (x : Router) : (s.setRouter x).freeCount = s.freeCount := rfl

/-! ### setSequencer -/

@[simp] theorem State.setSequencer_pending (s : State) (x : Sequencer) : (s.setSequencer x).pending = s.pending := rfl
@[simp] theorem State.setSequencer_port (s : State) (x : Sequencer) : (s.setSequencer x).port = s.port := rfl
@[simp] theorem State.setSequencer_ext (s : State) (x : Sequencer) : (s.setSequencer x).ext = s.ext := rfl
@[simp] theorem State.setSequencer_scan (s : State) (x : Sequencer) : (s.setSequencer x).scan = s.scan := rfl
@[simp] theorem State.setSequencer_engine (s : State) (x : Sequencer) : (s.setSequencer x).engine = s.engine := rfl
@[simp] theorem State.setSequencer_claims (s : State) (x : Sequencer) : (s.setSequencer x).claims = s.claims := rfl
@[simp] theorem State.setSequencer_pool (s : State) (x : Sequencer) : (s.setSequencer x).pool = s.pool := rfl
@[simp] theorem State.setSequencer_router (s : State) (x : Sequencer) : (s.setSequencer x).router = s.router := rfl
@[simp] theorem State.setSequencer_sequencer (s : State) (x : Sequencer) : (s.setSequencer x).sequencer = x := rfl
@[simp] theorem State.setSequencer_expression (s : State) (x : Sequencer) : (s.setSequencer x).expression = s.expression := rfl
@[simp] theorem State.setSequencer_chambers (s : State) (x : Sequencer) : (s.setSequencer x).chambers = s.chambers := rfl
@[simp] theorem State.setSequencer_status (s : State) (x : Sequencer) : (s.setSequencer x).status = s.status := rfl
@[simp] theorem State.setSequencer_freeCount (s : State) (x : Sequencer) : (s.setSequencer x).freeCount = s.freeCount := rfl

/-! ### setExpression -/

@[simp] theorem State.setExpression_pending (s : State) (x : Expression) : (s.setExpression x).pending = s.pending := rfl
@[simp] theorem State.setExpression_port (s : State) (x : Expression) : (s.setExpression x).port = s.port := rfl
@[simp] theorem State.setExpression_ext (s : State) (x : Expression) : (s.setExpression x).ext = s.ext := rfl
@[simp] theorem State.setExpression_scan (s : State) (x : Expression) : (s.setExpression x).scan = s.scan := rfl
@[simp] theorem State.setExpression_engine (s : State) (x : Expression) : (s.setExpression x).engine = s.engine := rfl
@[simp] theorem State.setExpression_claims (s : State) (x : Expression) : (s.setExpression x).claims = s.claims := rfl
@[simp] theorem State.setExpression_pool (s : State) (x : Expression) : (s.setExpression x).pool = s.pool := rfl
@[simp] theorem State.setExpression_router (s : State) (x : Expression) : (s.setExpression x).router = s.router := rfl
@[simp] theorem State.setExpression_sequencer (s : State) (x : Expression) : (s.setExpression x).sequencer = s.sequencer := rfl
@[simp] theorem State.setExpression_expression (s : State) (x : Expression) : (s.setExpression x).expression = x := rfl
@[simp] theorem State.setExpression_chambers (s : State) (x : Expression) : (s.setExpression x).chambers = s.chambers := rfl
@[simp] theorem State.setExpression_status (s : State) (x : Expression) : (s.setExpression x).status = s.status := rfl
@[simp] theorem State.setExpression_freeCount (s : State) (x : Expression) : (s.setExpression x).freeCount = s.freeCount := rfl

/-! ### setChambers -/

@[simp] theorem State.setChambers_pending (s : State) (x : Table Chamber) : (s.setChambers x).pending = s.pending := rfl
@[simp] theorem State.setChambers_port (s : State) (x : Table Chamber) : (s.setChambers x).port = s.port := rfl
@[simp] theorem State.setChambers_ext (s : State) (x : Table Chamber) : (s.setChambers x).ext = s.ext := rfl
@[simp] theorem State.setChambers_scan (s : State) (x : Table Chamber) : (s.setChambers x).scan = s.scan := rfl
@[simp] theorem State.setChambers_engine (s : State) (x : Table Chamber) : (s.setChambers x).engine = s.engine := rfl
@[simp] theorem State.setChambers_claims (s : State) (x : Table Chamber) : (s.setChambers x).claims = s.claims := rfl
@[simp] theorem State.setChambers_pool (s : State) (x : Table Chamber) : (s.setChambers x).pool = s.pool := rfl
@[simp] theorem State.setChambers_router (s : State) (x : Table Chamber) : (s.setChambers x).router = s.router := rfl
@[simp] theorem State.setChambers_sequencer (s : State) (x : Table Chamber) : (s.setChambers x).sequencer = s.sequencer := rfl
@[simp] theorem State.setChambers_expression (s : State) (x : Table Chamber) : (s.setChambers x).expression = s.expression := rfl
@[simp] theorem State.setChambers_chambers (s : State) (x : Table Chamber) : (s.setChambers x).chambers = x := rfl
@[simp] theorem State.setChambers_status (s : State) (x : Table Chamber) : (s.setChambers x).status = s.status := rfl
@[simp] theorem State.setChambers_freeCount (s : State) (x : Table Chamber) : (s.setChambers x).freeCount = s.freeCount := rfl

/-! ### setStatus -/

@[simp] theorem State.setStatus_pending (s : State) (x : Status) : (s.setStatus x).pending = s.pending := rfl
@[simp] theorem State.setStatus_port (s : State) (x : Status) : (s.setStatus x).port = s.port := rfl
@[simp] theorem State.setStatus_ext (s : State) (x : Status) : (s.setStatus x).ext = s.ext := rfl
@[simp] theorem State.setStatus_scan (s : State) (x : Status) : (s.setStatus x).scan = s.scan := rfl
@[simp] theorem State.setStatus_engine (s : State) (x : Status) : (s.setStatus x).engine = s.engine := rfl
@[simp] theorem State.setStatus_claims (s : State) (x : Status) : (s.setStatus x).claims = s.claims := rfl
@[simp] theorem State.setStatus_pool (s : State) (x : Status) : (s.setStatus x).pool = s.pool := rfl
@[simp] theorem State.setStatus_router (s : State) (x : Status) : (s.setStatus x).router = s.router := rfl
@[simp] theorem State.setStatus_sequencer (s : State) (x : Status) : (s.setStatus x).sequencer = s.sequencer := rfl
@[simp] theorem State.setStatus_expression (s : State) (x : Status) : (s.setStatus x).expression = s.expression := rfl
@[simp] theorem State.setStatus_chambers (s : State) (x : Status) : (s.setStatus x).chambers = s.chambers := rfl
@[simp] theorem State.setStatus_status (s : State) (x : Status) : (s.setStatus x).status = x := rfl
@[simp] theorem State.setStatus_freeCount (s : State) (x : Status) : (s.setStatus x).freeCount = s.freeCount := rfl

/-! ### setFreeCount -/

@[simp] theorem State.setFreeCount_pending (s : State) (x : Nat) : (s.setFreeCount x).pending = s.pending := rfl
@[simp] theorem State.setFreeCount_port (s : State) (x : Nat) : (s.setFreeCount x).port = s.port := rfl
@[simp] theorem State.setFreeCount_ext (s : State) (x : Nat) : (s.setFreeCount x).ext = s.ext := rfl
@[simp] theorem State.setFreeCount_scan (s : State) (x : Nat) : (s.setFreeCount x).scan = s.scan := rfl
@[simp] theorem State.setFreeCount_engine (s : State) (x : Nat) : (s.setFreeCount x).engine = s.engine := rfl
@[simp] theorem State.setFreeCount_claims (s : State) (x : Nat) : (s.setFreeCount x).claims = s.claims := rfl
@[simp] theorem State.setFreeCount_pool (s : State) (x : Nat) : (s.setFreeCount x).pool = s.pool := rfl
@[simp] theorem State.setFreeCount_router (s : State) (x : Nat) : (s.setFreeCount x).router = s.router := rfl
@[simp] theorem State.setFreeCount_sequencer (s : State) (x : Nat) : (s.setFreeCount x).sequencer = s.sequencer := rfl
@[simp] theorem State.setFreeCount_expression (s : State) (x : Nat) : (s.setFreeCount x).expression = s.expression := rfl
@[simp] theorem State.setFreeCount_chambers (s : State) (x : Nat) : (s.setFreeCount x).chambers = s.chambers := rfl
@[simp] theorem State.setFreeCount_status (s : State) (x : Nat) : (s.setFreeCount x).status = s.status := rfl
@[simp] theorem State.setFreeCount_freeCount (s : State) (x : Nat) : (s.setFreeCount x).freeCount = x := rfl

end Sys2Proof.Machine
end

