-- ==== Sys2Proof/Laws/Table.lean ====
section
/-! SUPPORT. The indexed table: what a read gives after a write, and that every operation keeps the canonical form. -/

namespace Sys2Proof.Machine

variable {α : Type}

/-- Indices rise strictly, as a relation on the list. -/
def RisingIndices (l : List (Nat × α)) : Prop := l.Pairwise (fun a b => a.1 < b.1)

theorem lookupEntry_filter_ne (reset : α) (j k : Nat) (l : List (Nat × α)) :
    lookupEntry reset j (l.filter (fun e => e.1 ≠ k)) = if j = k then reset else lookupEntry reset j l := by
  induction l with
  | nil => simp [lookupEntry]
  | cons e rest ih =>
    obtain ⟨m, w⟩ := e
    by_cases hm : m = k
    · subst hm
      simp only [ne_eq, not_true_eq_false, decide_false, Bool.false_eq_true, not_false_eq_true, List.filter_cons_of_neg,
        ih, lookupEntry]
      split
      · rfl
      · rename_i h
        rw [if_neg (fun h' => h h'.symm)]
    · rw [List.filter_cons_of_pos (by simpa using hm)]
      simp only [lookupEntry, ih]
      by_cases hj : m = j
      · subst hj; simp [hm]
      · simp [hj]

theorem lookupEntry_insertEntry (reset : α) (j k : Nat) (v : α) (l : List (Nat × α)) :
    lookupEntry reset j (insertEntry k v l) = if j = k then v else lookupEntry reset j l := by
  induction l with
  | nil =>
    simp only [insertEntry, lookupEntry]
    by_cases h : k = j
    · simp [h]
    · simp [h, Ne.symm h]
  | cons e rest ih =>
    obtain ⟨m, w⟩ := e
    simp only [insertEntry]
    by_cases h1 : k < m
    · simp only [h1, if_true, lookupEntry]
      by_cases h : k = j
      · simp [h]
      · simp [h, Ne.symm h]
    · simp only [h1, if_false]
      by_cases h2 : k = m
      · subst h2
        simp only [if_true, lookupEntry]
        by_cases h : k = j
        · simp [h]
        · simp [h, Ne.symm h]
      · simp only [h2, if_false, lookupEntry, ih]
        by_cases h : m = j
        · subst h; simp [Ne.symm h2]
        · simp [h]

/-- A read after a write gives the value written, and every other index reads as before. -/
theorem Table.get_put [DecidableEq α] (t : Table α) (reset : α) (j k : Nat) (v : α) :
    (t.put reset k v).get reset j = if j = k then v else t.get reset j := by
  simp only [Table.put, Table.get]
  split
  · rename_i h
    rw [lookupEntry_filter_ne, h]
  · rw [lookupEntry_insertEntry]

@[simp] theorem Table.get_put_same [DecidableEq α] (t : Table α) (reset : α) (k : Nat) (v : α) :
    (t.put reset k v).get reset k = v := by
  rw [Table.get_put, if_pos rfl]

@[simp] theorem Table.get_put_other [DecidableEq α] (t : Table α) (reset : α) {j k : Nat} (v : α) (h : j ≠ k) :
    (t.put reset k v).get reset j = t.get reset j := by
  rw [Table.get_put, if_neg h]

@[simp] theorem Table.get_empty (reset : α) (k : Nat) : (Table.empty : Table α).get reset k = reset := rfl

/-! ### The canonical form -/

theorem indicesRise_iff (l : List (Nat × α)) : indicesRise l = true ↔ RisingIndices l := by
  induction l with
  | nil => simp [indicesRise, RisingIndices]
  | cons a rest ih =>
    cases rest with
    | nil => simp [indicesRise, RisingIndices]
    | cons b rest =>
      obtain ⟨j, v⟩ := a
      obtain ⟨k, w⟩ := b
      simp only [indicesRise, Bool.and_eq_true, decide_eq_true_eq, ih, RisingIndices, List.pairwise_cons,
        List.mem_cons]
      constructor
      · rintro ⟨hjk, hk, hr⟩
        refine ⟨?_, hk, hr⟩
        rintro e (rfl | he)
        · exact hjk
        · exact lt_trans hjk (hk e he)
      · rintro ⟨hj, hk, hr⟩
        exact ⟨hj _ (.inl rfl), hk, hr⟩

theorem mem_insertEntry {k : Nat} {v : α} {l : List (Nat × α)} {e : Nat × α} (h : e ∈ insertEntry k v l) :
    e = (k, v) ∨ e ∈ l := by
  induction l with
  | nil => simpa [insertEntry] using h
  | cons a rest ih =>
    obtain ⟨j, w⟩ := a
    simp only [insertEntry] at h
    split at h
    · simpa using h
    · split at h
      · rcases List.mem_cons.1 h with h | h
        · exact .inl h
        · exact .inr (List.mem_cons_of_mem _ h)
      · rcases List.mem_cons.1 h with h | h
        · exact .inr (h ▸ List.mem_cons_self)
        · rcases ih h with h | h
          · exact .inl h
          · exact .inr (List.mem_cons_of_mem _ h)

theorem rising_insertEntry (k : Nat) (v : α) (l : List (Nat × α)) (h : RisingIndices l) :
    RisingIndices (insertEntry k v l) := by
  induction l with
  | nil => simp [insertEntry, RisingIndices]
  | cons a rest ih =>
    obtain ⟨j, w⟩ := a
    have hr := List.pairwise_cons.1 h
    simp only [insertEntry]
    split
    · rename_i hk
      refine List.pairwise_cons.2 ⟨?_, h⟩
      intro e he
      rcases List.mem_cons.1 he with rfl | he
      · exact hk
      · exact lt_trans hk (hr.1 e he)
    · split
      · rename_i hk
        subst hk
        exact List.pairwise_cons.2 ⟨hr.1, hr.2⟩
      · refine List.pairwise_cons.2 ⟨?_, ih hr.2⟩
        intro e he
        rcases mem_insertEntry he with rfl | he
        · dsimp only; omega
        · exact hr.1 e he

/-- A write keeps the canonical form. -/
theorem Table.wf_put [DecidableEq α] {t : Table α} {reset : α} (h : t.wf reset = true) (k : Nat) (v : α) :
    (t.put reset k v).wf reset = true := by
  simp only [Table.wf, Bool.and_eq_true, indicesRise_iff, List.all_eq_true, decide_eq_true_eq] at h ⊢
  simp only [Table.put]
  split
  · exact ⟨h.1.filter _, fun e he => h.2 e (List.mem_filter.1 he).1⟩
  · rename_i hv
    refine ⟨rising_insertEntry k v _ h.1, fun e he => ?_⟩
    rcases mem_insertEntry he with rfl | he
    · exact hv
    · exact h.2 e he

/-- An empty table is in the canonical form. -/
theorem Table.wf_empty [DecidableEq α] (reset : α) : (Table.empty : Table α).wf reset = true := rfl

/-- A change of every listed record keeps the canonical form when it never gives the reset record. -/
theorem Table.wf_mapListed [DecidableEq α] {t : Table α} {reset : α} {f : α → α} (h : t.wf reset = true)
    (hf : ∀ v, v ≠ reset → f v ≠ reset) : (t.mapListed f).wf reset = true := by
  simp only [Table.wf, Bool.and_eq_true, indicesRise_iff, List.all_eq_true, decide_eq_true_eq] at h ⊢
  simp only [Table.mapListed]
  refine ⟨?_, ?_⟩
  · exact List.pairwise_map.2 h.1
  · intro e he
    obtain ⟨a, ha, rfl⟩ := List.mem_map.1 he
    exact hf _ (h.2 a ha)

end Sys2Proof.Machine
end

