-- ==== Sys2Proof/Laws/Flags.lean ====
section
/-! SUPPORT. The operations on flags, the return queue and the lamps: which units they leave alone, and what they do to
the return line. -/

namespace Sys2Proof.Machine

/-! ### setLatched -/

@[simp] theorem State.setLatched_pending (s : State) (i : StatusItem) (b : Bool) : (s.setLatched i b).pending = s.pending := by rfl
@[simp] theorem State.setLatched_ext (s : State) (i : StatusItem) (b : Bool) : (s.setLatched i b).ext = s.ext := by rfl
@[simp] theorem State.setLatched_scan (s : State) (i : StatusItem) (b : Bool) : (s.setLatched i b).scan = s.scan := by rfl
@[simp] theorem State.setLatched_engine (s : State) (i : StatusItem) (b : Bool) : (s.setLatched i b).engine = s.engine := by rfl
@[simp] theorem State.setLatched_claims (s : State) (i : StatusItem) (b : Bool) : (s.setLatched i b).claims = s.claims := by rfl
@[simp] theorem State.setLatched_pool (s : State) (i : StatusItem) (b : Bool) : (s.setLatched i b).pool = s.pool := by rfl
@[simp] theorem State.setLatched_router (s : State) (i : StatusItem) (b : Bool) : (s.setLatched i b).router = s.router := by rfl
@[simp] theorem State.setLatched_sequencer (s : State) (i : StatusItem) (b : Bool) : (s.setLatched i b).sequencer = s.sequencer := by rfl
@[simp] theorem State.setLatched_expression (s : State) (i : StatusItem) (b : Bool) : (s.setLatched i b).expression = s.expression := by rfl
@[simp] theorem State.setLatched_chambers (s : State) (i : StatusItem) (b : Bool) : (s.setLatched i b).chambers = s.chambers := by rfl
@[simp] theorem State.setLatched_freeCount (s : State) (i : StatusItem) (b : Bool) : (s.setLatched i b).freeCount = s.freeCount := by rfl

/-! ### setMasked -/

@[simp] theorem State.setMasked_pending (s : State) (i : StatusItem) (b : Bool) : (s.setMasked i b).pending = s.pending := by rfl
@[simp] theorem State.setMasked_ext (s : State) (i : StatusItem) (b : Bool) : (s.setMasked i b).ext = s.ext := by rfl
@[simp] theorem State.setMasked_scan (s : State) (i : StatusItem) (b : Bool) : (s.setMasked i b).scan = s.scan := by rfl
@[simp] theorem State.setMasked_engine (s : State) (i : StatusItem) (b : Bool) : (s.setMasked i b).engine = s.engine := by rfl
@[simp] theorem State.setMasked_claims (s : State) (i : StatusItem) (b : Bool) : (s.setMasked i b).claims = s.claims := by rfl
@[simp] theorem State.setMasked_pool (s : State) (i : StatusItem) (b : Bool) : (s.setMasked i b).pool = s.pool := by rfl
@[simp] theorem State.setMasked_router (s : State) (i : StatusItem) (b : Bool) : (s.setMasked i b).router = s.router := by rfl
@[simp] theorem State.setMasked_sequencer (s : State) (i : StatusItem) (b : Bool) : (s.setMasked i b).sequencer = s.sequencer := by rfl
@[simp] theorem State.setMasked_expression (s : State) (i : StatusItem) (b : Bool) : (s.setMasked i b).expression = s.expression := by rfl
@[simp] theorem State.setMasked_chambers (s : State) (i : StatusItem) (b : Bool) : (s.setMasked i b).chambers = s.chambers := by rfl
@[simp] theorem State.setMasked_freeCount (s : State) (i : StatusItem) (b : Bool) : (s.setMasked i b).freeCount = s.freeCount := by rfl

/-! ### setStretch -/

@[simp] theorem State.setStretch_pending (s : State) (i : StatusItem) (x : Option Nat) : (s.setStretch i x).pending = s.pending := by rfl
@[simp] theorem State.setStretch_ext (s : State) (i : StatusItem) (x : Option Nat) : (s.setStretch i x).ext = s.ext := by rfl
@[simp] theorem State.setStretch_scan (s : State) (i : StatusItem) (x : Option Nat) : (s.setStretch i x).scan = s.scan := by rfl
@[simp] theorem State.setStretch_engine (s : State) (i : StatusItem) (x : Option Nat) : (s.setStretch i x).engine = s.engine := by rfl
@[simp] theorem State.setStretch_claims (s : State) (i : StatusItem) (x : Option Nat) : (s.setStretch i x).claims = s.claims := by rfl
@[simp] theorem State.setStretch_pool (s : State) (i : StatusItem) (x : Option Nat) : (s.setStretch i x).pool = s.pool := by rfl
@[simp] theorem State.setStretch_router (s : State) (i : StatusItem) (x : Option Nat) : (s.setStretch i x).router = s.router := by rfl
@[simp] theorem State.setStretch_sequencer (s : State) (i : StatusItem) (x : Option Nat) : (s.setStretch i x).sequencer = s.sequencer := by rfl
@[simp] theorem State.setStretch_expression (s : State) (i : StatusItem) (x : Option Nat) : (s.setStretch i x).expression = s.expression := by rfl
@[simp] theorem State.setStretch_chambers (s : State) (i : StatusItem) (x : Option Nat) : (s.setStretch i x).chambers = s.chambers := by rfl
@[simp] theorem State.setStretch_freeCount (s : State) (i : StatusItem) (x : Option Nat) : (s.setStretch i x).freeCount = s.freeCount := by rfl

/-! ### startLine -/

@[simp] theorem startLine_pending (s : State) : (startLine s).pending = s.pending := by unfold startLine; split <;> rfl
@[simp] theorem startLine_ext (s : State) : (startLine s).ext = s.ext := by unfold startLine; split <;> rfl
@[simp] theorem startLine_scan (s : State) : (startLine s).scan = s.scan := by unfold startLine; split <;> rfl
@[simp] theorem startLine_engine (s : State) : (startLine s).engine = s.engine := by unfold startLine; split <;> rfl
@[simp] theorem startLine_claims (s : State) : (startLine s).claims = s.claims := by unfold startLine; split <;> rfl
@[simp] theorem startLine_pool (s : State) : (startLine s).pool = s.pool := by unfold startLine; split <;> rfl
@[simp] theorem startLine_router (s : State) : (startLine s).router = s.router := by unfold startLine; split <;> rfl
@[simp] theorem startLine_sequencer (s : State) : (startLine s).sequencer = s.sequencer := by unfold startLine; split <;> rfl
@[simp] theorem startLine_expression (s : State) : (startLine s).expression = s.expression := by unfold startLine; split <;> rfl
@[simp] theorem startLine_chambers (s : State) : (startLine s).chambers = s.chambers := by unfold startLine; split <;> rfl
@[simp] theorem startLine_freeCount (s : State) : (startLine s).freeCount = s.freeCount := by unfold startLine; split <;> rfl

/-! ### setFlag -/

@[simp] theorem setFlag_pending (i : StatusItem) (s : State) : (setFlag i s).pending = s.pending := by simp only [setFlag]; split <;> rfl
@[simp] theorem setFlag_ext (i : StatusItem) (s : State) : (setFlag i s).ext = s.ext := by simp only [setFlag]; split <;> rfl
@[simp] theorem setFlag_scan (i : StatusItem) (s : State) : (setFlag i s).scan = s.scan := by simp only [setFlag]; split <;> rfl
@[simp] theorem setFlag_engine (i : StatusItem) (s : State) : (setFlag i s).engine = s.engine := by simp only [setFlag]; split <;> rfl
@[simp] theorem setFlag_claims (i : StatusItem) (s : State) : (setFlag i s).claims = s.claims := by simp only [setFlag]; split <;> rfl
@[simp] theorem setFlag_pool (i : StatusItem) (s : State) : (setFlag i s).pool = s.pool := by simp only [setFlag]; split <;> rfl
@[simp] theorem setFlag_router (i : StatusItem) (s : State) : (setFlag i s).router = s.router := by simp only [setFlag]; split <;> rfl
@[simp] theorem setFlag_sequencer (i : StatusItem) (s : State) : (setFlag i s).sequencer = s.sequencer := by simp only [setFlag]; split <;> rfl
@[simp] theorem setFlag_expression (i : StatusItem) (s : State) : (setFlag i s).expression = s.expression := by simp only [setFlag]; split <;> rfl
@[simp] theorem setFlag_chambers (i : StatusItem) (s : State) : (setFlag i s).chambers = s.chambers := by simp only [setFlag]; split <;> rfl
@[simp] theorem setFlag_freeCount (i : StatusItem) (s : State) : (setFlag i s).freeCount = s.freeCount := by simp only [setFlag]; split <;> rfl

/-! ### overrun -/

@[simp] theorem overrun_pending (s : State) : (overrun s).pending = s.pending := by simp only [overrun]; split <;> simp
@[simp] theorem overrun_ext (s : State) : (overrun s).ext = s.ext := by simp only [overrun]; split <;> simp
@[simp] theorem overrun_scan (s : State) : (overrun s).scan = s.scan := by simp only [overrun]; split <;> simp
@[simp] theorem overrun_engine (s : State) : (overrun s).engine = s.engine := by simp only [overrun]; split <;> simp
@[simp] theorem overrun_claims (s : State) : (overrun s).claims = s.claims := by simp only [overrun]; split <;> simp
@[simp] theorem overrun_pool (s : State) : (overrun s).pool = s.pool := by simp only [overrun]; split <;> simp
@[simp] theorem overrun_router (s : State) : (overrun s).router = s.router := by simp only [overrun]; split <;> simp
@[simp] theorem overrun_sequencer (s : State) : (overrun s).sequencer = s.sequencer := by simp only [overrun]; split <;> simp
@[simp] theorem overrun_expression (s : State) : (overrun s).expression = s.expression := by simp only [overrun]; split <;> simp
@[simp] theorem overrun_chambers (s : State) : (overrun s).chambers = s.chambers := by simp only [overrun]; split <;> simp
@[simp] theorem overrun_freeCount (s : State) : (overrun s).freeCount = s.freeCount := by simp only [overrun]; split <;> simp

/-! ### offer -/

@[simp] theorem offer_pending (f : UpFrame) (s : State) : (offer f s).pending = s.pending := by simp only [offer]; split <;> simp
@[simp] theorem offer_ext (f : UpFrame) (s : State) : (offer f s).ext = s.ext := by simp only [offer]; split <;> simp
@[simp] theorem offer_scan (f : UpFrame) (s : State) : (offer f s).scan = s.scan := by simp only [offer]; split <;> simp
@[simp] theorem offer_engine (f : UpFrame) (s : State) : (offer f s).engine = s.engine := by simp only [offer]; split <;> simp
@[simp] theorem offer_claims (f : UpFrame) (s : State) : (offer f s).claims = s.claims := by simp only [offer]; split <;> simp
@[simp] theorem offer_pool (f : UpFrame) (s : State) : (offer f s).pool = s.pool := by simp only [offer]; split <;> simp
@[simp] theorem offer_router (f : UpFrame) (s : State) : (offer f s).router = s.router := by simp only [offer]; split <;> simp
@[simp] theorem offer_sequencer (f : UpFrame) (s : State) : (offer f s).sequencer = s.sequencer := by simp only [offer]; split <;> simp
@[simp] theorem offer_expression (f : UpFrame) (s : State) : (offer f s).expression = s.expression := by simp only [offer]; split <;> simp
@[simp] theorem offer_chambers (f : UpFrame) (s : State) : (offer f s).chambers = s.chambers := by simp only [offer]; split <;> simp
@[simp] theorem offer_freeCount (f : UpFrame) (s : State) : (offer f s).freeCount = s.freeCount := by simp only [offer]; split <;> simp

/-! ### announce -/

@[simp] theorem announce_pending (before s : State) : (announce before s).pending = s.pending := by unfold announce; split <;> [split <;> simp; rfl]
@[simp] theorem announce_ext (before s : State) : (announce before s).ext = s.ext := by unfold announce; split <;> [split <;> simp; rfl]
@[simp] theorem announce_scan (before s : State) : (announce before s).scan = s.scan := by unfold announce; split <;> [split <;> simp; rfl]
@[simp] theorem announce_engine (before s : State) : (announce before s).engine = s.engine := by unfold announce; split <;> [split <;> simp; rfl]
@[simp] theorem announce_claims (before s : State) : (announce before s).claims = s.claims := by unfold announce; split <;> [split <;> simp; rfl]
@[simp] theorem announce_pool (before s : State) : (announce before s).pool = s.pool := by unfold announce; split <;> [split <;> simp; rfl]
@[simp] theorem announce_router (before s : State) : (announce before s).router = s.router := by unfold announce; split <;> [split <;> simp; rfl]
@[simp] theorem announce_sequencer (before s : State) : (announce before s).sequencer = s.sequencer := by unfold announce; split <;> [split <;> simp; rfl]
@[simp] theorem announce_expression (before s : State) : (announce before s).expression = s.expression := by unfold announce; split <;> [split <;> simp; rfl]
@[simp] theorem announce_chambers (before s : State) : (announce before s).chambers = s.chambers := by unfold announce; split <;> [split <;> simp; rfl]
@[simp] theorem announce_freeCount (before s : State) : (announce before s).freeCount = s.freeCount := by unfold announce; split <;> [split <;> simp; rfl]

/-! ### latch -/

@[simp] theorem latch_pending (i : StatusItem) (s : State) : (latch i s).pending = s.pending := by simp [latch]
@[simp] theorem latch_ext (i : StatusItem) (s : State) : (latch i s).ext = s.ext := by simp [latch]
@[simp] theorem latch_scan (i : StatusItem) (s : State) : (latch i s).scan = s.scan := by simp [latch]
@[simp] theorem latch_engine (i : StatusItem) (s : State) : (latch i s).engine = s.engine := by simp [latch]
@[simp] theorem latch_claims (i : StatusItem) (s : State) : (latch i s).claims = s.claims := by simp [latch]
@[simp] theorem latch_pool (i : StatusItem) (s : State) : (latch i s).pool = s.pool := by simp [latch]
@[simp] theorem latch_router (i : StatusItem) (s : State) : (latch i s).router = s.router := by simp [latch]
@[simp] theorem latch_sequencer (i : StatusItem) (s : State) : (latch i s).sequencer = s.sequencer := by simp [latch]
@[simp] theorem latch_expression (i : StatusItem) (s : State) : (latch i s).expression = s.expression := by simp [latch]
@[simp] theorem latch_chambers (i : StatusItem) (s : State) : (latch i s).chambers = s.chambers := by simp [latch]
@[simp] theorem latch_freeCount (i : StatusItem) (s : State) : (latch i s).freeCount = s.freeCount := by simp [latch]

/-! ### holdLamps -/

@[simp] theorem holdLamps_pending (before s : State) : (holdLamps before s).pending = s.pending := by unfold holdLamps; split <;> simp
@[simp] theorem holdLamps_ext (before s : State) : (holdLamps before s).ext = s.ext := by unfold holdLamps; split <;> simp
@[simp] theorem holdLamps_scan (before s : State) : (holdLamps before s).scan = s.scan := by unfold holdLamps; split <;> simp
@[simp] theorem holdLamps_engine (before s : State) : (holdLamps before s).engine = s.engine := by unfold holdLamps; split <;> simp
@[simp] theorem holdLamps_claims (before s : State) : (holdLamps before s).claims = s.claims := by unfold holdLamps; split <;> simp
@[simp] theorem holdLamps_pool (before s : State) : (holdLamps before s).pool = s.pool := by unfold holdLamps; split <;> simp
@[simp] theorem holdLamps_router (before s : State) : (holdLamps before s).router = s.router := by unfold holdLamps; split <;> simp
@[simp] theorem holdLamps_sequencer (before s : State) : (holdLamps before s).sequencer = s.sequencer := by unfold holdLamps; split <;> simp
@[simp] theorem holdLamps_expression (before s : State) : (holdLamps before s).expression = s.expression := by unfold holdLamps; split <;> simp
@[simp] theorem holdLamps_chambers (before s : State) : (holdLamps before s).chambers = s.chambers := by unfold holdLamps; split <;> simp
@[simp] theorem holdLamps_freeCount (before s : State) : (holdLamps before s).freeCount = s.freeCount := by unfold holdLamps; split <;> simp

/-! ### announceLamps -/

@[simp] theorem announceLamps_pending (before s : State) : (announceLamps before s).pending = s.pending := by unfold announceLamps; split <;> [rfl; split <;> simp]
@[simp] theorem announceLamps_ext (before s : State) : (announceLamps before s).ext = s.ext := by unfold announceLamps; split <;> [rfl; split <;> simp]
@[simp] theorem announceLamps_scan (before s : State) : (announceLamps before s).scan = s.scan := by unfold announceLamps; split <;> [rfl; split <;> simp]
@[simp] theorem announceLamps_engine (before s : State) : (announceLamps before s).engine = s.engine := by unfold announceLamps; split <;> [rfl; split <;> simp]
@[simp] theorem announceLamps_claims (before s : State) : (announceLamps before s).claims = s.claims := by unfold announceLamps; split <;> [rfl; split <;> simp]
@[simp] theorem announceLamps_pool (before s : State) : (announceLamps before s).pool = s.pool := by unfold announceLamps; split <;> [rfl; split <;> simp]
@[simp] theorem announceLamps_router (before s : State) : (announceLamps before s).router = s.router := by unfold announceLamps; split <;> [rfl; split <;> simp]
@[simp] theorem announceLamps_sequencer (before s : State) : (announceLamps before s).sequencer = s.sequencer := by unfold announceLamps; split <;> [rfl; split <;> simp]
@[simp] theorem announceLamps_expression (before s : State) : (announceLamps before s).expression = s.expression := by unfold announceLamps; split <;> [rfl; split <;> simp]
@[simp] theorem announceLamps_chambers (before s : State) : (announceLamps before s).chambers = s.chambers := by unfold announceLamps; split <;> [rfl; split <;> simp]
@[simp] theorem announceLamps_freeCount (before s : State) : (announceLamps before s).freeCount = s.freeCount := by unfold announceLamps; split <;> [rfl; split <;> simp]

theorem foldl_keeps {α β : Type} (f : State → α → State) (get : State → β) (h : ∀ s a, get (f s a) = get s)
    (xs : List α) (s : State) : get (xs.foldl f s) = get s := by
  induction xs generalizing s with
  | nil => rfl
  | cons a rest ih => rw [List.foldl_cons, ih, h]

/-! ### clearGroup -/

@[simp] theorem clearGroup_pending (g : Nat) (s : State) : (clearGroup g s).pending = s.pending := by exact foldl_keeps (fun t i => State.setLatched t i false) (·.pending) (fun _ _ => rfl) _ _
@[simp] theorem clearGroup_ext (g : Nat) (s : State) : (clearGroup g s).ext = s.ext := by exact foldl_keeps (fun t i => State.setLatched t i false) (·.ext) (fun _ _ => rfl) _ _
@[simp] theorem clearGroup_scan (g : Nat) (s : State) : (clearGroup g s).scan = s.scan := by exact foldl_keeps (fun t i => State.setLatched t i false) (·.scan) (fun _ _ => rfl) _ _
@[simp] theorem clearGroup_engine (g : Nat) (s : State) : (clearGroup g s).engine = s.engine := by exact foldl_keeps (fun t i => State.setLatched t i false) (·.engine) (fun _ _ => rfl) _ _
@[simp] theorem clearGroup_claims (g : Nat) (s : State) : (clearGroup g s).claims = s.claims := by exact foldl_keeps (fun t i => State.setLatched t i false) (·.claims) (fun _ _ => rfl) _ _
@[simp] theorem clearGroup_pool (g : Nat) (s : State) : (clearGroup g s).pool = s.pool := by exact foldl_keeps (fun t i => State.setLatched t i false) (·.pool) (fun _ _ => rfl) _ _
@[simp] theorem clearGroup_router (g : Nat) (s : State) : (clearGroup g s).router = s.router := by exact foldl_keeps (fun t i => State.setLatched t i false) (·.router) (fun _ _ => rfl) _ _
@[simp] theorem clearGroup_sequencer (g : Nat) (s : State) : (clearGroup g s).sequencer = s.sequencer := by exact foldl_keeps (fun t i => State.setLatched t i false) (·.sequencer) (fun _ _ => rfl) _ _
@[simp] theorem clearGroup_expression (g : Nat) (s : State) : (clearGroup g s).expression = s.expression := by exact foldl_keeps (fun t i => State.setLatched t i false) (·.expression) (fun _ _ => rfl) _ _
@[simp] theorem clearGroup_chambers (g : Nat) (s : State) : (clearGroup g s).chambers = s.chambers := by exact foldl_keeps (fun t i => State.setLatched t i false) (·.chambers) (fun _ _ => rfl) _ _
@[simp] theorem clearGroup_freeCount (g : Nat) (s : State) : (clearGroup g s).freeCount = s.freeCount := by exact foldl_keeps (fun t i => State.setLatched t i false) (·.freeCount) (fun _ _ => rfl) _ _

/-! ### releaseHeld -/

@[simp] theorem releaseHeld_pending (s : State) : (releaseHeld s).pending = s.pending := by 
  simp only [releaseHeld, State.setStatus_pending]
  rw [foldl_keeps _ (fun t => t.pending) (fun t x => offer_pending (t.lampFrame x) t)]
  split <;> simp
@[simp] theorem releaseHeld_ext (s : State) : (releaseHeld s).ext = s.ext := by 
  simp only [releaseHeld, State.setStatus_ext]
  rw [foldl_keeps _ (fun t => t.ext) (fun t x => offer_ext (t.lampFrame x) t)]
  split <;> simp
@[simp] theorem releaseHeld_scan (s : State) : (releaseHeld s).scan = s.scan := by 
  simp only [releaseHeld, State.setStatus_scan]
  rw [foldl_keeps _ (fun t => t.scan) (fun t x => offer_scan (t.lampFrame x) t)]
  split <;> simp
@[simp] theorem releaseHeld_engine (s : State) : (releaseHeld s).engine = s.engine := by 
  simp only [releaseHeld, State.setStatus_engine]
  rw [foldl_keeps _ (fun t => t.engine) (fun t x => offer_engine (t.lampFrame x) t)]
  split <;> simp
@[simp] theorem releaseHeld_claims (s : State) : (releaseHeld s).claims = s.claims := by 
  simp only [releaseHeld, State.setStatus_claims]
  rw [foldl_keeps _ (fun t => t.claims) (fun t x => offer_claims (t.lampFrame x) t)]
  split <;> simp
@[simp] theorem releaseHeld_pool (s : State) : (releaseHeld s).pool = s.pool := by 
  simp only [releaseHeld, State.setStatus_pool]
  rw [foldl_keeps _ (fun t => t.pool) (fun t x => offer_pool (t.lampFrame x) t)]
  split <;> simp
@[simp] theorem releaseHeld_router (s : State) : (releaseHeld s).router = s.router := by 
  simp only [releaseHeld, State.setStatus_router]
  rw [foldl_keeps _ (fun t => t.router) (fun t x => offer_router (t.lampFrame x) t)]
  split <;> simp
@[simp] theorem releaseHeld_sequencer (s : State) : (releaseHeld s).sequencer = s.sequencer := by 
  simp only [releaseHeld, State.setStatus_sequencer]
  rw [foldl_keeps _ (fun t => t.sequencer) (fun t x => offer_sequencer (t.lampFrame x) t)]
  split <;> simp
@[simp] theorem releaseHeld_expression (s : State) : (releaseHeld s).expression = s.expression := by 
  simp only [releaseHeld, State.setStatus_expression]
  rw [foldl_keeps _ (fun t => t.expression) (fun t x => offer_expression (t.lampFrame x) t)]
  split <;> simp
@[simp] theorem releaseHeld_chambers (s : State) : (releaseHeld s).chambers = s.chambers := by 
  simp only [releaseHeld, State.setStatus_chambers]
  rw [foldl_keeps _ (fun t => t.chambers) (fun t x => offer_chambers (t.lampFrame x) t)]
  split <;> simp
@[simp] theorem releaseHeld_freeCount (s : State) : (releaseHeld s).freeCount = s.freeCount := by 
  simp only [releaseHeld, State.setStatus_freeCount]
  rw [foldl_keeps _ (fun t => t.freeCount) (fun t x => offer_freeCount (t.lampFrame x) t)]
  split <;> simp

/-! ### The return line -/

/-- R158: moving the oldest frame onto a free line leaves what is to leave, and its order, as it was. -/
@[simp] theorem startLine_outgoing (s : State) : (startLine s).outgoing = s.outgoing := by
  unfold startLine
  split
  · rename_i f rest hl hq
    simp [State.outgoing, hl, hq]
  · rfl

theorem setFlag_port (i : StatusItem) (s : State) : (setFlag i s).port = s.port := by
  simp only [setFlag]; split <;> rfl

theorem overrun_port (s : State) : (overrun s).port = s.port := by
  simp only [overrun]; split <;> simp [setFlag_port]

/-- R158: a frame offered to a queue with room stands last of what is to leave. -/
theorem offer_outgoing (f : UpFrame) (s : State) (h : s.port.returnQueue.length < Config.returnCapacity) :
    (offer f s).outgoing = s.outgoing ++ [f] := by
  rw [offer, if_pos h, startLine_outgoing]
  simp [State.outgoing]

/-- R158: a frame offered to a full queue is dropped. -/
theorem offer_full (f : UpFrame) (s : State) (h : ¬ s.port.returnQueue.length < Config.returnCapacity) :
    offer f s = overrun s := by
  rw [offer, if_neg h]

/-- The console port apart from the return line. -/
theorem startLine_port (s : State) : (startLine s).port =
    { s.port with returnQueue := (startLine s).port.returnQueue, line := (startLine s).port.line } := by
  unfold startLine; split <;> rfl

theorem startLine_status (s : State) : (startLine s).status = s.status := by
  unfold startLine; split <;> rfl

theorem offer_port (f : UpFrame) (s : State) : (offer f s).port =
    { s.port with returnQueue := (offer f s).port.returnQueue, line := (offer f s).port.line } := by
  simp only [offer]
  split
  · rw [startLine_port]; rfl
  · rw [overrun_port]

/-- Two statuses that differ at most in latched flags, stretches and what is held. -/
def Status.sameSettings (a b : Status) : Prop :=
  b = { a with latched := b.latched, stretch := b.stretch, heldNotice := b.heldNotice, heldLamps := b.heldLamps }

theorem Status.sameSettings.refl (a : Status) : a.sameSettings a := rfl

theorem Status.sameSettings.trans {a b c : Status} (h : a.sameSettings b) (k : b.sameSettings c) :
    a.sameSettings c := by
  unfold Status.sameSettings at *
  rw [k, h]

theorem setFlag_status (i : StatusItem) (s : State) : s.status.sameSettings (setFlag i s).status := by
  simp only [setFlag]; split <;> rfl

theorem overrun_status (s : State) : s.status.sameSettings (overrun s).status := by
  simp only [overrun]
  split
  · exact (setFlag_status _ s).trans rfl
  · exact setFlag_status _ s

theorem offer_status (f : UpFrame) (s : State) : s.status.sameSettings (offer f s).status := by
  simp only [offer]
  split
  · rw [startLine_status]; rfl
  · exact overrun_status s

/-- A latch changes nothing of the status but latched flags, stretches and what is held. -/
theorem latch_status (i : StatusItem) (s : State) : s.status.sameSettings (latch i s).status := by
  unfold latch announce
  split
  · split
    · exact (setFlag_status i s).trans rfl
    · exact (setFlag_status i s).trans (offer_status _ _)
  · exact setFlag_status i s

/-- What is to leave only grows at its end. -/
theorem offer_grows (f : UpFrame) (s : State) : ∃ later, (offer f s).outgoing = s.outgoing ++ later := by
  by_cases h : s.port.returnQueue.length < Config.returnCapacity
  · exact ⟨[f], offer_outgoing f s h⟩
  · refine ⟨[], ?_⟩
    rw [offer_full f s h, State.outgoing, overrun_port]
    simp [State.outgoing]

/-! ### Latched flags -/

theorem itemIndex_returnOverrun {i : StatusItem} (h : i ≠ .returnOverrun) : itemIndex i ≠ itemIndex .returnOverrun := by
  cases i <;> simp_all [itemIndex, itemNumber] <;> omega

theorem latched_of_status {s t : State} (h : t.status.latched = s.status.latched) (i : StatusItem) :
    t.latched i = s.latched i := by
  simp [State.latched, h]

theorem setFlag_latched (i j : StatusItem) (s : State) :
    (setFlag i s).latched j = if itemIndex j = itemIndex i then true else s.latched j := by
  have h : (setFlag i s).latched j = (s.setLatched i true).latched j := by
    simp only [setFlag]
    split <;> rfl
  rw [h, State.latched, State.setLatched, State.setStatus_status, Table.get_put]
  rfl

theorem overrun_latched {i : StatusItem} (h : i ≠ .returnOverrun) (s : State) :
    (overrun s).latched i = s.latched i := by
  have hf : (setFlag .returnOverrun s).latched i = s.latched i := by
    rw [setFlag_latched, if_neg (itemIndex_returnOverrun h)]
  simp only [overrun]
  split
  · exact (latched_of_status (t := _) (s := setFlag .returnOverrun s) rfl i).trans hf
  · exact hf

theorem offer_latched {i : StatusItem} (h : i ≠ .returnOverrun) (f : UpFrame) (s : State) :
    (offer f s).latched i = s.latched i := by
  simp only [offer]
  split
  · exact latched_of_status (by rw [startLine_status]; rfl) i
  · exact overrun_latched h s

/-! ### Reports -/

theorem Chamber.sameLogic.refl (a : Chamber) : a.sameLogic a := rfl

theorem Chamber.sameLogic.trans {a b c : Chamber} (h : a.sameLogic b) (k : b.sameLogic c) : a.sameLogic c := by
  unfold Chamber.sameLogic at *
  rw [k, h]

theorem ReportsOnly.refl (s : State) : ReportsOnly s s :=
  ⟨rfl, rfl, rfl, rfl, rfl, rfl, rfl, rfl, rfl, fun _ => .refl _, rfl, rfl, fun _ _ => rfl, ⟨[], by simp⟩⟩

theorem ReportsOnly.trans {a b c : State} (h : ReportsOnly a b) (k : ReportsOnly b c) : ReportsOnly a c where
  pending := k.pending.trans h.pending
  ext := k.ext.trans h.ext
  scan := k.scan.trans h.scan
  engine := k.engine.trans h.engine
  claims := k.claims.trans h.claims
  pool := k.pool.trans h.pool
  router := k.router.trans h.router
  sequencer := k.sequencer.trans h.sequencer
  expression := k.expression.trans h.expression
  chambers c := (h.chambers c).trans (k.chambers c)
  port := by rw [k.port, h.port]
  status := by rw [k.status, h.status]
  flags i hi := (k.flags i hi).trans (h.flags i hi)
  outgoing := by
    obtain ⟨x, hx⟩ := h.outgoing
    obtain ⟨y, hy⟩ := k.outgoing
    exact ⟨x ++ y, by rw [hy, hx, List.append_assoc]⟩

/-- A report: every unit but port and status is untouched, and those change as `ReportsOnly` allows. -/
theorem reportsOnly_of {s t : State} (hp : t.pending = s.pending) (he : t.ext = s.ext) (hs : t.scan = s.scan)
    (hg : t.engine = s.engine) (hc : t.claims = s.claims) (hl : t.pool = s.pool) (hr : t.router = s.router)
    (hq : t.sequencer = s.sequencer) (hx : t.expression = s.expression) (hm : t.chambers = s.chambers)
    (port : t.port =
      { s.port with requests := t.port.requests, returnQueue := t.port.returnQueue, line := t.port.line })
    (status : s.status.sameSettings t.status) (flags : ∀ i, i ≠ .returnOverrun → t.latched i = s.latched i)
    (out : ∃ later, t.outgoing = s.outgoing ++ later) : ReportsOnly s t :=
  ⟨hp, he, hs, hg, hc, hl, hr, hq, hx, fun c => by rw [State.chamber, State.chamber, hm]; exact .refl _, port, status,
    flags, out⟩

theorem offer_reportsOnly (f : UpFrame) (s : State) : ReportsOnly s (offer f s) := by
  refine reportsOnly_of ?_ ?_ ?_ ?_ ?_ ?_ ?_ ?_ ?_ ?_ ?_ (offer_status f s) (fun i hi => offer_latched hi f s)
    (offer_grows f s) <;> try simp
  rw [offer_port]

theorem offer_requests (f : UpFrame) (s : State) : (offer f s).port.requests = s.port.requests := by
  rw [offer_port]

/-- A change of what is held is a report. -/
theorem held_reportsOnly (s : State) (notice : Bool) (lamps : List (BitVec 16)) :
    ReportsOnly s (s.setStatus { s.status with heldNotice := notice, heldLamps := lamps }) :=
  reportsOnly_of rfl rfl rfl rfl rfl rfl rfl rfl rfl rfl rfl rfl (fun _ _ => rfl) ⟨[], by simp [State.outgoing]⟩

theorem holdLamps_reportsOnly (before s : State) : ReportsOnly s (holdLamps before s) := by
  unfold holdLamps
  split
  · exact .refl s
  · exact held_reportsOnly s _ _

theorem holdLamps_port (before s : State) : (holdLamps before s).port = s.port := by
  unfold holdLamps; split <;> rfl

theorem announceLamps_reportsOnly (before s : State) : ReportsOnly s (announceLamps before s) := by
  unfold announceLamps
  split
  · exact .refl s
  · split
    · exact holdLamps_reportsOnly before s
    · exact offer_reportsOnly _ s

theorem announceLamps_requests (before s : State) : (announceLamps before s).port.requests = s.port.requests := by
  unfold announceLamps
  split
  · rfl
  · split
    · rw [holdLamps_port]
    · exact offer_requests _ s

/-- R168: with no lamp changed there is no LAMP frame. -/
theorem announceLamps_same {before s : State} (h : s.lampOutputs = before.lampOutputs) :
    announceLamps before s = s := by
  rw [announceLamps, if_pos h]

theorem releaseHeld_reportsOnly (s : State) : ReportsOnly s (releaseHeld s) := by
  have fold : ∀ (xs : List (BitVec 16)) (t : State),
      ReportsOnly t (xs.foldl (fun u outputs => offer (u.lampFrame outputs) u) t) := by
    intro xs
    induction xs with
    | nil => exact fun t => .refl t
    | cons x rest ih => exact fun t => (offer_reportsOnly _ t).trans (ih _)
  simp only [releaseHeld]
  split
  · exact ((offer_reportsOnly _ s).trans (fold _ _)).trans (held_reportsOnly _ _ _)
  · exact (fold _ _).trans (held_reportsOnly _ _ _)

theorem releaseHeld_requests (s : State) : (releaseHeld s).port.requests = s.port.requests := by
  have fold : ∀ (xs : List (BitVec 16)) (t : State),
      (xs.foldl (fun u outputs => offer (u.lampFrame outputs) u) t).port.requests = t.port.requests := by
    intro xs
    induction xs with
    | nil => exact fun t => rfl
    | cons x rest ih => exact fun t => (ih _).trans (offer_requests _ t)
  simp only [releaseHeld, State.setStatus_port, fold]
  split
  · exact offer_requests _ s
  · rfl

end Sys2Proof.Machine
end

