-- ==== Sys2Proof/Laws/Image.lean ====
section
/-! SUPPORT. The chamber transmitters, the end of a command and the end of a service: what they leave alone. -/

namespace Sys2Proof.Machine

/-! ### Chambers written -/

theorem chamber_setChamber (s : State) (c d : Nat) (x : Chamber) :
    (s.setChamber c x).chamber d = if d = c then x else s.chamber d := by
  simp [State.chamber, State.setChamber, Table.get_put]

@[simp] theorem chamber_setChamber_same (s : State) (c : Nat) (x : Chamber) : (s.setChamber c x).chamber c = x := by
  rw [chamber_setChamber, if_pos rfl]

/-- A chamber written with the same logic is a transmission. -/
theorem setChamber_reportsOnly (s : State) (c : Nat) (x : Chamber) (h : (s.chamber c).sameLogic x) :
    ReportsOnly s (s.setChamber c x) where
  pending := rfl
  ext := rfl
  scan := rfl
  engine := rfl
  claims := rfl
  pool := rfl
  router := rfl
  sequencer := rfl
  expression := rfl
  chambers d := by
    rw [chamber_setChamber]
    split
    · rename_i hd
      rw [hd]
      exact h
    · exact .refl _
  port := rfl
  status := rfl
  flags _ _ := rfl
  outgoing := ⟨[], by simp [State.outgoing, State.setChamber]⟩

/-! ### The transmitters (R144) -/

theorem startControl_sameLogic (ch : Chamber) : ch.sameLogic (startControl ch) := rfl

theorem startDrive_sameLogic (ch : Chamber) (g : Nat) (image : Image) : ch.sameLogic (startDrive ch g image) := rfl

theorem transmit_reportsOnly (c : Nat) (s : State) : ReportsOnly s (transmit c s) := by
  simp only [transmit]
  split
  · exact .refl s
  · split
    · exact setChamber_reportsOnly s c _ (startControl_sameLogic _)
    · split
      · exact setChamber_reportsOnly s c _ (startDrive_sameLogic _ _ _)
      · exact .refl s

/-- What the transmitter of a chamber does leaves every unit but the chambers as it was. -/
theorem transmit_setChambers (c : Nat) (s : State) : transmit c s = s.setChambers (transmit c s).chambers := by
  simp only [transmit]
  split
  · rfl
  · split
    · rfl
    · split <;> rfl

theorem transmitAll_setChambers (s : State) : transmitAll s = s.setChambers (transmitAll s).chambers := by
  have fold : ∀ (cs : List Nat) (t : State), forEach cs transmit t = t.setChambers (forEach cs transmit t).chambers := by
    intro cs
    induction cs with
    | nil => exact fun t => rfl
    | cons c rest ih =>
      intro t
      rw [show forEach (c :: rest) transmit t = forEach rest transmit (transmit c t) from rfl, ih, transmit_setChambers c t]
      rfl
  exact fold _ s

theorem transmitAll_reportsOnly (s : State) : ReportsOnly s (transmitAll s) := by
  have fold : ∀ (cs : List Nat) (t : State), ReportsOnly t (forEach cs transmit t) := by
    intro cs
    induction cs with
    | nil => exact fun t => .refl t
    | cons c rest ih => exact fun t => (transmit_reportsOnly c t).trans (ih _)
  exact fold _ s

@[simp] theorem transmitAll_port (s : State) : (transmitAll s).port = s.port := by
  rw [transmitAll_setChambers]; rfl

@[simp] theorem transmitAll_status (s : State) : (transmitAll s).status = s.status := by
  rw [transmitAll_setChambers]; rfl

@[simp] theorem transmitAll_outgoing (s : State) : (transmitAll s).outgoing = s.outgoing := by
  rw [State.outgoing, transmitAll_port]; rfl

/-- The end of a command is reports and transmissions alone. -/
theorem conclude_quietly (before s : State) : QuietlySame s (conclude before s) := by
  refine ⟨(announceLamps_reportsOnly before s).trans (transmitAll_reportsOnly _), ?_⟩
  rw [conclude, transmitAll_port, announceLamps_requests]

/-- The end of a command that has changed no lamp: transmissions alone. -/
theorem conclude_sameLamps {before s : State} (h : s.lampOutputs = before.lampOutputs) :
    conclude before s = transmitAll s := by
  rw [conclude, announceLamps_same h]

end Sys2Proof.Machine
end

