-- ==== Sys2Proof/Laws/Service.lean ====
section
/-! SUPPORT. The service of a request (R157, R161): what it answers and what it leaves alone. -/

namespace Sys2Proof.Machine

theorem outgoing_setPort_requests (s : State) (x : List Request) :
    (s.setPort { s.port with requests := x }).outgoing = s.outgoing := rfl

theorem outgoing_setFreeCount (s : State) (n : Nat) : (s.setFreeCount n).outgoing = s.outgoing := rfl

theorem sendReply_reportsOnly (tag : Byte) (reply : Reply) (s : State) : ReportsOnly s (sendReply tag reply s) :=
  offer_reportsOnly _ s

theorem leaveQueue_reportsOnly (s : State) : ReportsOnly s (leaveQueue s) :=
  reportsOnly_of rfl rfl rfl rfl rfl rfl rfl rfl rfl rfl rfl rfl (fun _ _ => rfl)
    ⟨[], by simp [leaveQueue, State.outgoing]⟩

theorem leaveQueue_outgoing (s : State) : (leaveQueue s).outgoing = s.outgoing := rfl

theorem finishService_reportsOnly (tag : Byte) (before : State) (acted : Served) :
    ReportsOnly acted.1 (finishService tag before acted) :=
  (holdLamps_reportsOnly before acted.1).trans <|
    (sendReply_reportsOnly tag acted.2 _).trans <| (releaseHeld_reportsOnly _).trans (leaveQueue_reportsOnly _)

theorem finishService_requests (tag : Byte) (before : State) (acted : Served) :
    (finishService tag before acted).port.requests = acted.1.port.requests.tail := by
  simp [finishService, leaveQueue, releaseHeld_requests, sendReply, offer_requests, holdLamps_port]

theorem strapByte_of_status {s t : State} (h : t.status.strap = s.status.strap) : t.strapByte = s.strapByte := by
  simp [State.strapByte, h]

theorem replyFrame_of_strap {s t : State} (h : t.status.strap = s.status.strap) (tag : Byte) (reply : Reply) :
    t.replyFrame tag reply = s.replyFrame tag reply := by
  simp [State.replyFrame, strapByte_of_status h]

theorem ReportsOnly.strap {s t : State} (h : ReportsOnly s t) : t.status.strap = s.status.strap := by
  rw [h.status]

theorem holdLamps_outgoing (before s : State) : (holdLamps before s).outgoing = s.outgoing := by
  rw [State.outgoing, holdLamps_port]; rfl

theorem sendReply_outgoing (tag : Byte) (reply : Reply) (s : State)
    (h : s.port.returnQueue.length < Config.returnCapacity) :
    (sendReply tag reply s).outgoing = s.outgoing ++ [s.replyFrame tag reply] := offer_outgoing _ s h

/-- The REPLY of a service stands next, and what was held follows it. -/
theorem finishService_outgoing (tag : Byte) (before : State) (acted : Served)
    (h : acted.1.port.returnQueue.length < Config.returnCapacity) :
    ∃ later, (finishService tag before acted).outgoing =
      acted.1.outgoing ++ acted.1.replyFrame tag acted.2 :: later := by
  have hroom : (holdLamps before acted.1).port.returnQueue.length < Config.returnCapacity := by
    rwa [holdLamps_port]
  obtain ⟨later, hlater⟩ := (releaseHeld_reportsOnly (sendReply tag acted.2 (holdLamps before acted.1))).outgoing
  refine ⟨later, ?_⟩
  rw [finishService, leaveQueue_outgoing, hlater, sendReply_outgoing _ _ _ hroom, holdLamps_outgoing,
    replyFrame_of_strap (holdLamps_reportsOnly before acted.1).strap, List.append_assoc]
  rfl

/-- A service whose acts have left the console port and the strap address alone answers the request at the head, and
ends as its acts have left the relay. -/
theorem serveHead_answers {serves : Request → Bool} {act : Bytes → State → Served} {s : State} {r : Request}
    {rest : List Request} (hr : s.port.requests = r :: rest) (hs : serves r = true)
    (hport : (act r.fields s).1.port = s.port) (hstrap : (act r.fields s).1.status.strap = s.status.strap) :
    ∃ t, serveHead serves act s = .next t ∧ Answered s t r.tag (act r.fields s).2 ∧
      ReportsOnly (act r.fields s).1 t := by
  refine ⟨transmitAll (finishService r.tag s (act r.fields s)), ?_, ⟨?_, ?_⟩, ?_⟩
  · simp only [serveHead, hr, hs, if_true]
  · rw [transmitAll_port, finishService_requests, hport]
  · intro hroom
    obtain ⟨later, hlater⟩ := finishService_outgoing r.tag s (act r.fields s) (by rwa [hport])
    refine ⟨later, ?_⟩
    rw [transmitAll_outgoing, hlater, replyFrame_of_strap hstrap]
    simp [State.outgoing, hport]
  · exact (finishService_reportsOnly _ _ _).trans (transmitAll_reportsOnly _)

/-- With no request of its own at the head, a service changes nothing (log 5). -/
theorem serveHead_nothing {serves : Request → Bool} {act : Bytes → State → Served} {s : State}
    (h : ∀ r, s.port.requests.head? = some r → serves r = false) : serveHead serves act s = .next s := by
  unfold serveHead
  split
  · rfl
  · rename_i r rest hr
    rw [if_neg (by simp [h r (by simp [hr])])]

end Sys2Proof.Machine
end

