-- ==== Sys2Proof/Laws/Keeps.lean ====
section
/-! SUPPORT. What playing leaves alone, said once for each operation: a property that the elementary updates keep is
kept by every operation made of them. A frame or an invariant follows by naming the property. -/

namespace Sys2Proof.Machine

variable {P : State → Prop}

theorem forEach_keeps {α : Type} {f : α → State → State} (h : ∀ x s, P s → P (f x s)) (xs : List α) (s : State)
    (hs : P s) : P (forEach xs f s) := by
  induction xs generalizing s with
  | nil => exact hs
  | cons x rest ih => exact ih _ (h x s hs)

/-! ### Reports -/

/-- The property is kept by frames offered, flags set and reports held. -/
structure KeptByReports (P : State → Prop) : Prop where
  offered : ∀ f s, P s → P (offer f s)
  flagged : ∀ i s, P s → P (setFlag i s)
  held : ∀ s notice lamps, P s → P (s.setStatus { s.status with heldNotice := notice, heldLamps := lamps })

namespace KeptByReports

theorem announce (k : KeptByReports P) (before s : State) (hs : P s) : P (Machine.announce before s) := by
  unfold Machine.announce
  split
  · split
    · exact k.held s true _ hs
    · exact k.offered _ s hs
  · exact hs

theorem latch (k : KeptByReports P) (i : StatusItem) (s : State) (hs : P s) : P (Machine.latch i s) :=
  k.announce s _ (k.flagged i s hs)

theorem holdLamps (k : KeptByReports P) (before s : State) (hs : P s) : P (Machine.holdLamps before s) := by
  unfold Machine.holdLamps
  split
  · exact hs
  · exact k.held s _ _ hs

theorem announceLamps (k : KeptByReports P) (before s : State) (hs : P s) : P (Machine.announceLamps before s) := by
  unfold Machine.announceLamps
  split
  · exact hs
  · split
    · exact k.holdLamps before s hs
    · exact k.offered _ s hs

theorem releaseHeld (k : KeptByReports P) (s : State) (hs : P s) : P (Machine.releaseHeld s) := by
  have fold : ∀ (xs : List (BitVec 16)) (t : State), P t →
      P (xs.foldl (fun u outputs => offer (u.lampFrame outputs) u) t) := by
    intro xs
    induction xs with
    | nil => exact fun t ht => ht
    | cons x rest ih => exact fun t ht => ih _ (k.offered _ t ht)
  simp only [Machine.releaseHeld]
  refine k.held _ _ _ (fold _ _ ?_)
  split
  · exact k.offered _ s hs
  · exact hs

end KeptByReports

/-- The property is kept by latching an item with its NOTICE, the one report that playing makes. -/
structure KeptByLatches (P : State → Prop) : Prop where
  latch : ∀ i s, P s → P (Machine.latch i s)

theorem KeptByReports.latches (k : KeptByReports P) : KeptByLatches P := ⟨k.latch⟩

/-- While a request is being served a latch holds its NOTICE, so playing leaves the console port alone (R167). -/
theorem port_keptByLatches {port : Port} (h : port.requests ≠ []) :
    KeptByLatches (fun s => s.port = port) where
  latch := by
    intro i s hs
    have hserving : (setFlag i s).serving = true := by
      rw [State.serving, setFlag_port, hs]
      simpa using h
    unfold Machine.latch Machine.announce
    split
    · exact (setFlag_port i s).trans hs
    · exact (setFlag_port i s).trans hs

/-! ### Claims and the pool -/

/-- A chamber whose guards, on-timers and cipher list alone have changed, the list not growing. -/
def Chamber.guardStep (a b : Chamber) : Prop :=
  b = { a with guards := b.guards, onTimers := b.onTimers, ciphers := b.ciphers } ∧
    b.ciphers.length ≤ a.ciphers.length

/-- The property is kept by latches, claims, guards, the pizzicato list and the pool. -/
structure KeptByNotes (P : State → Prop) : Prop extends KeptByLatches P where
  counted : ∀ s p n, P s → P (s.setClaimCount p n)
  guarded : ∀ s c x, (s.chamber c).guardStep x → P s → P (s.setChamber c x)
  pizzed : ∀ s l, l.length ≤ max s.claims.pizz.length Config.pizzCapacity → P s →
    P (s.setClaims { s.claims with pizz := l })
  pooled : ∀ s x, x.tremulants = s.pool.tremulants → P s → P (s.setPool x)

namespace KeptByNotes

theorem latchCipherChange (k : KeptByNotes P) (before s : State) (hs : P s) :
    P (Machine.latchCipherChange before s) := by
  unfold Machine.latchCipherChange
  split
  · exact hs
  · exact k.latch _ s hs

theorem clearGuard (k : KeptByNotes P) (p : Point) (s : State) (hs : P s) : P (Machine.clearGuard p s) :=
  k.latchCipherChange s _ (k.guarded s _ _ ⟨rfl, List.length_filter_le _ _⟩ hs)

theorem startOnTimer (k : KeptByNotes P) (p : Point) (s : State) (hs : P s) : P (Machine.startOnTimer p s) := by
  unfold Machine.startOnTimer
  split
  · split
    · split
      · exact k.guarded s _ _ ⟨rfl, le_refl _⟩ hs
      · exact hs
    · exact hs
  · exact hs

theorem addClaim (k : KeptByNotes P) (p : Point) (s : State) (hs : P s) : P (Machine.addClaim p s) := by
  simp only [Machine.addClaim]
  split
  · exact k.startOnTimer p _ (k.counted s p _ hs)
  · exact k.counted s p _ hs

theorem removeClaim (k : KeptByNotes P) (p : Point) (s : State) (hs : P s) : P (Machine.removeClaim p s) := by
  simp only [Machine.removeClaim]
  split
  · exact k.clearGuard p _ (k.counted s p _ hs)
  · exact k.counted s p _ hs

theorem setStrikeTimer (k : KeptByNotes P) (p : Point) (x : Option Nat) (s : State) (hs : P s) :
    P (s.setStrikeTimer p x) := k.pooled s _ rfl hs

theorem setGenerator (k : KeptByNotes P) (g : Nat) (x : Option Service) (s : State) (hs : P s) :
    P (s.setGenerator g x) := k.pooled s _ rfl hs

theorem setDemand (k : KeptByNotes P) (p : Point) (n : Nat) (s : State) (hs : P s) : P (s.setDemand p n) :=
  k.pooled s _ rfl hs

theorem setTremulantDemand (k : KeptByNotes P) (t n : Nat) (s : State) (hs : P s) : P (s.setTremulantDemand t n) :=
  k.pooled s _ rfl hs

theorem strike (k : KeptByNotes P) (p : Point) (s : State) (hs : P s) : P (Machine.strike p s) := by
  unfold Machine.strike
  split
  · exact hs
  · split
    · split
      · exact hs
      · exact k.setStrikeTimer p _ s hs
    · exact hs

theorem grant (k : KeptByNotes P) (g : Nat) (c : Client) (s : State) (hs : P s) : P (Machine.grant g c s) := by
  cases c with
  | struck p => exact k.setStrikeTimer p none _ (k.setGenerator g _ s hs)
  | tremulant t => exact k.setGenerator g _ s hs

theorem setWaiting (k : KeptByNotes P) (p : Point) (b : Bool) (s : State) (hs : P s) :
    P (Machine.setWaiting p b s) := by
  simp only [Machine.setWaiting]
  split
  · exact k.pooled s _ rfl hs
  · exact k.latch _ _ (k.pooled s _ rfl hs)

theorem steal (k : KeptByNotes P) (v : Nat × Point) (c : Client) (s : State) (hs : P s) :
    P (Machine.steal v c s) := k.grant _ _ _ (k.latch _ _ (k.setWaiting _ _ s hs))

theorem freeGenerator (k : KeptByNotes P) (g : Nat) (s : State) (hs : P s) : P (Machine.freeGenerator g s) := by
  unfold Machine.freeGenerator
  split
  · exact k.grant _ _ _ (k.setWaiting _ _ s hs)
  · exact k.setGenerator g none s hs

theorem demandRise (k : KeptByNotes P) (p : Point) (s : State) (hs : P s) : P (Machine.demandRise p s) := by
  unfold Machine.demandRise
  split
  · exact k.grant _ _ s hs
  · split
    · exact k.steal _ _ s hs
    · exact k.strike p _ (k.setWaiting _ _ s hs)

theorem tremulantRise (k : KeptByNotes P) (t : Nat) (s : State) (hs : P s) : P (Machine.tremulantRise t s) := by
  unfold Machine.tremulantRise
  split
  · exact k.grant _ _ s hs
  · split
    · exact k.steal _ _ s hs
    · exact hs

theorem demandFall (k : KeptByNotes P) (p : Point) (s : State) (hs : P s) : P (Machine.demandFall p s) := by
  unfold Machine.demandFall
  split
  · exact k.freeGenerator _ s hs
  · exact k.setWaiting _ _ s hs

theorem tremulantFall (k : KeptByNotes P) (t : Nat) (s : State) (hs : P s) : P (Machine.tremulantFall t s) := by
  unfold Machine.tremulantFall
  split
  · exact k.freeGenerator _ s hs
  · exact hs

theorem raiseDemand (k : KeptByNotes P) (p : Point) (s : State) (hs : P s) : P (Machine.raiseDemand p s) := by
  simp only [Machine.raiseDemand]
  split
  · exact k.demandRise p _ (k.setDemand p _ s hs)
  · exact k.setDemand p _ s hs

theorem lowerDemand (k : KeptByNotes P) (p : Point) (s : State) (hs : P s) : P (Machine.lowerDemand p s) := by
  simp only [Machine.lowerDemand]
  split
  · exact k.demandFall p _ (k.setDemand p _ s hs)
  · exact k.setDemand p _ s hs

theorem raiseTremulant (k : KeptByNotes P) (t : Nat) (s : State) (hs : P s) : P (Machine.raiseTremulant t s) := by
  simp only [Machine.raiseTremulant]
  split
  · exact k.tremulantRise t _ (k.setTremulantDemand t _ s hs)
  · exact k.setTremulantDemand t _ s hs

theorem lowerTremulant (k : KeptByNotes P) (t : Nat) (s : State) (hs : P s) : P (Machine.lowerTremulant t s) := by
  simp only [Machine.lowerTremulant]
  split
  · exact k.tremulantFall t _ (k.setTremulantDemand t _ s hs)
  · exact k.setTremulantDemand t _ s hs

theorem cancelStrikes (k : KeptByNotes P) (s : State) (hs : P s) : P (Machine.cancelStrikes s) :=
  k.pooled s _ rfl hs

theorem dropUnstruck (k : KeptByNotes P) (s : State) (hs : P s) : P (Machine.dropUnstruck s) :=
  k.pooled s _ rfl hs

/-! Couplings -/

theorem addPizz (k : KeptByNotes P) (e : PizzEntry) (s : State) (hs : P s) : P (Machine.addPizz e s) := by
  unfold Machine.addPizz
  split
  · refine k.pizzed s _ ?_ hs
    rw [List.length_append, List.length_singleton]
    omega
  · exact k.latch _ s hs

theorem deletePizz (k : KeptByNotes P) (r key n : Nat) (s : State) (hs : P s) : P (Machine.deletePizz r key n s) :=
  k.pizzed s _ (le_trans (List.length_filter_le _ _) (le_max_left _ _)) hs

theorem startCoupling (k : KeptByNotes P) (r key n : Nat) (s : State) (hs : P s) :
    P (Machine.startCoupling r key n s) := by
  simp only [Machine.startCoupling]
  split
  · exact hs
  · split
    · split
      · exact k.addClaim _ s hs
      · exact k.addPizz _ _ (k.addClaim _ s hs)
    · exact k.strike _ s hs
    · exact k.raiseDemand _ s hs
    all_goals exact hs

theorem endTonal (k : KeptByNotes P) (r key n : Nat) (p : Point) (s : State) (hs : P s) :
    P (Machine.endTonal r key n p s) := by
  unfold Machine.endTonal
  split
  · exact k.removeClaim p s hs
  · split
    · exact k.deletePizz _ _ _ s hs
    · exact k.deletePizz _ _ _ _ (k.removeClaim _ s hs)

theorem endCoupling (k : KeptByNotes P) (r key n : Nat) (s : State) (hs : P s) :
    P (Machine.endCoupling r key n s) := by
  simp only [Machine.endCoupling]
  split
  · exact hs
  · split
    · exact k.endTonal _ _ _ _ s hs
    · exact k.lowerDemand _ s hs
    all_goals exact hs

theorem startKey (k : KeptByNotes P) (r key : Nat) (s : State) (hs : P s) : P (Machine.startKey r key s) :=
  forEach_keeps (fun n t ht => k.startCoupling r key n t ht) _ s hs

theorem endKey (k : KeptByNotes P) (r key : Nat) (s : State) (hs : P s) : P (Machine.endKey r key s) :=
  forEach_keeps (fun n t ht => k.endCoupling r key n t ht) _ s hs

theorem startTuning (k : KeptByNotes P) (sel : TuningSelection) (key : Nat) (s : State) (hs : P s) :
    P (Machine.startTuning sel key s) := by
  unfold Machine.startTuning
  split
  · exact hs
  · split
    · exact k.addClaim _ s hs
    · exact k.strike _ s hs
    · exact hs

theorem endTuning (k : KeptByNotes P) (sel : TuningSelection) (key : Nat) (s : State) (hs : P s) :
    P (Machine.endTuning sel key s) := by
  unfold Machine.endTuning
  split
  · exact hs
  · split
    · exact k.removeClaim _ s hs
    · exact hs

theorem startTuningRow (k : KeptByNotes P) (sel : TuningSelection) (s : State) (hs : P s) :
    P (Machine.startTuningRow sel s) := forEach_keeps (fun key t ht => k.startTuning sel key t ht) _ s hs

theorem endTuningRow (k : KeptByNotes P) (sel : TuningSelection) (s : State) (hs : P s) :
    P (Machine.endTuningRow sel s) := forEach_keeps (fun key t ht => k.endTuning sel key t ht) _ s hs

theorem keyTransition (k : KeptByNotes P) (r key : Nat) (press : Bool) (s : State) (hs : P s) :
    P (Machine.keyTransition r key press s) := by
  unfold Machine.keyTransition
  split
  · exact hs
  · split
    · exact k.startKey r key s hs
    · exact k.endKey r key s hs
  · split
    · exact hs
    · split
      · split
        · exact k.startTuning _ key s hs
        · exact k.endTuning _ key s hs
      · exact hs

end KeptByNotes

/-! ### Players and routes -/

/-- A player written without growing its hold set beyond its capacity. -/
def holdsStep (old new : Option Run) : Prop :=
  ∀ run, new = some run →
    run.holds.length ≤ Config.playerHoldCapacity ∨ ∃ o, old = some o ∧ run.holds.length ≤ o.holds.length

/-- The property is kept by notes, players, route states and levels, mask demands, and a general release asked for. -/
structure KeptByEffects (P : State → Prop) : Prop extends KeptByNotes P where
  played : ∀ s n x, holdsStep (s.player n) x → P s → P (s.setPlayer n x)
  routed : ∀ s i x, x.fields = (s.route i).fields → P s → P (s.setRoute i x)
  demanded : ∀ s x, P s → P (s.setRouter { s.router with maskDemand := x })
  asked : ∀ s b, P s → P (s.setScan { s.scan with releaseDue := b })

namespace KeptByEffects

theorem stopPlayer (k : KeptByEffects P) (n : Nat) (s : State) (hs : P s) : P (Machine.stopPlayer n s) := by
  unfold Machine.stopPlayer
  split
  · exact hs
  · exact forEach_keeps (fun p t ht => k.removeClaim p t ht) _ _ (k.played s n none (fun _ h => nomatch h) hs)

theorem stopPlayers (k : KeptByEffects P) (ns : List Nat) (s : State) (hs : P s) :
    P (forEach ns Machine.stopPlayer s) := forEach_keeps (fun n t ht => k.stopPlayer n t ht) _ s hs

theorem applyAction (k : KeptByEffects P) (n : Nat) (a : Action) (s : State) (hs : P s) :
    P (Machine.applyAction n a s) := by
  unfold Machine.applyAction
  split
  · exact hs
  · rename_i run hrun
    dsimp only
    split
    · exact k.strike _ s hs
    · split
      · exact hs
      · split
        · exact k.latch _ s hs
        · rename_i hroom
          refine k.addClaim _ _ (k.played s n _ (fun r hr => .inl ?_) hs)
          cases hr
          simp only [List.length_append, List.length_singleton]
          omega
    · split
      · refine k.removeClaim _ _ (k.played s n _ (fun r hr => .inr ⟨run, hrun, ?_⟩) hs)
        cases hr
        exact List.length_filter_le _ _
      · exact hs

/-- A player whose hold set is kept. -/
theorem replay (k : KeptByEffects P) (n : Nat) (run new : Run) (s : State) (hrun : s.player n = some run)
    (hh : new.holds = run.holds) (hs : P s) : P (s.setPlayer n (some new)) :=
  k.played s n _ (fun r hr => .inr ⟨run, hrun, by cases hr; rw [hh]⟩) hs

theorem applyStep (k : KeptByEffects P) (n i : Nat) (s : State) (hs : P s) : P (Machine.applyStep n i s) := by
  unfold Machine.applyStep
  dsimp only
  have h1 : P (match s.player n with
      | none => s
      | some run => s.setPlayer n (some { run with step := i })) := by
    split
    · exact hs
    · rename_i run hrun
      exact k.replay n run _ s hrun rfl hs
  have h2 := forEach_keeps (fun a t ht => k.applyAction n a t ht) (s.stepRecord i).actions _ h1
  split
  · exact h2
  · rename_i run hrun
    exact k.replay n run _ _ hrun rfl h2

theorem takeFirstStep (k : KeptByEffects P) (n : Nat) (s : State) (hs : P s) : P (Machine.takeFirstStep n s) := by
  unfold Machine.takeFirstStep
  split
  · exact hs
  · split
    · exact k.stopPlayer n s hs
    · split
      · exact k.applyStep n _ s hs
      · exact k.stopPlayer n s hs

theorem moveOn (k : KeptByEffects P) (n : Nat) (s : State) (hs : P s) : P (Machine.moveOn n s) := by
  simp only [Machine.moveOn]
  split
  · exact hs
  · split
    · exact k.applyStep n _ s hs
    · split
      · exact k.takeFirstStep n s hs
      · exact k.stopPlayer n s hs

theorem assignPlayers (k : KeptByEffects P) (level : Bool) (input : Nat) (qs : List Nat) (s : State) (hs : P s) :
    P (Machine.assignPlayers level input qs s).2 := by
  induction qs generalizing s with
  | nil => exact hs
  | cons q rest ih =>
    simp only [Machine.assignPlayers]
    split
    · exact ih _ (k.latch _ s hs)
    · exact ih _ (k.played s _ _ (fun r hr => .inl (by cases hr; exact Nat.zero_le _)) hs)

theorem startDelivery (k : KeptByEffects P) (level : Bool) (input : Nat) (qs : List Nat) (s : State) (hs : P s) :
    P (Machine.startDelivery level input qs s) :=
  forEach_keeps (fun n t ht => k.takeFirstStep n t ht) _ _ (k.assignPlayers level input qs s hs)

theorem finishPlayer (k : KeptByEffects P) (n : Nat) (s : State) (hs : P s) : P (Machine.finishPlayer n s) := by
  unfold Machine.finishPlayer
  split
  · exact hs
  · rename_i run hrun
    exact k.replay n run _ s hrun rfl hs

theorem finishRunningOf (k : KeptByEffects P) (i : Nat) (s : State) (hs : P s) :
    P (Machine.finishRunningOf i s) := forEach_keeps (fun n t ht => k.finishPlayer n t ht) _ s hs

/-! Targets -/

theorem setRouteState (k : KeptByEffects P) (i : Nat) (x : RouteState) (timer : Option Nat) (s : State) (hs : P s) :
    P (Machine.setRouteState i x timer s) := k.routed s i _ rfl hs

theorem toggleSequences (k : KeptByEffects P) (i : Nat) (qs : List Nat) (s : State) (hs : P s) :
    P (Machine.toggleSequences i qs s) := by
  unfold Machine.toggleSequences
  split
  · exact k.stopPlayers _ s hs
  · exact k.startDelivery _ _ _ s hs

theorem deliver (k : KeptByEffects P) (i : Nat) (s : State) (hs : P s) : P (Machine.deliver i s) := by
  simp only [Machine.deliver]
  split
  · exact k.strike _ s hs
  · exact k.toggleSequences _ _ s hs
  · exact k.asked s true hs
  all_goals exact hs

theorem startHold (k : KeptByEffects P) (kind : HoldKind) (p : Point) (s : State) (hs : P s) :
    P (Machine.startHold kind p s) := by
  cases kind
  · exact k.addClaim p s hs
  · exact k.raiseDemand p s hs

theorem endHold (k : KeptByEffects P) (kind : HoldKind) (p : Point) (s : State) (hs : P s) :
    P (Machine.endHold kind p s) := by
  cases kind
  · exact k.removeClaim p s hs
  · exact k.lowerDemand p s hs

theorem startService (k : KeptByEffects P) (i : Nat) (s : State) (hs : P s) : P (Machine.startService i s) := by
  simp only [Machine.startService]
  split
  · exact k.startHold _ _ s hs
  all_goals
    split
    · exact k.startHold _ _ s hs
    · exact k.startHold _ _ s hs
    · exact k.startDelivery _ _ _ s hs
    all_goals exact hs

theorem endSequences (k : KeptByEffects P) (cause : EndCause) (i : Nat) (s : State) (hs : P s) :
    P (Machine.endSequences cause i s) := by
  cases cause
  · exact k.finishRunningOf i s hs
  · exact k.stopPlayers _ s hs
  · exact hs

theorem endService (k : KeptByEffects P) (cause : EndCause) (i : Nat) (s : State) (hs : P s) :
    P (Machine.endService cause i s) := by
  simp only [Machine.endService]
  split
  · exact k.endHold _ _ s hs
  all_goals
    split
    · exact k.endHold _ _ s hs
    · exact k.endHold _ _ s hs
    · exact k.endSequences cause i s hs
    all_goals exact hs

theorem beginLevel (k : KeptByEffects P) (i : Nat) (s : State) (hs : P s) : P (Machine.beginLevel i s) := by
  unfold Machine.beginLevel
  split
  · exact hs
  · exact k.startService i _ (k.setRouteState i _ _ s hs)

theorem activate (k : KeptByEffects P) (i : Nat) (s : State) (hs : P s) : P (Machine.activate i s) := by
  simp only [Machine.activate]
  split
  · simp only [Machine.activateEdge]
    split
    · exact hs
    · split
      · split
        · exact k.setRouteState i _ _ s hs
        · exact hs
      · exact k.deliver i s hs
  · split
    · exact k.beginLevel i s hs
    · exact hs
  · split
    · exact k.setRouteState i _ _ s hs
    · exact hs

theorem deactivate (k : KeptByEffects P) (i : Nat) (s : State) (hs : P s) : P (Machine.deactivate i s) := by
  simp only [Machine.deactivate]
  split
  · exact k.endService _ i _ (k.setRouteState i _ _ s hs)
  · exact k.strike _ _ (k.setRouteState i _ _ s hs)
  · exact k.endService _ i _ (k.setRouteState i _ _ s hs)
  · exact hs

theorem becomeMasked (k : KeptByEffects P) (i : Nat) (s : State) (hs : P s) : P (Machine.becomeMasked i s) := by
  simp only [Machine.becomeMasked]
  split
  · exact k.endService _ i _ (k.setRouteState i _ _ s hs)
  · exact k.setRouteState i _ _ s hs
  all_goals exact hs

theorem becomeUnmasked (k : KeptByEffects P) (i : Nat) (s : State) (hs : P s) : P (Machine.becomeUnmasked i s) := by
  simp only [Machine.becomeUnmasked]
  split
  · exact k.deliver i _ (k.setRouteState i _ _ s hs)
  · split
    · exact k.beginLevel i s hs
    · exact hs
  · split
    · exact k.setRouteState i _ _ s hs
    · exact hs
  · exact hs

theorem setLevel (k : KeptByEffects P) (i : Nat) (active : Bool) (s : State) (hs : P s) :
    P (Machine.setLevel i active s) := by
  simp only [Machine.setLevel]
  split
  · exact hs
  · split
    · exact k.activate i _ (k.routed s i _ rfl hs)
    · exact k.deactivate i _ (k.routed s i _ rfl hs)

theorem inputTransition (k : KeptByEffects P) (i : Nat) (press : Bool) (s : State) (hs : P s) :
    P (Machine.inputTransition i press s) := k.setLevel i _ s hs

theorem routerLinkLoss (k : KeptByEffects P) (s : State) (hs : P s) : P (Machine.routerLinkLoss s) :=
  forEach_keeps (fun i t ht => k.setLevel i false t ht) _ s hs

theorem raiseMask (k : KeptByEffects P) (g : Nat) (s : State) (hs : P s) : P (Machine.raiseMask g s) := by
  simp only [Machine.raiseMask]
  split
  · exact forEach_keeps (fun i t ht => k.becomeMasked i t ht) _ _ (k.demanded s _ hs)
  · exact k.demanded s _ hs

theorem lowerMask (k : KeptByEffects P) (g : Nat) (s : State) (hs : P s) : P (Machine.lowerMask g s) := by
  simp only [Machine.lowerMask]
  split
  · exact forEach_keeps (fun i t ht => k.becomeUnmasked i t ht) _ _ (k.demanded s _ hs)
  · exact k.demanded s _ hs

theorem routeReleased (k : KeptByEffects P) (i : Nat) (s : State) (hs : P s) : P (Machine.routeReleased i s) := by
  unfold Machine.routeReleased
  split
  · exact k.endService _ i _ (k.setRouteState i _ _ s hs)
  · exact k.setRouteState i _ _ s hs
  · exact k.setRouteState i _ _ s hs
  · exact hs

theorem routerReleased (k : KeptByEffects P) (s : State) (hs : P s) : P (Machine.routerReleased s) :=
  forEach_keeps (fun i t ht => k.routeReleased i t ht) _ s hs

theorem routerEnterPlay (k : KeptByEffects P) (s : State) (hs : P s) : P (Machine.routerEnterPlay s) := by
  refine forEach_keeps (fun i t ht => ?_) _ s hs
  simp only [Machine.routeEnterPlay]
  split
  · exact ht
  · split
    · exact ht
    · exact k.beginLevel i t ht
    · exact k.setRouteState i _ _ t ht

theorem routerLeavePlay (k : KeptByEffects P) (s : State) (hs : P s) : P (Machine.routerLeavePlay s) := by
  refine k.demanded _ _ (forEach_keeps (fun i t ht => ?_) _ s hs)
  unfold Machine.routeLeavePlay
  split
  · exact k.endService _ i _ (k.setRouteState i _ _ t ht)
  · exact k.setRouteState i _ _ t ht
  · exact k.setRouteState i _ _ t ht
  · exact ht

end KeptByEffects

/-! ### Rows, stops, releases, modes -/

/-- The property is kept by effects, active stop lists, the tuning hold set, and key and input rows. -/
structure KeptByPlaying (P : State → Prop) : Prop extends KeptByEffects P where
  listed : ∀ s x, P s → P (s.setEngine { s.engine with active := x })
  holding : ∀ s l, l.length ≤ s.claims.holds.length → P s → P (s.setClaims { s.claims with holds := l })
  rowed : ∀ s kind r x, kind ≠ .stop → P s → P (s.setRow kind r x)

namespace KeptByPlaying

theorem drawStop (k : KeptByPlaying P) (n : Nat) (s : State) (hs : P s) : P (Machine.drawStop n s) := by
  have join : P (joinList n s) := k.listed s _ hs
  simp only [Machine.drawStop]
  split
  · exact forEach_keeps (fun key t ht => k.startCoupling _ key n t ht) _ _ join
  · exact forEach_keeps (fun key t ht => k.startCoupling _ key n t ht) _ _ join
  · exact forEach_keeps (fun key t ht => k.startCoupling _ key n t ht) _ _ join
  · exact k.raiseTremulant _ s hs
  · exact k.raiseMask _ s hs
  · exact hs

theorem cancelStop (k : KeptByPlaying P) (n : Nat) (s : State) (hs : P s) : P (Machine.cancelStop n s) := by
  have ended : P (leaveList n (forEach (s.heldKeys (s.stop n).row) (fun key => Machine.endCoupling (s.stop n).row key n) s)) :=
    k.listed _ _ (forEach_keeps (fun key t ht => k.endCoupling _ key n t ht) _ s hs)
  simp only [Machine.cancelStop]
  split
  · exact ended
  · exact ended
  · exact ended
  · exact k.lowerTremulant _ s hs
  · exact k.lowerMask _ s hs
  · exact hs

theorem stopTransition (k : KeptByPlaying P) (n : Nat) (press : Bool) (s : State) (hs : P s) :
    P (Machine.stopTransition n press s) := by
  unfold Machine.stopTransition
  split
  · split
    · exact k.drawStop n s hs
    · exact k.cancelStop n s hs
  · exact hs

theorem emptyTuningHolds (k : KeptByPlaying P) (s : State) (hs : P s) : P (Machine.emptyTuningHolds s) :=
  forEach_keeps (fun p t ht => k.removeClaim p t ht) _ _ (k.holding s [] (Nat.zero_le _) hs)

theorem handRun (k : KeptByPlaying P) (kind : RowKind) (r : Nat) (run : List (Nat × Bool)) (s : State) (hs : P s) :
    P (Machine.handRun kind r run s) := by
  refine forEach_keeps (fun t u hu => ?_) _ s hs
  unfold Machine.handOn
  split
  · exact k.keyTransition _ _ _ u hu
  · exact k.stopTransition _ _ u hu
  · exact k.inputTransition _ _ u hu

theorem releaseRow (k : KeptByPlaying P) (kind : RowKind) (hk : kind ≠ .stop) (r : Nat) (s : State) (hs : P s) :
    P (Machine.releaseRow kind r s) := k.handRun _ _ _ _ (k.rowed s kind r _ hk hs)

theorem generalRelease (k : KeptByPlaying P) (s : State) (hs : P s) : P (Machine.generalRelease s) :=
  k.emptyTuningHolds _ (k.stopPlayers _ _ (k.routerReleased _
    (forEach_keeps (fun r t ht => k.releaseRow .input (by decide) r t ht) _ _
      (forEach_keeps (fun r t ht => k.releaseRow .key (by decide) r t ht) _ s hs))))

theorem releaseOnce (k : KeptByPlaying P) (s : State) (hs : P s) : P (Machine.releaseOnce s) := by
  unfold Machine.releaseOnce
  split
  · exact k.generalRelease _ (k.asked s false hs)
  · exact hs

theorem drainReleases (k : KeptByPlaying P) (s : State) (hs : P s) : P (Machine.drainReleases s) :=
  k.releaseOnce _ (k.releaseOnce s hs)

/-- R6 to R8: a frame for a row; a stop row is written only when one is named. -/
theorem takeRow (k : KeptByPlaying P) (kind : RowKind) (r : Nat) (image : Image) (s : State)
    (hstop : kind = .stop → ∀ x, P (s.setRow .stop r x)) (hs : P s) : P (Machine.takeRow kind r image s) := by
  refine k.handRun _ _ _ _ ?_
  by_cases hk : kind = .stop
  · subst hk
    exact hstop rfl _
  · exact k.rowed s kind r _ hk hs

theorem takeScan (k : KeptByPlaying P) (kind r : Nat) (image : Image) (s : State)
    (hstop : kind = 1 → ∀ x, P (s.setRow .stop r x)) (hs : P s) : P (Machine.takeScan kind r image s) := by
  unfold Machine.takeScan
  split
  · exact hs
  · rename_i kd hkd
    split
    · refine k.drainReleases _ (k.takeRow kd r image s (fun h => hstop ?_) hs)
      subst h
      unfold rowKindOf at hkd
      split at hkd <;> simp_all
    · exact hs

theorem loseRow (k : KeptByPlaying P) (kind : RowKind) (hk : kind ≠ .stop) (r : Nat) (s : State) (hs : P s) :
    P (Machine.loseRow kind r s) := k.handRun _ _ _ _ (k.rowed s kind r _ hk hs)

/-- R14: the clearing of the stop rows' candidates is the one part that reaches a stop row. -/
theorem scanLinkLoss (k : KeptByPlaying P) (hclear : ∀ r s, P s → P (clearRow .stop r s)) (s : State) (hs : P s) :
    P (Machine.scanLinkLoss s) := by
  unfold Machine.scanLinkLoss
  refine forEach_keeps (fun r t ht => k.rowed t .input r _ (by decide) ht) _ _ ?_
  refine forEach_keeps (fun r t ht => hclear r t ht) _ _ ?_
  refine forEach_keeps (fun r t ht => k.rowed t .key r _ (by decide) ht) _ _ ?_
  refine forEach_keeps (fun r t ht => k.loseRow .input (by decide) r t ht) _ _ ?_
  exact forEach_keeps (fun r t ht => k.loseRow .key (by decide) r t ht) _ s hs

theorem engineEnterPlay (k : KeptByPlaying P) (s : State) (hs : P s) : P (Machine.engineEnterPlay s) := by
  refine forEach_keeps (fun r t ht => forEach_keeps (fun key u hu => k.startKey r key u hu) _ t ht) _ _ ?_
  refine forEach_keeps (fun n t ht => ?_) _ s hs
  simp only [Machine.drawAtEntry]
  split
  · exact k.listed t _ ht
  · exact k.listed t _ ht
  · exact k.listed t _ ht
  · exact k.raiseTremulant _ t ht
  · exact k.demanded t _ ht
  · exact ht

theorem engineLeavePlay (k : KeptByPlaying P) (s : State) (hs : P s) : P (Machine.engineLeavePlay s) := by
  simp only [Machine.engineLeavePlay]
  refine forEach_keeps (fun n t ht => ?_) _ _ ?_
  · unfold Machine.cancelAtLeaving
    split
    · exact k.lowerTremulant _ t ht
    · exact ht
  · refine k.pizzed _ [] (Nat.zero_le _) (k.listed _ _ ?_)
    exact forEach_keeps (fun r t ht => forEach_keeps (fun key u hu => k.endKey r key u hu) _ t ht) _ s hs

theorem leavePlay (k : KeptByPlaying P) (s : State) (hs : P s) : P (Machine.leavePlay s) :=
  k.cancelStrikes _ (k.stopPlayers _ _ (k.routerLeavePlay _ (k.engineLeavePlay s hs)))

theorem leaveTune (k : KeptByPlaying P) (s : State) (hs : P s) : P (Machine.leaveTune s) := by
  refine k.cancelStrikes _ (k.emptyTuningHolds _ ?_)
  split
  · exact hs
  · exact k.endTuningRow _ s hs

theorem enterPlay (k : KeptByPlaying P) (s : State) (hs : P s) : P (Machine.enterPlay s) :=
  k.routerEnterPlay _ (k.engineEnterPlay s hs)

theorem liftAllGuards (k : KeptByPlaying P) (s : State) (hs : P s) : P (Machine.liftAllGuards s) :=
  k.latchCipherChange _ _
    (forEach_keeps (fun c t ht => k.guarded t c _ ⟨rfl, Nat.zero_le _⟩ ht) _ s hs)

theorem enterTune (k : KeptByPlaying P) (s : State) (hs : P s) : P (Machine.enterTune s) := by
  have h := k.liftAllGuards s hs
  simp only [Machine.enterTune, Machine.engineEnterTune]
  split
  · exact h
  · exact k.startTuningRow _ _ h

/-- R163: a MODE-SET, for a property that a change of the mode's value keeps as well. -/
theorem modeSet (k : KeptByPlaying P) (hmode : ∀ s m, P s → P (s.setStatus { s.status with mode := m })) (m : Mode)
    (s : State) (hs : P s) : P (Machine.modeSet m s).1 := by
  have set : ∀ (m : Mode) (t : State), P t → P (setMode m t) := by
    intro m t ht
    unfold setMode
    split
    · exact ht
    · exact k.latch _ _ (hmode t m ht)
  have leave : P (leaveMode s) := by
    simp only [leaveMode]
    split
    · exact set _ s hs
    · exact k.leavePlay _ (set _ s hs)
    · exact k.leaveTune _ (set _ s hs)
  have enter : ∀ t, P t → P (enterMode m t) := by
    intro t ht
    simp only [enterMode]
    split
    · exact set _ t ht
    · exact k.enterPlay _ (set _ t ht)
    · exact k.enterTune _ (set _ t ht)
  unfold Machine.modeSet
  split
  · exact hs
  · split
    · exact hs
    · split
      · exact leave
      · split
        · exact hs
        · exact enter _ leave

end KeptByPlaying

/-- While a request is being served, whatever it plays leaves the console port alone. -/
theorem port_keptByPlaying {port : Port} (h : port.requests ≠ []) : KeptByPlaying (fun s => s.port = port) where
  toKeptByLatches := port_keptByLatches h
  counted _ _ _ hs := hs
  guarded _ _ _ _ hs := hs
  pizzed _ _ _ hs := hs
  pooled _ _ _ hs := hs
  played _ _ _ _ hs := hs
  routed _ _ _ _ hs := hs
  demanded _ _ hs := hs
  asked _ _ hs := hs
  listed _ _ hs := hs
  holding _ _ _ hs := hs
  rowed s kind r x _ hs := by cases kind <;> exact hs

/-- Playing leaves the strap address alone. -/
theorem strap_keptByPlaying {strap : Fin 4} : KeptByPlaying (fun s => s.status.strap = strap) where
  latch i s hs := by rw [latch_status i s]; exact hs
  counted _ _ _ hs := hs
  guarded _ _ _ _ hs := hs
  pizzed _ _ _ hs := hs
  pooled _ _ _ hs := hs
  played _ _ _ _ hs := hs
  routed _ _ _ _ hs := hs
  demanded _ _ hs := hs
  asked _ _ hs := hs
  listed _ _ hs := hs
  holding _ _ _ hs := hs
  rowed s kind r x _ hs := by cases kind <;> exact hs

end Sys2Proof.Machine
end

