-- ==== Sys2Proof/Tests/Slice0.lean ====
section
/-! SUPPORT. Tests of single commands against the spec's worked sequences, and for every statement with hypotheses a
concrete state and operands that meet them. -/

namespace Sys2Proof.Machine

set_option Elab.async false

/-! ### Building states -/

/-- The state a command answers. -/
def after : Answer → State
  | .next t => t
  | .fault _ | .refused _ => State.reset

/-- The console link UP. -/
def linkUp : State := State.reset.setPort { resetPort with link := .up, timer := some 60 }

/-- The request at the head of the queue. -/
def headOf (code : Byte) (fields : Bytes) : Request := ⟨7#8, code, fields⟩

/-- The state with one request in its queue. -/
def asked (code : Byte) (fields : Bytes) (s : State) : State :=
  s.setPort { s.port with requests := [headOf code fields] }

theorem asked_head (code : Byte) (fields : Bytes) (s : State) :
    HeadIs (asked code fields s) (headOf code fields) code fields := ⟨rfl, rfl, rfl⟩

/-- The relay in a mode. -/
def inMode (m : Mode) (s : State) : State := s.setStatus { s.status with mode := m }

/-- Section 2.7: the Tibia. -/
def tibia : RankRecord := ⟨.pipe, 1, 0, -12, 97, 0, 20, 100, 50, 0⟩

/-- Section 2.7: the Concert Flute. -/
def flute : RankRecord := ⟨.pipe, 0, 400, -12, 97, 0, 20, 100, 50, 0⟩

/-- Section 2.7: the Vox Humana. -/
def vox : RankRecord := ⟨.pipe, 0, 200, 0, 73, 0, 20, 100, 50, 0⟩

/-- Sections 2.7 and 4.8: the Glockenspiel. -/
def glockenspiel : RankRecord := ⟨.struck, 2, 600, 24, 30, 4, 40, 120, 60, 0⟩

/-- Section 3.8: Solo Tibia 8'. -/
def tibia8 : StopRecord := ⟨.tonal, 4, 3, 0, .silent, .silent, none, none, 0, 0⟩

/-- Section 3.8: Solo Tibia Pizz 4', stop 135. -/
def tibiaPizz : StopRecord := { tibia8 with offset := 12, pizz := some 150 }

/-- In PLAY with the link UP: the Tibia as rank 3, the Glockenspiel as rank 9, and stops 128 and 135 on row 4's list. -/
def organ : State :=
  (((((inMode .play linkUp).setRank 3 tibia).setRank 9 glockenspiel).setStop 128 tibia8).setStop 135 tibiaPizz).setActive 4
    [128, 135]

/-- Section 1.8: key row 2 with key count 61 and confirm count 2, holding key 24 with a candidate of 24 and 31. -/
def great : State :=
  (linkUp.setKeySetting 2 ⟨61, 2⟩).setRow .key 2 ⟨0x1000000#64, some 0x81000000#64, 1, 0⟩

/-! ### Frames (chapter 11)

The check bytes below come from an implementation of R171 outside the model. -/

/-- R171: the check value of this polynomial and preset over the digits 1 to 9, as published for it. -/
theorem test_crc : crc [0x31, 0x32, 0x33, 0x34, 0x35, 0x36, 0x37, 0x38, 0x39] = 0x29B1#16 := by decide +kernel

/-- R171, R172: a HELLO, byte by byte. -/
theorem test_hello_received : receiveConsole [0x03#8, 0x00#8, 0x48#8, 0x5C#8] = .hello := by decide +kernel

/-- R170: keys 0 and 9 of key row 2: byte 0 holds bit 0, byte 1 bit 1. -/
theorem test_scan_received :
    receiveConsole
      [0x01#8, 0x0A#8, 0x00#8, 0x02#8, 0x01#8, 0x02#8, 0x00#8, 0x00#8, 0x00#8, 0x00#8, 0x00#8, 0x00#8, 0x64#8, 0xE6#8] =
        .scan 0#8 2#8 0x201#64 := by
  decide +kernel

/-- R170: a sample of two bytes comes most significant byte first. -/
theorem test_shoe_received : receiveConsole [0x02#8, 0x03#8, 0x01#8, 0x01#8, 0xF4#8, 0x65#8, 0xC9#8] = .shoe 1#8 500#16 := by decide +kernel

/-- R172: attention set in a frame from the console is an unknown type. -/
theorem test_attention_from_console_bad : receiveConsole [0x83#8, 0x00#8, 0x53#8, 0xC4#8] = .badFrame := by decide +kernel

/-- R172: a SCAN of nine payload bytes. -/
theorem test_short_scan_bad :
    receiveConsole (frameBytes 0x01#8 [0#8, 2#8, 1#8, 2#8, 0#8, 0#8, 0#8, 0#8, 0#8]) = .badFrame := by decide +kernel

/-- R172: check bytes that differ. -/
theorem test_crc_bad : receiveConsole [0x03#8, 0x00#8, 0x00#8, 0x00#8] = .badFrame := by decide +kernel

/-- R173: wind-ready is bit 0, board 8 is bit 0 of the second byte. -/
theorem test_chstatus_received :
    receiveChamber 2 [0x31#8, 0x03#8, 0x01#8, 0x00#8, 0x01#8, 0x0B#8, 0x7E#8] = .chstatus 2 true false 0x100#16 := by decide +kernel

/-- R159: a NOTICE from below with its attention flag set is good. -/
theorem test_notice_from_below :
    receiveBelow [0x93#8, 0x02#8, 0x01#8, 0x02#8, 0xA4#8, 0x90#8] =
      .extUpstreamFrame [0x93#8, 0x02#8, 0x01#8, 0x02#8, 0xA4#8, 0x90#8] := by decide +kernel

/-- R159: a type that no relay sends upward. -/
theorem test_scan_from_below_bad : receiveBelow (frameBytes 0x02#8 [1#8, 0#8, 0#8]) = .extBadFrame := by decide +kernel

/-! ### Well-formed commands -/

/-- R171: the fields of a REQUEST are at most 252 bytes. -/
theorem test_request_too_long :
    (Instr.request 0 1 1 (List.replicate 253 0)).wellFormed = false ∧
      (Instr.request 0 1 1 (List.replicate 252 0)).wellFormed = true := by decide +kernel

/-- R160: a frame from below that is an IDLE frame, or bad, is not an EXT_UPSTREAM_FRAME. -/
theorem test_upstream_refused :
    (Instr.extUpstreamFrame (frameBytes 0x05#8 [1#8])).wellFormed = false ∧
      (Instr.extUpstreamFrame [0x13#8]).wellFormed = false ∧
      (Instr.extUpstreamFrame (frameBytes 0x13#8 [1#8, 0#8])).wellFormed = true := by decide +kernel

/-! ### Rows (sections 1.8, 1.9) -/

/-- Section 1.8, step 6: the second frame of 24 and 31 is accepted. -/
theorem test_scan_accepts :
    (after (exec (.scan 0#8 2#8 0x81000000#64) great)).row .key 2 = ⟨0x81000000#64, none, 0, 0⟩ := by decide +kernel

/-- Section 1.8, step 4: a bounce is thrown away. -/
theorem test_scan_bounce :
    (after (exec (.scan 0#8 2#8 0x1000000#64) great)).row .key 2 = ⟨0x1000000#64, none, 0, 0⟩ := by decide +kernel

/-- Section 1.8, step 7: the held key joins the lockout. -/
theorem test_release_all_locks_out :
    (after (exec .releaseAll (asked 0x10#8 [] great))).row .key 2 = ⟨0, none, 0, 0x1000000#64⟩ := by decide +kernel

/-- Section 1.9, step 2: positions 6, 9, 11 replace 4, 9 on stop row 3. -/
theorem test_scan_stop_row :
    (after (exec (.scan 1#8 3#8 0xA40#64) (linkUp.setRow .stop 3 ⟨0x210#64, some 0xA40#64, 1, 0⟩))).row .stop 3 =
      ⟨0xA40#64, none, 0, 0⟩ := by decide +kernel

/-! ### The mapping (section 2.7) -/

/-- Section 2.7.1: n = 91 folds to 79, point 91; section 2.7.2: n = -18 without a borrow rank folds to 6, point 206. -/
theorem test_mapping_folds :
    noteTarget tibia none .silent .fold 91 = some ⟨1, 91⟩ ∧ noteTarget vox none .fold .silent (-18) = some ⟨0, 206⟩ := by
  decide +kernel

/-- Section 2.7.2: n = -7 is borrowed; n = -18 lies below the borrow rank too and is silent. -/
theorem test_mapping_borrows :
    noteTarget vox (some flute) .silent .silent (-7) = some ⟨0, 405⟩ ∧
      noteTarget vox (some flute) .fold .silent (-18) = none := by decide +kernel

/-! ### Playing (sections 3.8, 4.8) -/

/-- Section 3.8, t = 0: key 48 under stops 128 and 135 claims points 60 and 72. -/
theorem test_press_claims :
    (startKey 4 48 organ).claimCount ⟨1, 60⟩ = 1 ∧ (startKey 4 48 organ).claimCount ⟨1, 72⟩ = 1 ∧
      (startKey 4 48 organ).claims.pizz = [⟨4, 48, 135, ⟨1, 72⟩, 150, false⟩] := by decide +kernel

/-- Section 3.8, t = 150: the entry of key 48 expires. -/
theorem test_pizzicato_expires :
    (after (exec (.pizzicatoExpiry 4 48 135) (startKey 4 48 organ))).claims.pizz =
      [⟨4, 48, 135, ⟨1, 72⟩, 0, true⟩] := by decide +kernel

/-- Section 4.8, t = 0: a strike starts the timer with 40 ms. -/
theorem test_strike : (strike ⟨2, 600⟩ organ).strikeTimer ⟨2, 600⟩ = some 40 := by decide +kernel

/-- Section 4.8, t = 60: the grant cancels the timer and loads P 120 and A 60. -/
theorem test_grant :
    (raiseDemand ⟨2, 600⟩ (strike ⟨2, 600⟩ organ)).strikeTimer ⟨2, 600⟩ = none ∧
      (raiseDemand ⟨2, 600⟩ organ).generator 0 = some ⟨.struck ⟨2, 600⟩, 0, true, 120, 60⟩ := by decide +kernel

/-- Section 4.8, t = 120: the counter reaches 60. -/
theorem test_generator_level_off :
    (after (exec (.generatorLevelOff 0) (raiseDemand ⟨2, 600⟩ organ))).generator 0 =
      some ⟨.struck ⟨2, 600⟩, 60, false, 120, 60⟩ := by decide +kernel

/-! ### Expression (sections 7.3.1, 7.7) -/

/-- Section 7.3.1: a sample of 600 on the falling segment gives 414, and goal 2. -/
theorem test_level_falling :
    curveLevel [(0, 1000), (1023, 0)] 600 = 414 ∧ goalOf 4 0 414 0 = 2 ∧ goalOf 4 0 414 4 = 2 := by decide +kernel

/-- Section 7.7: the levels of samples 500, 470, 440, 900 and 100, and two of the goals. -/
theorem test_level_worked :
    [500, 470, 440, 900, 100].map (curveLevel [(0, 0), (100, 0), (900, 1000), (1023, 1000)]) =
        [500, 462, 425, 1000, 0] ∧
      goalOf 10 20 500 3 = 5 ∧ goalOf 10 20 462 5 = 5 ∧ goalOf 10 20 425 5 = 4 := by decide +kernel

/-- Section 7.7: channel 1 at stage 3. -/
def shutters : State :=
  linkUp.setChannel 1 ⟨⟨some 1, 10, 20, 80, 1000, [(0, 0), (100, 0), (900, 1000), (1023, 1000)]⟩, 3, 3, none⟩

/-- Section 7.7, t = 0: the idle channel moves to stage 4 at once. -/
theorem test_shoe_moves :
    ((after (exec (.shoe 1#8 500#16) shutters)).channel 1).stage = 4 ∧
      ((after (exec (.shoe 1#8 500#16) shutters)).channel 1).timer = some 80 := by decide +kernel

/-! ### Chambers (section 8.7) -/

/-- Chamber 0 in a state with its lines, the link PRESENT and the transmitter busy with a CONTROL frame. -/
def chamberIn (state : ChamberState) (blower supply : Bool) : State :=
  linkUp.setChamber 0 { resetChamber with
    state := state, blower := blower, supply := supply, present := true, tx := .control blower supply }

/-- Section 8.7, t = 0: a raise starts the wind timer with 15000. -/
theorem test_raise :
    ((after (exec .chamberRaise (asked 0x06#8 [0#8] (chamberIn .dark false false)))).chamber 0).windTimer =
      some 15000 := by decide +kernel

/-- Section 8.7, t = 2400: wind-ready turns the supply line on and starts the settle timer with 300. -/
theorem test_wind_ready :
    ((after (exec (.chstatus 0 true false 0) (chamberIn .blower true false))).chamber 0).state = .settle ∧
      ((after (exec (.chstatus 0 true false 0) (chamberIn .blower true false))).chamber 0).settleTimer = some 300 := by
  decide +kernel

/-- Section 8.7, t = 9000: loss of wind in ENABLED. -/
theorem test_wind_lost :
    ((after (exec (.chstatus 0 false true 0) (chamberIn .enabled true true))).chamber 0).state = .fault ∧
      ((after (exec (.chstatus 0 false true 0) (chamberIn .enabled true true))).chamber 0).blower = true := by decide +kernel

/-- Section 8.7, t = 9402: with the supply line off already the chamber is DARK at the drain's expiry. -/
theorem test_drained :
    ((after (exec (.drainTimerExpiry 0) ((chamberIn (.lowering .draining) true false).setChamber 0
      { (chamberIn (.lowering .draining) true false).chamber 0 with drainTimer := some 0 }))).chamber 0).state =
        .dark := by decide +kernel

/-! ### The link, requests, status (chapters 9 and 10) -/

/-- R153, R154: the HELLO-REPLY of a relay at strap address 0 is put on the line, and the link trains. -/
theorem test_hello :
    (after (exec .hello State.reset)).port.link = .training ∧
      (after (exec .hello State.reset)).outgoing.head? =
        some (.own 0x11#8 [0#8, 5#8, 1#8, 0x40#8, 96#8, 4#8, 48#8, 1#8]) := by decide +kernel

/-- R157: a fifth request is turned away with BUSY, code 1. -/
theorem test_busy :
    (after (exec (.request 0#8 9#8 1#8 [])
      (linkUp.setPort { linkUp.port with requests := List.replicate 4 (headOf 1#8 []) }))).outgoing =
        [.own 0x12#8 [0#8, 9#8, 1#8]] := by decide +kernel

/-- R161: ECHO. -/
theorem test_echo :
    (after (exec .echo (asked 0x01#8 [5#8, 6#8] linkUp))).outgoing = [.own 0x12#8 [0#8, 7#8, 0#8, 5#8, 6#8]] := by
  decide +kernel

/-- R19: note count 0 is field 5; the record is unchanged. -/
theorem test_rank_refused :
    (after (exec .tableWriteRank (asked 0x03#8
      [2#8, 0#8, 3#8, 1#8, 1#8, 0#8, 0#8, 0xF4#8, 0#8, 0#8, 20#8, 0#8, 100#8, 0#8, 50#8, 0#8, 0#8] linkUp))).outgoing =
        [.own 0x12#8 [0#8, 7#8, 4#8, 5#8]] := by decide +kernel

/-- R17, R174: the fourteen bytes of the Tibia, written out. -/
theorem test_rank_read :
    readRank [1#8, 1#8, 0#8, 0#8, 0xF4#8, 97#8, 0#8, 20#8, 0#8, 100#8, 0#8, 50#8, 0#8, 0#8] = .ok tibia := by rfl

/-- R161: a request code beyond 0x11 is BAD-RECORD, field 0. -/
theorem test_unknown_request :
    (after (exec .unknownRequest (asked 0x12#8 [] linkUp))).outgoing = [.own 0x12#8 [0#8, 7#8, 4#8, 0#8]] := by decide +kernel

/-- R163: TUNE with no selection is UNSET, code 8. -/
theorem test_tune_unset :
    (after (exec .modeSetTune (asked 0x02#8 [2#8] linkUp))).outgoing = [.own 0x12#8 [0#8, 7#8, 8#8]] := by decide +kernel

/-- Section 10.7, step 4: the NOTICE of MODE, group 0, follows the REPLY. -/
theorem test_mode_notice :
    (after (exec .modeSetConfig (asked 0x02#8 [0#8] (inMode .play linkUp)))).outgoing =
      [.own 0x12#8 [0#8, 7#8, 0#8], .own 0x13#8 [0#8, 1#8]] := by decide +kernel

/-- Section 10.7, step 1: a masked latch sends no NOTICE. -/
theorem test_masked_latch : (latch .genSteal (linkUp.setMasked .genSteal true)).outgoing = [] := by decide +kernel

/-- R166: STATUS-READ of group 3: two event items, the first latched. -/
theorem test_status_read :
    (after (exec .statusRead (asked 0x0A#8 [3#8] (linkUp.setLatched .seqNoPlayer true)))).outgoing =
      [.own 0x12#8 [0#8, 7#8, 0#8, 1#8, 0#8]] := by decide +kernel

/-- R158: 32 frames wait and one more is dropped. -/
theorem test_overrun :
    (after (exec (.extUpstreamFrame [1#8]) ((linkUp.setExt ⟨true, some 5, []⟩).setPort { linkUp.port with
      line := some ⟨.forwarded [], false⟩, returnQueue := List.replicate 32 (.forwarded []) }))).latched .returnOverrun =
        true := by decide +kernel

/-- R168: a turn of the blink clock darkens the one BLINK lamp and sends one LAMP frame. -/
theorem test_blink :
    (after (exec .blinkClockTurn (linkUp.setLamp 0 ⟨.blink, .link, false⟩))).outgoing =
      [.own 0x14#8 [0#8, 0#8, 0#8]] := by decide +kernel

/-- Section 5.10, t = 120: released before the split time, the entry taps. -/
def snare : State :=
  ((inMode .play linkUp).setRank 30 ⟨.struck, 3, 950, 0, 1, 9, 15, 60, 30, 0⟩).setRoute 40
    ⟨⟨.none, .split, false, false, false, 1, 0, 0, [], 30, 0, .roll, 30, 0, 200⟩, .measuring, true, some 80⟩

theorem test_split_taps :
    (inputTransition 40 false snare).strikeTimer ⟨3, 950⟩ = some 15 ∧
      ((inputTransition 40 false snare).route 40).state = .idle := by decide +kernel

/-- Section 5.10, t = 500: held beyond the split time, the entry rolls. -/
theorem test_split_rolls :
    (after (exec (.splitTimerExpiry 40) snare)).demandOf ⟨3, 950⟩ = 1 ∧
      (after (exec (.splitTimerExpiry 40) snare)).generator 0 = some ⟨.struck ⟨3, 950⟩, 0, true, 60, 30⟩ := by decide +kernel

/-! ### Witnesses: for each statement a state and operands that meet its hypotheses -/

theorem witness_StepTakesFrontCommand : (linkUp.setPending [.hello, .badFrame]).pending = [.hello, .badFrame] := rfl

/-- A half of the blink clock in progress, with the link timer running. -/
theorem witness_IdleStepTicksClocks_running :
    linkUp.pending = [] ∧ 2 ≤ linkUp.status.blinkLeft ∧ linkUp.port.timer = some (58 + 2) := by decide +kernel

/-- The last millisecond of a half, and of the link timer. -/
def lastTick : State :=
  (linkUp.setPort { linkUp.port with timer := some 1 }).setStatus { linkUp.status with blinkLeft := 1 }

theorem witness_IdleStepTicksClocks_last :
    lastTick.pending = [] ∧ lastTick.status.blinkLeft ≤ 1 ∧ lastTick.port.timer = some 1 ∧
      State.reset.pending = [] ∧ State.reset.port.timer = none := by decide +kernel

/-- Right after reset nothing is due in the next millisecond. -/
theorem witness_IdleStepTicksClocks_quiet : State.reset.pending = [] ∧ ∀ i, ¬State.reset.dueNext i := by
  refine ⟨rfl, fun i h => ?_⟩
  cases i <;> first
    | exact h
    | (obtain ⟨n, h, _⟩ := h
       have h : none = some n := h
       cases h)
    | (obtain ⟨n, h, hn⟩ := h
       have h : some 100 = some n := h
       injection h with h
       omega)
    | (have h : 0 + 1 = 18 := h; omega)
    | (have h : 10 ≤ 0 + 1 := h.2.2; omega)
    | (have h : 250 ≤ 1 := h; omega)

/-- A strike timer in its last millisecond. -/
theorem witness_IdleStepTicksClocks_due : (organ.setStrikeTimer ⟨2, 600⟩ (some 1)).dueNext (.strikeTimerExpiry 2 600) :=
  ⟨1, by decide +kernel, Nat.le_refl _⟩

/-- A sound link with a request and a frame waiting, and a command in the queue. -/
def busyLink : State :=
  (asked 0x01#8 [] linkUp).setPort
    { (asked 0x01#8 [] linkUp).port with
      badRun := 7, line := some ⟨.forwarded [], true⟩, returnQueue := [.forwarded []] }

theorem witness_LinksStaySound :
    LinksSound (busyLink.setPending [.badFrame]) ∧ ∃ t, step (busyLink.setPending [.badFrame]) = .next t :=
  ⟨by constructor <;> decide +kernel, _, rfl⟩

/-- Lists at their capacities: 64 pizzicato entries, 4 tuning holds. -/
def fullLists : State :=
  organ.setClaims ⟨.empty, List.replicate 64 ⟨4, 48, 135, ⟨1, 72⟩, 10, false⟩, List.replicate 4 ⟨1, 3⟩⟩

theorem witness_ListsStayBounded :
    ListsBounded (fullLists.setPending [.hello]) ∧ ∃ t, step (fullLists.setPending [.hello]) = .next t :=
  ⟨⟨by decide +kernel, by decide +kernel, (fun _ _ h => nomatch h), (fun _ => Nat.zero_le _), by decide +kernel⟩, _, rfl⟩

/-- With the Tibia as rank 3 and everything else at reset every record is in its ranges. -/
def oneRank : State := (linkUp.setRank 3 tibia).setPending [.hello]

theorem witness_RecordsStayInRange : RecordsInRange oneRank ∧ ∃ t, step oneRank = .next t := by
  refine ⟨⟨?_, ?_, ?_, ?_, ?_, ?_, ?_, ?_, ?_, ?_, ?_⟩, _, rfl⟩
  · intro r
    have h : oneRank.rank r = if 3 = r then tibia else resetRank := rfl
    rw [h, RankRecord.fits]
    split <;> decide +kernel
  · intro n
    show resetStop.fits
    exact ⟨by decide, by decide, by decide, by decide, (fun _ h => nomatch h), (fun _ h => nomatch h), by decide,
      by decide⟩
  · intro i
    show resetRouteFields.fits
    exact ⟨rfl, by decide, by decide, by unfold noteInRange; decide, by decide, by decide, by decide, by decide,
      by decide, by unfold noteInRange; decide, by decide, by unfold noteInRange; decide, by decide, by decide⟩
  · intro n
    show resetTremulant.fits
    unfold TremulantRecord.fits
    decide
  · intro c
    show resetCurve.fits
    exact ⟨(fun _ h => nomatch h), by decide, by decide, by decide, by decide, by decide, by decide, by decide, by decide,
      by decide, by decide⟩
  · intro i
    show resetStep.fits
    exact ⟨by decide, by decide, by decide, (fun _ h => nomatch h)⟩
  · exact (fun q _ h => nomatch h)
  · intro r
    show resetKeySetting.fits
    unfold KeySetting.fits
    decide
  · decide +kernel
  · intro c
    show (1 ≤ resetChamber.windTimeout ∧ resetChamber.windTimeout ≤ 60) ∧
      50 ≤ resetChamber.settle ∧ resetChamber.settle ≤ 2000
    decide
  · intro n
    show StatusItem.known .link
    unfold StatusItem.known
    decide

/-- Key row 2 of section 1.8 holds 24, with 24 and 31 seen once and 3 locked out. -/
def heldRow : State :=
  ((State.reset.setKeySetting 2 ⟨61, 2⟩).setRow .key 2 ⟨0x1000000#64, some 0x81000000#64, 1, 8#64⟩).setPending [.hello]

theorem heldRow_row (kind : RowKind) (r : Nat) :
    heldRow.row kind r = if kind = .key ∧ 2 = r then ⟨0x1000000#64, some 0x81000000#64, 1, 8#64⟩ else emptyRow := by
  cases kind
  · by_cases h : 2 = r
    · subst h; rfl
    · rw [if_neg (by simp [h])]
      exact if_neg h
  · rfl
  · rfl

theorem heldRow_empty {r : Nat} (h : r ≠ 2) : heldRow.row .key r = emptyRow := by
  rw [heldRow_row, if_neg (by simp [Ne.symm h])]

theorem witness_RowsStaySound : RowsSound heldRow ∧ ∃ t, step heldRow = .next t := by
  refine ⟨⟨?_, ?_, ?_, ?_, ?_, ?_⟩, _, rfl⟩
  · intro r
    by_cases h : r = 2
    · subst h; decide +kernel
    · rw [heldRow_empty h]; exact BitVec.zero_and
  · intro r
    by_cases h : r = 2
    · subst h; decide +kernel
    · rw [heldRow_empty h]; exact BitVec.zero_and
  · intro kind r hk
    rw [heldRow_row, if_neg (by simp [hk])]
    exact BitVec.zero_and
  · intro r
    exact BitVec.zero_and
  · intro kind r _
    rw [heldRow_row]
    split <;> decide
  · intro kind r
    rw [heldRow_row]
    split <;> decide

/-- In TUNE with one tuning hold. -/
def tuning : State :=
  (inMode .tune ((linkUp.setRank 3 tibia).setClaims ⟨.empty, [], [⟨1, 3⟩]⟩)).setPending [.hello]

theorem witness_PlayStateRestsOutsidePlay : QuietOutsidePlay tuning ∧ ∃ t, step tuning = .next t :=
  ⟨⟨fun _ _ => rfl, fun _ => rfl, fun _ _ _ => rfl, fun _ _ _ => rfl, fun _ _ => rfl, fun h => absurd rfl h,
    fun _ => ⟨List.nodup_nil, fun _ h => nomatch h⟩⟩, _, rfl⟩

/-- In PLAY with stops 128 and 135 drawn, on the list of row 4. -/
def listing : State := (organ.setRow .stop 4 ⟨0x81#64, none, 0, 0⟩).setPending [.hello]

theorem listing_active (r : Nat) : listing.active r = if 4 = r then [128, 135] else [] := rfl

theorem listing_nodup (r : Nat) : (listing.active r).Nodup := by
  rw [listing_active]
  split <;> decide

theorem witness_PlayStateRestsOutsidePlay_play : QuietOutsidePlay listing ∧ ∃ t, step listing = .next t := by
  have playing : listing.mode = .play := rfl
  refine ⟨⟨?_, ?_, ?_, ?_, ?_, fun _ => rfl, fun r => ⟨listing_nodup r, ?_⟩⟩, _, rfl⟩
  rotate_right
  · rw [listing_active]
    split
    · rename_i h
      subst h
      decide +kernel
    · exact fun _ h => nomatch h
  all_goals exact fun elsewhere => absurd playing elsewhere

theorem witness_FramesRoundTrip :
    (Instr.request 0 1 1 [5#8]).wellFormed = true ∧ consoleFrame (.request 0 1 1 [5#8]) =
        some (frameBytes 0x04#8 [0#8, 1#8, 1#8, 5#8]) ∧
      (0x13#8).toNat < 128 ∧ [0#8, 1#8].length ≤ 255 ∧ upstreamLengthOk (0x13#8).toNat [0#8, 1#8].length = true ∧
      upstreamLengthOk (0x05#8).toNat [0#8].length = true := by decide +kernel

theorem witness_TableRecordsRoundTrip : tibiaPizz.fits :=
  ⟨by decide, by decide, by decide, by decide, (fun _ h => nomatch h),
    (fun n h => by cases h; decide), by decide, by decide⟩

/-- R19, R26, R89, R74, R123, R107: records that can be sent, with the first bad field of each. -/
theorem witness_TableRecordsRoundTrip_bad :
    tibia.sendable ∧ firstBad 1 tibia.tests = none ∧
      ({ tibia with noteCount := 98 } : RankRecord).sendable ∧
      firstBad 1 ({ tibia with noteCount := 98 } : RankRecord).tests = some 5 ∧
      firstBad 1 ({ tibia with strikeTime := 100 } : RankRecord).tests = some 9 ∧
      firstBad 1 ({ tibiaPizz with row := 9 } : StopRecord).tests = some 2 ∧
      firstBad 1 ({ tibiaPizz with kind := .struck } : StopRecord).tests = some 8 ∧
      resetRouteFields.sendable ∧ firstBad 1 ({ resetRouteFields with group := 4 } : RouteFields).tests = some 6 ∧
      (⟨0, 1024, 400, 200⟩ : TremulantRecord).sendable ∧
      firstBad 1 (⟨0, 1024, 400, 200⟩ : TremulantRecord).tests = some 2 ∧
      firstBad 1 ({ resetCurve with stageCount := 17 } : CurveRecord).tests = some 2 ∧
      (⟨.timed, 1001, []⟩ : StepRecord).sendable ∧ firstBad 1 (⟨.timed, 1001, []⟩ : StepRecord).tests = some 2 ∧
      fieldAt 1 [1, 1, 2, 1] 3 = 3 := by
  unfold RankRecord.sendable RouteFields.sendable TremulantRecord.sendable StepRecord.sendable byteHolds
  decide +kernel

/-- The two records with fields that may be absent. -/
theorem witness_TableRecordsRoundTrip_optional :
    ({ tibiaPizz with row := 9 } : StopRecord).sendable ∧ ({ resetCurve with stageCount := 17 } : CurveRecord).sendable :=
  ⟨⟨by decide, by decide, ⟨by decide, by decide⟩, (fun _ h => nomatch h), (fun n h => by cases h; decide), by decide, by decide⟩,
    (fun _ h => nomatch h), by decide⟩

/-- R175: note count 98 is field 5; step time 1001 is field 2; a byte after the last field of a TREMULANT is field 5; a CHAMBER
record that ends within its settle time breaks off in field 2; a LAMP whose item does not exist is field 2. -/
theorem test_first_bad_field :
    readRank (rankBytes { tibia with noteCount := 98 }) = .error 5 ∧ readStep (stepBytes ⟨.timed, 1001, []⟩) = .error 2 ∧
      readTremulant [0#8, 0#8, 5#8, 1#8, 144#8, 0#8, 200#8, 0#8] = .error 5 ∧ readChamber [15#8, 1#8] = .error 2 ∧
      readLamp [3#8, 3#8, 4#8, 0#8] = .error 2 ∧ readSeqEntry [1#8, 4#8, 0#8, 1#8] = .error 1 := by
  and_intros <;> rfl

/-- Notes -12 and -13 lie below the Vox Humana; the Concert Flute, which it borrows from, holds the first alone. -/
theorem witness_MappingFoldsOrSilences_borrow :
    vox.kind ≠ .none ∧ 1 ≤ vox.noteCount ∧ (-12 : Int) < vox.lowest ∧ flute.kind ≠ .none ∧ flute.lowest ≤ -12 ∧
      (-12 : Int) ≤ flute.lowest + flute.noteCount - 1 ∧ (-13 : Int) < flute.lowest := by decide

/-- Notes -13, -12, 84 and 85 of the Tibia: just below, lowest, highest, just above. -/
theorem witness_MappingFoldsOrSilences :
    tibia.kind ≠ .none ∧ 1 ≤ tibia.noteCount ∧ 12 ≤ tibia.noteCount ∧ (-13 : Int) < tibia.lowest ∧
      tibia.lowest ≤ -12 ∧ (84 : Int) ≤ tibia.lowest + tibia.noteCount - 1 ∧
      tibia.lowest + tibia.noteCount - 1 < (85 : Int) := by decide

theorem witness_TonalCouplingClaimsBalance :
    (organ.stop 128).kind = .tonal ∧ (organ.stop 128).pizz = none ∧ organ.pizzEntry 4 48 128 = none ∧
      organ.target (organ.stop 128).mapping 48 = some ⟨1, 60⟩ := by decide +kernel

/-- The organ with a STRUCK and a REITERATE stop of the Glockenspiel, 129 and 130, on row 4's list too. -/
def rattling : State :=
  ((organ.setStop 129 { tibia8 with kind := .struck, rank := 9 }).setStop 130
    { tibia8 with kind := .reiterate, rank := 9 }).setActive 4 [128, 129, 130]

/-- Key 48 is a bar of the Glockenspiel, and key 63 lies above it. -/
theorem witness_TonalCouplingClaimsBalance_struck :
    (rattling.stop 129).kind = .struck ∧ rattling.target (rattling.stop 129).mapping 48 = some ⟨2, 624⟩ ∧
      rattling.target (rattling.stop 129).mapping 63 = none ∧ (rattling.stop 130).kind = .reiterate ∧
      rattling.target (rattling.stop 130).mapping 48 = some ⟨2, 624⟩ ∧
      rattling.target (rattling.stop 130).mapping 63 = none := by decide +kernel

/-- A silent target; a pizzicato stop with room for its entry, and with none; its entry RUNNING, and SPENT. -/
theorem witness_TonalCouplingClaimsBalance_pizzicato :
    organ.target (organ.stop 128).mapping 63 ≠ none ∧ organ.target { tibia8 with offset := 48 }.mapping 63 = none ∧
      (organ.stop 135).kind = .tonal ∧ (organ.stop 135).pizz = some 150 ∧
      organ.target (organ.stop 135).mapping 48 = some ⟨1, 72⟩ ∧ organ.claims.pizz.length < 64 ∧
      64 ≤ fullLists.claims.pizz.length ∧ fullLists.target (fullLists.stop 135).mapping 48 = some ⟨1, 72⟩ ∧
      (startKey 4 48 organ).pizzEntry 4 48 135 = some ⟨4, 48, 135, ⟨1, 72⟩, 150, false⟩ ∧
      (after (exec (.pizzicatoExpiry 4 48 135) (startKey 4 48 organ))).pizzEntry 4 48 135 =
        some ⟨4, 48, 135, ⟨1, 72⟩, 0, true⟩ := by decide +kernel

theorem witness_DemandRiseIsGrantedOrWaits_idle :
    organ.rankOf ⟨2, 600⟩ = some 9 ∧ (organ.rank 9).kind = .struck ∧ organ.demandOf ⟨2, 600⟩ = 0 ∧
      organ.servedBy (.struck ⟨2, 600⟩) = none ∧ organ.idleGenerator = some 0 := by decide +kernel

/-- Every generator serves: one a bar of the same rank, the others a tremulant. -/
def noneIdle : State :=
  organ.setPool { organ.pool with
    generators := ⟨(List.range 32).map (fun g =>
      (g, some ⟨if g = 0 then .struck ⟨2, 601⟩ else .tremulant 0, 5, true, 120, 60⟩))⟩ }

theorem witness_DemandRiseIsGrantedOrWaits_waits :
    noneIdle.rankOf ⟨2, 600⟩ = some 9 ∧ (noneIdle.rank 9).kind = .struck ∧ noneIdle.demandOf ⟨2, 600⟩ = 0 ∧
      noneIdle.servedBy (.struck ⟨2, 600⟩) = none ∧ noneIdle.idleGenerator = none ∧
      (∀ v ∈ noneIdle.struckClients, noneIdle.priority ⟨2, 600⟩ ≤ noneIdle.priority v.2) ∧
      noneIdle.struckClients = [(0, ⟨2, 601⟩)] := by decide +kernel

/-- A second struck rank, of one point and of priority 9, above the Glockenspiel's 4. -/
def xylophone : RankRecord := ⟨.struck, 3, 950, 0, 1, 9, 15, 60, 30, 0⟩

/-- The generators as before, with the second struck rank, a unit of demand on the point served and on tremulant 0, and
another bar waiting. -/
def stealing : State :=
  (((noneIdle.setRank 30 xylophone).setDemand ⟨2, 601⟩ 1).setTremulantDemand 0 1).setPool
    { (((noneIdle.setRank 30 xylophone).setDemand ⟨2, 601⟩ 1).setTremulantDemand 0 1).pool with
      waiting := ⟨[((⟨2, 602⟩ : Point).index, true)]⟩ }

/-- Point 950 of chamber 3 steals from the Glockenspiel's bar, and so does the rise of tremulant 1. -/
theorem witness_DemandRiseIsGrantedOrWaits_steals :
    stealing.rankOf ⟨3, 950⟩ = some 30 ∧ (stealing.rank 30).kind = .struck ∧ stealing.demandOf ⟨3, 950⟩ = 0 ∧
      stealing.servedBy (.struck ⟨3, 950⟩) = none ∧ stealing.idleGenerator = none ∧
      stealing.struckClients = [(0, ⟨2, 601⟩)] ∧ stealing.priority ⟨2, 601⟩ < stealing.priority ⟨3, 950⟩ ∧
      noneIdle.waitingAny = false ∧ stealing.tremulantDemand 1 = 0 ∧ organ.idleGenerator = some 0 ∧
      organ.tremulantDemand 1 = 0 := by decide +kernel

/-- Demands that fall to 0: a served point's, with another waiting and with none; one that is not served; a
tremulant's. -/
theorem witness_DemandRiseIsGrantedOrWaits_falls :
    stealing.demandOf ⟨2, 601⟩ = 1 ∧ stealing.servedBy (.struck ⟨2, 601⟩) = some 0 ∧
      stealing.isWaiting ⟨2, 602⟩ = true ∧ stealing.rankOf ⟨2, 602⟩ = some 9 ∧
      (noneIdle.setDemand ⟨2, 601⟩ 1).demandOf ⟨2, 601⟩ = 1 ∧ (noneIdle.setDemand ⟨2, 601⟩ 1).waitingAny = false ∧
      (stealing.setDemand ⟨2, 602⟩ 1).demandOf ⟨2, 602⟩ = 1 ∧
      (stealing.setDemand ⟨2, 602⟩ 1).servedBy (.struck ⟨2, 602⟩) = none ∧ stealing.tremulantDemand 0 = 1 ∧
      stealing.servedBy (.tremulant 0) = some 1 := by decide +kernel

/-- In that state the waiting set is in its form, and the one point waiting has the highest priority. -/
theorem witness_GeneratorFreed_waits :
    ListsBounded stealing ∧ ∀ w : Point, stealing.isWaiting w = true → w.index = (⟨2, 602⟩ : Point).index := by
  refine ⟨⟨by decide +kernel, by decide +kernel, (fun _ _ h => nomatch h), (fun _ => Nat.zero_le _),
    by decide +kernel⟩, ?_⟩
  intro w h
  by_cases hw : w.index = (⟨2, 602⟩ : Point).index
  · exact hw
  · have h' : stealing.isWaiting w = if (⟨2, 602⟩ : Point).index = w.index then true else false := rfl
    rw [h', if_neg (Ne.symm hw)] at h
    exact absurd h (by decide)

/-- The organ with chambers 1 and 2 ENABLED. -/
def sounding : State :=
  (organ.setChamber 1 { resetChamber with state := .enabled }).setChamber 2 { resetChamber with state := .enabled }

/-- Point 63 of chamber 1 is a pipe, point 600 of chamber 2 is struck, and chamber 0 is DARK. -/
theorem witness_NextImageShowsClaimsAndGuards :
    (63 < 64) ∧ (sounding.chamber 0).state ≠ .enabled ∧ (sounding.chamber 1).state = .enabled ∧
      sounding.isPipe ⟨1, 64 * 0 + 63⟩ = true ∧ (sounding.chamber 2).state = .enabled ∧
      sounding.isPipe ⟨2, 64 * 9 + 24⟩ = false ∧ sounding.isStruck ⟨2, 64 * 9 + 24⟩ = true := by decide +kernel

/-- With the reset tables, stage points of chamber 1's channel and the points that tremulant 0 beats on. -/
def swelling : State :=
  (sounding.setChannel 1 ⟨{ resetCurve with base := 640, stageCount := 16 }, 3, 3, none⟩).setTremulant 0 ⟨1, 700, 400, 200⟩

/-- Points 640 and 655 of chamber 1 are its first and last stage points, and 700 is the output of tremulant 0. -/
theorem witness_NextImageShowsClaimsAndGuards_others :
    (swelling.chamber 1).state = .enabled ∧ swelling.isPipe ⟨1, 64 * 10 + 0⟩ = false ∧
      swelling.isStruck ⟨1, 64 * 10 + 0⟩ = false ∧ 15 < (swelling.channel 1).record.stageCount ∧
      64 * 10 + 0 = (swelling.channel 1).record.base + 0 ∧ 64 * 10 + 15 = (swelling.channel 1).record.base + 15 ∧
      swelling.isPipe ⟨1, 64 * 10 + 60⟩ = false ∧ swelling.isStruck ⟨1, 64 * 10 + 60⟩ = false ∧
      (∀ k, k < 16 → 64 * 10 + 60 ≠ (swelling.channel 1).record.base + k) ∧ (swelling.tremulant 0).point = 700 := by
  decide +kernel

/-- Chamber 0's transmitter is busy, chamber 1's is free, and the return queue has room. -/
theorem witness_RelayResets :
    HeadIs (asked 0x11#8 [] (chamberIn .enabled true true)) (headOf 0x11#8 []) 0x11#8 [] ∧
      ((asked 0x11#8 [] (chamberIn .enabled true true)).chamber 0).tx ≠ .free ∧
      ((asked 0x11#8 [] (chamberIn .enabled true true)).chamber 1).tx = .free ∧
      (asked 0x11#8 [] (chamberIn .enabled true true)).port.returnQueue.length < 32 :=
  ⟨asked_head _ _ _, by decide +kernel, by decide +kernel, by decide +kernel⟩

/-- A NOTICE and a LAMP frame are held, and lamp 1 is lit. -/
def holding : State :=
  (linkUp.setLamp 1 ⟨.steady, .link, false⟩).setStatus
    { (linkUp.setLamp 1 ⟨.steady, .link, false⟩).status with heldNotice := true, heldLamps := [1#16] }

theorem witness_RelayResets_frames :
    HeadIs (asked 0x11#8 [] holding) (headOf 0x11#8 []) 0x11#8 [] ∧ holding.status.heldNotice = true ∧
      holding.port.returnQueue.length + holding.status.heldLamps.length + 3 ≤ 32 ∧ holding.lampOutputs ≠ 0 :=
  ⟨asked_head _ _ _, rfl, by decide +kernel, by decide +kernel⟩

/-- R167, R169: behind the REPLY stand the NOTICE held, the LAMP frame held and the LAMP frame of all dark outputs. -/
theorem test_reset_frames :
    (after (exec .relayReset (asked 0x11#8 [] holding))).outgoing =
      [.own 0x12#8 [0#8, 7#8, 0#8], .own 0x13#8 [0#8, 0#8], .own 0x14#8 [0#8, 1#8, 0#8], .own 0x14#8 [0#8, 0#8, 0#8]] := by
  decide +kernel

theorem witness_DownDiscardsFrames : State.reset.port.link = .down := rfl

/-- The link in TRAINING after a number of good frames. -/
def training (good : Nat) : State := linkUp.setPort { linkUp.port with link := .training, goodRun := good }

/-- The second good frame, and the third. -/
theorem witness_TrainingCountsGoodFrames :
    (training 1).port.link = .training ∧ (training 1).port.goodRun + 1 < 3 ∧ (training 2).port.link = .training ∧
      3 ≤ (training 2).port.goodRun + 1 ∧ ∃ sender, Instr.idle 0#8 = .idle sender :=
  ⟨rfl, by decide, rfl, by decide, 0#8, rfl⟩

theorem witness_HelloIsAnswered : State.reset.port.returnQueue.length < 32 ∧ State.reset.port.link = .down := by
  decide +kernel

/-- Room for a fourth request, no room for a fifth, and another relay's address. -/
theorem witness_RequestsQueueOrTurnAway :
    (linkUp.setPort { linkUp.port with requests := List.replicate 3 (headOf 1#8 []) }).port.requests.length < 4 ∧
      4 ≤ (linkUp.setPort { linkUp.port with requests := List.replicate 4 (headOf 1#8 []) }).port.requests.length ∧
      linkUp.port.link = .up ∧ linkUp.strapByte = 0#8 ∧ (1#8 : Byte) ≠ linkUp.strapByte := by decide +kernel

/-- The seventh bad frame in a row. -/
theorem witness_IdleAndBadFramesAct :
    linkUp.port.link = .up ∧ (linkUp.setPort { linkUp.port with badRun := 6 }).port.link ≠ .down ∧
      (linkUp.setPort { linkUp.port with badRun := 6 }).port.badRun + 1 < 8 := by decide +kernel

/-- The link timer's expiry, and the eighth bad frame in a row. -/
theorem witness_LinkLossReleasesEverything :
    great.port.timer.isSome = true ∧ busyLink.port.link ≠ .down ∧ 8 ≤ busyLink.port.badRun + 1 := by decide +kernel

/-- A player that plays for input 31, in PLAY with the link timer running and no stop twice on a list. -/
theorem witness_LinkLossReleasesEverything_play :
    (listing.setPlayer 0 (some ⟨false, 1, true, 31, 5, 10, []⟩)).port.timer.isSome = true ∧
      (∀ r, ((listing.setPlayer 0 (some ⟨false, 1, true, 31, 5, 10, []⟩)).active r).Nodup) ∧
      ∀ run, (listing.setPlayer 0 (some ⟨false, 1, true, 31, 5, 10, []⟩)).player 0 = some run → run.input < 96 :=
  ⟨rfl, listing_nodup, fun run h => by cases h; decide⟩

/-- In PLAY, key row 4 with key count 61 holding key 48, under the TONAL, STRUCK and REITERATE stops of its list. -/
def pressing (stops : List Nat) : State :=
  ((rattling.setActive 4 stops).setKeySetting 4 ⟨61, 1⟩).setRow .key 4 ⟨0x1000000000000#64, none, 0, 0⟩

/-- The lists are without a stop twice; one is without REITERATE stops. -/
theorem witness_ScanFiltersKeyRow_play :
    (pressing [128, 129, 130]).port.link = .up ∧ (4#8).toNat < 9 ∧ (pressing [128, 129, 130]).scan.releaseDue = false ∧
      (pressing [128, 129, 130]).mode = .play ∧ ((pressing [128, 129, 130]).active 4).Nodup ∧
      (pressing [128, 129]).active 4 = [128, 129] ∧
      (∀ n ∈ (pressing [128, 129]).active 4, ((pressing [128, 129]).stop n).kind ≠ .reiterate) ∧
      (∀ n ∈ (pressing [128, 129]).active 4, ((pressing [128, 129]).stop n).pizz = none) ∧
      (pressing [128, 129]).claims.pizz = [] := by decide +kernel

/-- Stop 131 strikes the bar an octave above the one that stop 130 rolls. -/
def amid : State := (pressing [128, 130, 131]).setStop 131 { tibia8 with kind := .struck, rank := 9, offset := 12 }

/-- Key 36 of row 4: bars 612 and 624, of which the first alone is rolled, with nothing served or waiting. -/
theorem witness_ScanFiltersKeyRow_amid :
    amid.port.link = .up ∧ amid.scan.releaseDue = false ∧ amid.mode = .play ∧ (amid.active 4).Nodup ∧
      amid.coupled .struck 4 36 = [⟨2, 624⟩] ∧ amid.coupled .reiterate 4 36 = [⟨2, 612⟩] ∧
      amid.servedBy (.struck ⟨2, 624⟩) = none ∧ amid.isWaiting ⟨2, 624⟩ = false ∧ amid.isStruck ⟨2, 624⟩ = true := by
  decide +kernel

theorem witness_ScanFiltersKeyRow_bounded : ListsBounded amid :=
  ⟨Nat.zero_le _, Nat.zero_le _, (fun _ _ h => nomatch h), (fun _ => Nat.zero_le _), rfl⟩

/-- R67: with key 36 pressed the bar above is struck and the bar below rolled. -/
theorem test_scan_strikes_amid_rolls :
    (after (exec (.scan 0#8 4#8 0x1001000000000#64) amid)).strikeTimer ⟨2, 624⟩ = some 40 ∧
      (after (exec (.scan 0#8 4#8 0x1001000000000#64) amid)).demandOf ⟨2, 612⟩ = 1 := by decide +kernel

/-- In CONFIG, and in TUNE with the row selected under the Tibia and the Glockenspiel, and with another selected. -/
theorem witness_ScanFiltersKeyRow_modes :
    (inMode .config (pressing [])).mode = .config ∧ (inMode .tune (pressing [])).mode = .tune ∧
      ((inMode .tune (pressing [])).setEngine
        { (pressing []).engine with tuning := some ⟨3, 4, 0⟩ }).engine.tuning = some ⟨3, 4, 0⟩ ∧
      ((pressing []).rank 3).kind = .pipe ∧ ((pressing []).rank 9).kind = .struck ∧ (pressing []).engine.tuning = none := by
  decide +kernel

/-- R44: key 48 goes up and key 49 down: the claim moves from point 60 to point 61, and bar 625 is struck. -/
theorem test_scan_moves_claim :
    (after (exec (.scan 0#8 4#8 0x2000000000000#64) ((pressing [128, 129]).setClaimCount ⟨1, 60⟩ 1))).claims.counts =
        ⟨[((⟨1, 61⟩ : Point).index, 1)]⟩ ∧
      (after (exec (.scan 0#8 4#8 0x2000000000000#64) (pressing [128, 129]))).strikeTimer ⟨2, 625⟩ = some 40 := by
  decide +kernel

theorem witness_ScanFiltersKeyRow :
    great.port.link = .up ∧ (8#8).toNat < 9 ∧ great.scan.releaseDue = false := by decide +kernel

theorem witness_ScanFiltersStopRow :
    organ.port.link = .up ∧ (9#8).toNat < 10 ∧ linkUp.mode ≠ .play ∧ linkUp.scan.releaseDue = false := by decide +kernel

/-- In PLAY with confirm counts of 1: stop row 4 holds stop 128 and key row 4 key 48; stop 137 is a TREMULANT and stop 138
a ROUTE-MASK. -/
def drawing : State :=
  (((organ.setScan { organ.scan with stopConfirm := 1, inputConfirm := 1 }).setRow .stop 4 ⟨1#64, none, 0, 0⟩).setRow .key 4
    ⟨0x1000000000000#64, none, 0, 0⟩).setEngine { organ.engine with
      stops := (organ.engine.stops.put resetStop 137 { resetStop with kind := .tremulant }).put resetStop 138
        { resetStop with kind := .routeMask } }

/-- The row an accepted image of stop row 4 leaves. -/
def drawnRow (image : Image) : Row :=
  filteredRow false drawing.scan.stopConfirm (drawing.row .stop 4) (image &&& below 32)

/-- One stop alone is cancelled or drawn: 128, TONAL; 137, a TREMULANT; 138, a ROUTE-MASK. -/
theorem witness_ScanFiltersStopRow_play :
    drawing.port.link = .up ∧ (4#8).toNat < 10 ∧ drawing.mode = .play ∧ drawing.scan.releaseDue = false ∧
      (drawing.row .stop 4).held &&& ~~~below 32 = 0 ∧
      (drawnRow 0).held = (drawing.row .stop 4).held ^^^ (1#64 <<< 0) ∧ (drawing.stop 128).kind = .tonal ∧
      (drawing.stop 128).pizz = none ∧ drawing.claims.pizz = [] ∧
      (drawnRow 0x201).held = (drawing.row .stop 4).held ^^^ (1#64 <<< 9) ∧ (drawing.stop 137).kind = .tremulant ∧
      (drawnRow 0x401).held = (drawing.row .stop 4).held ^^^ (1#64 <<< 10) ∧ (drawing.stop 138).kind = .routeMask := by
  decide +kernel

/-- Stop 129, STRUCK, and stop 130, REITERATE, each drawn alone; ROUTE-MASK stop 138 drawn at a demand of 0 and at 1, and
cancelled at 1. -/
theorem witness_ScanFiltersStopRow_others :
    (rattling.stop 129).kind = .struck ∧ (rattling.stop 130).kind = .reiterate ∧
      (∀ p ∈ [1, 2], (filteredRow false 1 emptyRow ((1#64 <<< p) &&& below 32)).held = emptyRow.held ^^^ (1#64 <<< p)) ∧
      rattling.scan.releaseDue = false ∧ rattling.mode = .play ∧
      drawing.maskDemand 0 = 0 ∧ (drawing.setMaskDemand 0 1).maskDemand 0 ≠ 0 ∧
      (filteredRow false 1 ⟨0x401#64, none, 0, 0⟩ (1#64 &&& below 32)).held = 0x401#64 ^^^ (1#64 <<< 10) ∧
      (drawing.setMaskDemand 0 1).maskDemand 0 = 1 := by decide +kernel

/-- R42: cancelled, stop 128 leaves the list, and its coupling with key 48 takes its claim along. -/
theorem test_cancel_ends_couplings :
    (after (exec (.scan 1#8 4#8 0) (drawing.setClaimCount ⟨1, 60⟩ 2))).active 4 = [135] ∧
      (after (exec (.scan 1#8 4#8 0) (drawing.setClaimCount ⟨1, 60⟩ 2))).claimCount ⟨1, 60⟩ = 1 := by decide +kernel

/-- One frame cancels stop 128 and draws stops 137 and 138; another draws 135 and 137, without a ROUTE-MASK among them. -/
theorem witness_ScanFiltersStopRow_several :
    positions ((drawing.row .stop 4).held &&& ~~~(drawnRow 0x600).held) = [0] ∧
      positions ((drawnRow 0x600).held &&& ~~~(drawing.row .stop 4).held) = [9, 10] ∧
      positions ((drawnRow 0x280).held &&& ~~~(drawing.row .stop 4).held) = [7, 9] ∧
      (∀ n ∈ [128, 135, 137], (drawing.stop n).kind ≠ .routeMask) ∧ drawing.stopEnded 128 = [⟨1, 60⟩] ∧
      drawing.stopTargets .tonal 135 = [⟨1, 72⟩] := by decide +kernel

/-- R8, R25: stop 128 takes its claim along, stop 135 adds its own, and stop 137 raises its tremulant's demand. -/
theorem test_stops_change_together :
    (after (exec (.scan 1#8 4#8 0x280) (drawing.setClaimCount ⟨1, 60⟩ 1))).claims.counts =
        ⟨[((⟨1, 72⟩ : Point).index, 1)]⟩ ∧
      (after (exec (.scan 1#8 4#8 0x280) (drawing.setClaimCount ⟨1, 60⟩ 1))).tremulantDemand 0 = 1 := by decide +kernel

/-- Input 0's contact is closed, and its entry strikes. -/
def stud : State :=
  (organ.setRow .input 0 ⟨1#64, none, 0, 0⟩).setRoute 0
    ⟨⟨.strike, .edge, false, false, false, 0, 9, 24, [], 0, 0, .hold, 0, 0, 500⟩, .idle, true, none⟩

theorem witness_ScanFiltersInputRow :
    stud.port.link = .up ∧ (0#8).toNat < 3 ∧ stud.scan.releaseDue = false ∧
      (stud.row .input (0#8).toNat).held &&& ~~~below 32 = 0 ∧
      ∀ p, p < 32 → (stud.route (32 * (0#8).toNat + p)).fields.target ≠ .releaseAll := by decide +kernel

/-- The same relay with one route entry at input 31, its contact closed while its level is ACTIVE. -/
def routed (fields : RouteFields) (state : RouteState) (active : Bool) : State :=
  (drawing.setRow .input 0 ⟨if active then 0x80000000#64 else 0, none, 0, 0⟩).setRoute 31 ⟨fields, state, active, none⟩

/-- An entry by target and trigger: bar 24 of the Glockenspiel, sequence 15, split time 500. -/
def entryOf (target : RouteTarget) (trigger : Trigger) (masked defer : Bool) : RouteFields :=
  ⟨target, trigger, false, masked, defer, 0, 9, 24, [15], 9, 24, .roll, 9, 24, 500⟩

/-- Input 31's contact alone closes. -/
theorem witness_ScanFiltersInputRow_closes :
    (routed (entryOf .strike .edge false false) .idle false).port.link = .up ∧
      (routed (entryOf .strike .edge false false) .idle false).scan.releaseDue = false ∧
      (filteredRow true drawing.scan.inputConfirm
          ((routed (entryOf .strike .edge false false) .idle false).row .input 0) (0x80000000#64 &&& below 32)).held =
        ((routed (entryOf .strike .edge false false) .idle false).row .input 0).held ^^^ (1#64 <<< 31) := by decide +kernel

/-- Input 31's contact alone opens. -/
theorem witness_ScanFiltersInputRow_opens :
    (filteredRow true drawing.scan.inputConfirm
        ((routed (entryOf .none .split false false) .measuring true).row .input 0) (0 &&& below 32)).held =
      ((routed (entryOf .none .split false false) .measuring true).row .input 0).held ^^^ (1#64 <<< 31) := by decide +kernel

/-- Entries unmasked: an EDGE that strikes, toggles or releases; a LEVEL; a SPLIT. One masked that keeps its edge. -/
theorem witness_ActivationTaken :
    (∀ target ∈ [RouteTarget.strike, .sequence, .releaseAll],
      (routed (entryOf target .edge false false) .idle true).maskedRoute 31 = false) ∧
      (routed (entryOf .roll .level false false) .idle true).maskedRoute 31 = false ∧
      (routed (entryOf .none .split false false) .idle true).maskedRoute 31 = false ∧
      (routed (entryOf .strike .edge true true) .idle true).maskedRoute 31 = true ∧
      (routed (entryOf .strike .edge true true) .idle true).mode = .play := by decide +kernel

/-- The rolling entry at input 31, in PLAY with no deferred edge that releases. -/
def rolling : State := routed (entryOf .roll .level false false) .inService true

theorem witness_ScanFiltersStopRow_entries :
    rolling.mode = .play ∧ (∀ i, i < 96 → (rolling.route i).fields.masked = false → rolling.deliversEdge i = true →
        (rolling.route i).fields.target ≠ .releaseAll) ∧
      ((rolling.route 31).silenced.state = .idle ∧ rolling.maskDemand 0 = 0) := by decide +kernel

/-- R93: drawn with stop 137, ROUTE-MASK stop 138 ends the service of input 31, whose level stays ACTIVE. -/
theorem test_several_stops_mask_entry :
    ((after (exec (.scan 1#8 4#8 0x601#64) rolling)).route 31).state = .idle ∧
      ((after (exec (.scan 1#8 4#8 0x601#64) rolling)).route 31).active = true ∧
      (after (exec (.scan 1#8 4#8 0x601#64) rolling)).maskDemand 0 = 1 := by decide +kernel

/-- R95: an EDGE activation hands on its strike. -/
theorem test_edge_strikes :
    (after (exec (.scan 2#8 0#8 0x80000000#64) (routed (entryOf .strike .edge false false) .idle false))).strikeTimer
      ⟨2, 600⟩ = some 40 := by decide +kernel

/-- The group of input 31 is 0, and of its entries that are OPEN the one at input 31 is the only one. -/
def grouped (state : RouteState) : State :=
  (routed (entryOf .roll .level false false) state true).setRouter
    { (routed (entryOf .roll .level false false) state true).router with
      entries := ⟨(List.range 96).map (fun i => (i, if i = 31 then
        ⟨entryOf .roll .level false false, state, true, none⟩ else
        { resetRoute with fields := { resetRouteFields with masked := true } }))⟩ }

/-- An entry alone in its group, in service and IDLE with its level ACTIVE, and a group with no deferred edge. -/
theorem witness_GroupMasked :
    (grouped .inService).openIn 0 31 = true ∧ (∀ j, j < 96 → (grouped .inService).openIn 0 j = true → j = 31) ∧
      (grouped .inService).serves 31 = true ∧ (grouped .idle).beginsLevel 31 = true ∧
      (∀ j, j < 96 → (grouped .idle).openIn 0 j = true → (grouped .idle).deliversEdge j = true →
        ((grouped .idle).route j).fields.target ≠ .releaseAll) ∧
      ∀ j, j < 96 → (grouped .idle).openIn 0 j = true →
        (grouped .idle).deliversEdge j = true ∨ (grouped .idle).beginsLevel j = true →
        ((grouped .idle).route j).fields.target ≠ .releaseAll ∧ ((grouped .idle).route j).fields.target ≠ .sequence := by
  decide +kernel

/-- An unknown kind, key row 9, stop row 10 and input row 3. -/
theorem witness_ScanOutOfRangeIgnored :
    linkUp.port.link = .up ∧ 3 ≤ (3#8).toNat ∧ 9 ≤ (9#8).toNat ∧ 10 ≤ (10#8).toNat ∧ 3 ≤ (3#8).toNat := by
  decide +kernel

/-- Shoe 1 moves the idle channel 1, shoe 3 moves none, and shoe 4 does not exist. -/
theorem witness_ShoeMovesFollowingChannels :
    shutters.port.link = .up ∧ (1#8).toNat ≤ 3 ∧ (shutters.channel 1).record.shoe = some (1#8).toNat ∧
      (shutters.channel 1).timer = none ∧ (shutters.channel 2).record.shoe ≠ some (3#8).toNat ∧ 3 < (4#8).toNat := by
  decide +kernel

/-- The record of channel 1 of section 7.7 lies in its ranges: shoe 1, and fields that are numerals. -/
theorem witness_ShoeMovesFollowingChannels_fits : (shutters.channel 1).record.fits := by
  refine ⟨fun shoe named => ?_, ?_⟩
  · obtain rfl : 1 = shoe := Option.some.inj named
    decide
  · decide +kernel

/-- Section 7.3.1: with sample 600 on the reversed curve the goal is 2, whatever the stage. -/
theorem test_reversed_aims : (⟨none, 4, 0, 50, 0, [(0, 1000), (1023, 0)]⟩ : CurveRecord).aims 600 4 2 := by
  refine ⟨414, ⟨?_, ?_, ?_, ?_, by decide⟩, 2, 2, by decide⟩
  · rintro a h; cases h; decide
  · rintro a h; cases h; decide
  · rintro (_ | _ | i) a b h g <;> first | (cases h; cases g; decide) | cases g
  · rintro (_ | _ | i) a b h g <;> first | (cases h; cases g; decide) | cases g

theorem witness_EchoReturnsData :
    HeadIs (asked 0x01#8 [5#8] linkUp) (headOf 0x01#8 [5#8]) 0x01#8 [5#8] := asked_head _ _ _

/-- Code 0x12, table 11 of a write, table 13 of a read, and STOP 320 of both. -/
theorem witness_RequestsOutsideTablesRefused :
    (asked 0x12#8 [] linkUp).port.requests.head? = some (headOf 0x12#8 []) ∧ 0x11 < (headOf 0x12#8 []).code.toNat ∧
      HeadIs (asked 0x03#8 [11#8] linkUp) (headOf 0x03#8 [11#8]) 0x03#8 [11#8] ∧ 10 < (11#8).toNat ∧
      HeadIs (asked 0x04#8 [13#8] linkUp) (headOf 0x04#8 [13#8]) 0x04#8 [13#8] ∧ 12 < (13#8).toNat ∧
      HeadIs (asked 0x03#8 [1#8, 1#8, 64#8] linkUp) (headOf 0x03#8 [1#8, 1#8, 64#8]) 0x03#8 [1#8, 1#8, 64#8] ∧
      HeadIs (asked 0x04#8 [1#8, 1#8, 64#8] linkUp) (headOf 0x04#8 [1#8, 1#8, 64#8]) 0x04#8 [1#8, 1#8, 64#8] ∧
      319 < wordOf 1#8 64#8 :=
  ⟨rfl, by decide, asked_head _ _ _, by decide, asked_head _ _ _, by decide, asked_head _ _ _, asked_head _ _ _,
    by decide⟩

/-- The bytes of the Tibia as rank 47. -/
def tibiaWrite : Bytes := 2#8 :: 0#8 :: 47#8 :: rankBytes tibia

theorem witness_RankWriteIsTakenOrRefused :
    HeadIs (asked 0x03#8 tibiaWrite linkUp) (headOf 0x03#8 tibiaWrite) 0x03#8 (2#8 :: 0#8 :: 47#8 :: rankBytes tibia) ∧
      wordOf 0#8 47#8 ≤ 47 ∧ readRank (rankBytes tibia) = .ok tibia ∧ linkUp.mode = .config ∧ organ.mode ≠ .config ∧
      tibia.kind ≠ (organ.rank 47).kind ∧ readRank [3#8] = .error 1 :=
  ⟨asked_head _ _ _, by decide, by rfl, rfl, by decide +kernel, by decide +kernel, by rfl⟩

/-- A STOP, a TREMULANT, a SEQDIR, a SEQMEM, a CHAMBER and a LAMP record, each at its table's last index. -/
theorem witness_PlainTableWrites :
    (wordOf 1#8 63#8 ≤ 319 ∧ readStop (stopBytes (fun _ => 0) tibia8) = .ok tibia8) ∧
      (wordOf 0#8 7#8 ≤ 7 ∧ readTremulant [0#8, 0#8, 5#8, 1#8, 144#8, 0#8, 200#8] = .ok ⟨0, 5, 400, 200⟩) ∧
      (wordOf 0#8 15#8 ≤ 15 ∧ readSeqEntry [1#8, 0#8, 5#8, 1#8] = .ok ⟨some 5, true⟩) ∧
      (wordOf 3#8 255#8 ≤ 1023 ∧ readStep [0#8, 0#8, 25#8, 0#8] = .ok ⟨.timed, 25, []⟩) ∧
      (wordOf 0#8 3#8 ≤ 3 ∧ readChamber [15#8, 1#8, 44#8] = .ok (15, 300)) ∧
      readLamp [3#8, 1#8, 8#8, 0#8] = .ok ⟨.follow, .state 2, false⟩ ∧
      readLamp [4#8] = .error 1 ∧
      HeadIs (asked 0x03#8 [10#8, 0#8, 15#8, 3#8, 1#8, 8#8, 0#8] organ)
        (headOf 0x03#8 [10#8, 0#8, 15#8, 3#8, 1#8, 8#8, 0#8]) 0x03#8 (10#8 :: 0#8 :: 15#8 :: [3#8, 1#8, 8#8, 0#8]) :=
  by and_intros <;> first | exact asked_head _ _ _ | rfl

/-- The stud's entry, and the same entry masked. -/
def studFields : RouteFields := (stud.route 0).fields

theorem witness_RouteWriteIsTakenOrRefused :
    HeadIs (asked 0x03#8 (3#8 :: 0#8 :: 0#8 :: routeFieldBytes { studFields with masked := true }) stud)
        (headOf 0x03#8 (3#8 :: 0#8 :: 0#8 :: routeFieldBytes { studFields with masked := true })) 0x03#8
        (3#8 :: 0#8 :: 0#8 :: routeFieldBytes { studFields with masked := true }) ∧
      wordOf 0#8 95#8 ≤ 95 ∧
      readRoute (routeFieldBytes { studFields with masked := true }) = .ok { studFields with masked := true } ∧
      stud.mode ≠ .config ∧ { studFields with group := 1 } ≠ studFields ∧ linkUp.mode = .config :=
  ⟨asked_head _ _ _, by decide, by rfl, by decide +kernel, by decide +kernel, rfl⟩

/-- In PLAY: an entry masked that is PENDING, one unmasked in service, and one masked whose level is ACTIVE. -/
theorem witness_MaskChangeTaken :
    (routed (entryOf .strike .edge true true) .pending true).maskedRoute 31 = true ∧
      (routed (entryOf .strike .edge false true) .pending true).maskedRoute 31 = false ∧
      (routed (entryOf .roll .level false false) .inService true).maskedRoute 31 = false ∧
      (routed (entryOf .roll .level true false) .inService true).maskedRoute 31 = true ∧
      (routed (entryOf .roll .level true false) .idle true).mode = .play ∧
      ((routed (entryOf .roll .level true false) .idle true).route 31).active = true ∧ drawing.scan.releaseDue = false := by
  decide +kernel

/-- R98: an ACTIVE level that is unmasked begins its roll. -/
theorem test_unmasking_begins_roll :
    (after (exec .routeMask (asked 0x05#8 [31#8, 1#8] (routed (entryOf .roll .level true false) .idle true)))).demandOf
      ⟨2, 600⟩ = 1 := by decide +kernel

/-- The written fields of channel 1 of section 7.7. -/
def shutterBytes : Bytes := curveFieldBytes (shutters.channel 1).record

theorem witness_CurveWriteActsOnChannel :
    HeadIs (asked 0x03#8 (5#8 :: 0#8 :: 1#8 :: shutterBytes) shutters) (headOf 0x03#8 (5#8 :: 0#8 :: 1#8 :: shutterBytes))
        0x03#8 (5#8 :: 0#8 :: 1#8 :: shutterBytes) ∧
      wordOf 0#8 3#8 ≤ 3 ∧ readCurve shutterBytes = .ok (shutters.channel 1).record ∧ shutters.mode = .config ∧
      organ.mode ≠ .config ∧ (shutters.channel 1).record.stageCount ≠ (organ.channel 1).record.stageCount ∧
      readCurve [4#8] = .error 1 :=
  ⟨asked_head _ _ _, by decide, by rfl, rfl, by decide +kernel, by decide +kernel, by rfl⟩

theorem witness_ScanWriteSetsCounts :
    HeadIs (asked 0x03#8 [8#8, 0#8, 2#8, 24#8, 2#8] great) (headOf 0x03#8 [8#8, 0#8, 2#8, 24#8, 2#8]) 0x03#8
        (8#8 :: 0#8 :: 2#8 :: [24#8, 2#8]) ∧
      wordOf 0#8 8#8 ≤ 8 ∧ readKeySetting [24#8, 2#8] = .ok ⟨24, 2⟩ ∧ wordOf 0#8 9#8 = 9 ∧ wordOf 0#8 10#8 = 10 ∧
      readConfirm [3#8] = .ok 3 ∧ readKeySetting [65#8, 2#8] = .error 1 ∧ readConfirm [4#8] = .error 1 :=
  ⟨asked_head _ _ _, by decide, by rfl, by decide, by decide, by rfl, by rfl, by rfl⟩

/-- In PLAY, a key count of 48 releases key 48. -/
theorem witness_ScanWriteSetsCounts_releases :
    readKeySetting [48#8, 1#8] = .ok ⟨48, 1⟩ ∧ 48 ≠ ((pressing [128]).keySetting 4).keyCount ∧
      ((pressing [128]).active 4).Nodup ∧
      positions (((pressing [128]).row .key 4).held &&& ~~~below 48) = [48] := by decide +kernel

/-- A read of STOP 319 and one of PIZZ. -/
theorem witness_TableReadsReturnRecords :
    HeadIs (asked 0x04#8 [1#8, 1#8, 63#8] organ) (headOf 0x04#8 [1#8, 1#8, 63#8]) 0x04#8 [1#8, 1#8, 63#8] ∧
      wordOf 1#8 63#8 ≤ 319 ∧
      HeadIs (asked 0x04#8 [12#8, 0#8, 0#8] organ) (headOf 0x04#8 [12#8, 0#8, 0#8]) 0x04#8 [12#8, 0#8, 0#8] :=
  ⟨asked_head _ _ _, by decide, asked_head _ _ _⟩

/-- STOP 5 names rank 0, which is NONE. -/
def disagreeing : State := linkUp.setStop 5 ⟨.tonal, 0, 0, 0, .silent, .silent, none, none, 0, 0⟩

/-- PLAY from CONFIG passes the cross-check or fails it at STOP 5, TUNE has no selection, and CONFIG is left or kept. -/
theorem witness_ModeSetChangesMode :
    HeadIs (asked 0x02#8 [1#8] linkUp) (headOf 0x02#8 [1#8]) 0x02#8 [1#8] ∧
      linkUp.mode = .config ∧ linkUp.crossCheck = none ∧ disagreeing.crossCheck = some (1, 5) ∧
      linkUp.engine.tuning = none ∧ organ.mode = .play :=
  ⟨asked_head _ _ _, rfl, by decide +kernel, by decide +kernel, rfl, rfl⟩

/-- In CONFIG, at rest, the Tibia clear of the stage points, with key 48 held on row 4, stop 128 drawn, a selection, and every route entry MASKED, as at
reset. -/
def ready : State :=
  ((((linkUp.setRank 3 { tibia with base := 100 }).setStop 128 tibia8).setRow .stop 4 ⟨1#64, none, 0, 0⟩).setRow .key 4
    ⟨0x1000000000000#64, none, 0, 0⟩).setEngine { (((linkUp.setRank 3 { tibia with base := 100 }).setStop 128 tibia8)).engine with
      tuning := some ⟨3, 4, 0⟩ }

theorem witness_ModeSetChangesMode_enters :
    HeadIs (asked 0x02#8 [1#8] ready) (headOf 0x02#8 [1#8]) 0x02#8 [1#8] ∧ QuietOutsidePlay (asked 0x02#8 [1#8] ready) ∧
      ready.mode = .config ∧ ready.crossCheck = none ∧ (∀ j, j < 96 → (ready.route j).fields.masked = true) ∧
      ready.engine.tuning = some ⟨3, 4, 0⟩ ∧ ready.drawnTargets = [⟨1, 160⟩] ∧
      ready.tuningTargets ⟨3, 4, 0⟩ = [⟨1, 160⟩] :=
  ⟨asked_head _ _ _,
    ⟨fun _ _ => rfl, fun _ => rfl, fun _ _ _ => rfl, fun _ _ _ => rfl, fun _ _ => rfl, fun _ => rfl,
      fun _ => ⟨List.nodup_nil, fun _ h => nomatch h⟩⟩, rfl,
    by decide +kernel, by decide +kernel, rfl, by decide +kernel, by decide +kernel⟩

/-- PLAY is left for CONFIG and for TUNE, and TUNE for CONFIG, with something held. -/
theorem witness_ModeSetChangesMode_leaves :
    HeadIs (asked 0x02#8 [0#8] listing) (headOf 0x02#8 [0#8]) 0x02#8 [0#8] ∧
      (∀ r, ((asked 0x02#8 [0#8] listing).active r).Nodup) ∧ listing.mode = .play ∧
      (listing.setRow .key 4 ⟨0x1000000000000#64, none, 0, 0⟩).leftClaims = [⟨1, 60⟩, ⟨1, 72⟩] ∧
      tuning.mode = .tune ∧ tuning.leftClaims = [⟨1, 3⟩] :=
  ⟨asked_head _ _ _, listing_nodup, rfl, by decide +kernel, rfl, by decide +kernel⟩

theorem witness_RouteMaskSetsMask :
    HeadIs (asked 0x05#8 [95#8, 1#8] linkUp) (headOf 0x05#8 [95#8, 1#8]) 0x05#8 [95#8, 1#8] ∧ (95#8).toNat ≤ 95 ∧
      95 < (96#8).toNat ∧ (1#8).toNat ≤ 1 ∧ linkUp.mode ≠ .play ∧ linkUp.scan.releaseDue = false :=
  ⟨asked_head _ _ _, by decide, by decide, by decide, by decide +kernel, rfl⟩

/-- A chamber that is DARK with its link PRESENT, one with it LOST, and one in FAULT. -/
theorem witness_ChamberRaise :
    HeadIs (asked 0x06#8 [0#8] (chamberIn .dark false false)) (headOf 0x06#8 [0#8]) 0x06#8 [0#8] ∧
      ((chamberIn .dark false false).chamber 0).state = .dark ∧ ((chamberIn .dark false false).chamber 0).present = true ∧
      (linkUp.chamber 3).state = .dark ∧ (linkUp.chamber 3).present = false ∧ (3#8).toNat ≤ 3 ∧ 3 < (4#8).toNat ∧
      ((chamberIn .enabled true true).chamber 0).state = .enabled ∧
      ((chamberIn .fault true false).chamber 0).state = .fault :=
  ⟨asked_head _ _ _, by decide +kernel, by decide +kernel, by decide +kernel, by decide +kernel, by decide, by decide,
    by decide +kernel, by decide +kernel⟩

theorem witness_ChamberLower :
    HeadIs (asked 0x07#8 [0#8] (chamberIn .enabled true true)) (headOf 0x07#8 [0#8]) 0x07#8 [0#8] ∧
      ((chamberIn .enabled true true).chamber 0).state = .enabled ∧ (linkUp.chamber 3).state = .dark ∧ (3#8).toNat ≤ 3 ∧
      3 < (4#8).toNat :=
  ⟨asked_head _ _ _, by decide +kernel, by decide +kernel, by decide, by decide⟩

/-- The Tibia at key row 4, offset 0, in PLAY and, as the present selection, in TUNE. -/
theorem witness_TuneSelectWritesSelection :
    HeadIs (asked 0x08#8 [3#8, 4#8, 0#8] organ) (headOf 0x08#8 [3#8, 4#8, 0#8]) 0x08#8 [3#8, 4#8, 0#8] ∧
      readSelection [3#8, 4#8, 0#8] = .ok ⟨3, 4, 0⟩ ∧ readSelection [3#8, 5#8, 0#8] = .error 2 ∧ organ.mode ≠ .tune ∧
      tuning.mode = .tune ∧
      (tuning.setEngine { tuning.engine with tuning := some ⟨3, 4, 0⟩ }).engine.tuning = some ⟨3, 4, 0⟩ :=
  ⟨asked_head _ _ _, by rfl, by rfl, by decide +kernel, rfl, rfl⟩

/-- In TUNE the selection passes from the Tibia, and from the Glockenspiel, to the other. -/
theorem witness_TuneSelectWritesSelection_changes :
    readSelection [9#8, 4#8, 0#8] = .ok ⟨9, 4, 0⟩ ∧ (organ.rank 9).kind = .struck ∧
      ((inMode .tune organ).setEngine { organ.engine with tuning := some ⟨3, 4, 0⟩ }).engine.tuning = some ⟨3, 4, 0⟩ ∧
      (inMode .tune organ).mode = .tune ∧ (⟨3, 4, 0⟩ : TuningSelection) ≠ ⟨9, 4, 0⟩ ∧ (organ.rank 3).kind ≠ .struck :=
  ⟨by rfl, by decide +kernel, rfl, rfl, by decide, by decide +kernel⟩

/-- In TUNE, chamber 1: point 3 is held, point 96 is a pipe that is not, and point 97 is no pipe. -/
theorem witness_TuneHoldActsOnHoldSet :
    HeadIs (asked 0x09#8 [0#8, 1#8, 0#8, 96#8] tuning) (headOf 0x09#8 [0#8, 1#8, 0#8, 96#8]) 0x09#8
        [0#8, 1#8, 0#8, 96#8] ∧
      (3#8).toNat ≤ 3 ∧ wordOf 3#8 255#8 ≤ 1023 ∧ tuning.mode = .tune ∧ organ.mode ≠ .tune ∧
      (⟨1, 3⟩ : Point) ∈ tuning.claims.holds ∧ (⟨1, 96⟩ : Point) ∉ tuning.claims.holds ∧
      tuning.isPipe ⟨1, 96⟩ = true ∧ tuning.claims.holds.length < 4 ∧ tuning.isPipe ⟨1, 97⟩ = false :=
  ⟨asked_head _ _ _, by decide, by decide, rfl, by decide +kernel, by decide +kernel, by decide +kernel,
    by decide +kernel, by decide +kernel, by decide +kernel⟩

theorem witness_StatusReadsClearFlags :
    HeadIs (asked 0x0A#8 [3#8] linkUp) (headOf 0x0A#8 [3#8]) 0x0A#8 [3#8] ∧ (3#8).toNat ≤ 3 ∧ 3 < (4#8).toNat ∧
      HeadIs (asked 0x0C#8 [] linkUp) (headOf 0x0C#8 []) 0x0C#8 [] ∧
      (asked 0x0C#8 [] linkUp).port.returnQueue.length + (asked 0x0C#8 [] linkUp).status.heldLamps.length + 2 ≤ 32 :=
  ⟨asked_head _ _ _, by decide, by decide, asked_head _ _ _, by decide +kernel⟩

/-- GEN-STEAL, group 2 item 3, latched and masked. -/
def maskedSteal : State := (linkUp.setLatched .genSteal true).setMasked .genSteal true

theorem witness_StatusMaskSetsMask :
    HeadIs (asked 0x0B#8 [2#8, 3#8, 1#8] maskedSteal) (headOf 0x0B#8 [2#8, 3#8, 1#8]) 0x0B#8 [2#8, 3#8, 1#8] ∧
      (2#8).toNat ≤ 3 ∧ itemAt (2#8).toNat (3#8).toNat = some .genSteal ∧ (1#8).toNat ≤ 1 ∧
      (asked 0x0B#8 [2#8, 3#8, 1#8] maskedSteal).attention = false ∧
      ((asked 0x0B#8 [2#8, 3#8, 1#8] maskedSteal).setMasked .genSteal (decide (1#8 = 0#8))).attention = true ∧
      (asked 0x0B#8 [2#8, 3#8, 1#8] maskedSteal).port.returnQueue.length + 2 ≤ 32 ∧
      (groupItems (2#8).toNat).length ≤ (5#8).toNat ∧ 3 < (4#8).toNat :=
  ⟨asked_head _ _ _, by decide, by decide, by decide, by decide +kernel, by decide +kernel, by decide +kernel, by decide,
    by decide⟩

/-- A first latch with no request served, one while a request is served, and a command that takes the link down. -/
theorem witness_StatusMaskSetsMask_notices :
    StatusItem.genSteal ∈ allItems ∧ linkUp.port.requests = [] ∧ linkUp.port.returnQueue.length + 4 ≤ 32 ∧
      linkUp.attention = false ∧ linkUp.maskedItem .genSteal = false ∧ (asked 0x01#8 [] linkUp).port.requests ≠ [] ∧
      (after (exec .linkTimerExpiry linkUp)).port.requests = [] ∧
      (after (exec .linkTimerExpiry linkUp)).attention = true := by decide +kernel

/-- An ECHO served with a NOTICE and a LAMP frame held. -/
theorem witness_StatusMaskSetsMask_served :
    (asked 0x01#8 [] holding).port.requests.head? = some (headOf 0x01#8 []) ∧
      (after (exec .echo (asked 0x01#8 [] holding))).port.requests = (asked 0x01#8 [] holding).port.requests.tail ∧
      (asked 0x01#8 [] holding).port.requests ≠ (after (exec .echo (asked 0x01#8 [] holding))).port.requests ∧
      (asked 0x01#8 [] holding).port.returnQueue.length + (asked 0x01#8 [] holding).status.heldLamps.length + 3 ≤ 32 := by
  decide +kernel

/-- R157, R168: lamp 0 is set ON behind frames held: REPLY, NOTICE, the LAMP held, and the LAMP of this write. -/
theorem test_served_order :
    (after (exec .tableWriteLamp (asked 0x03#8 [10#8, 0#8, 0#8, 1#8, 1#8, 8#8, 0#8] holding))).outgoing =
      [.own 0x12#8 [0#8, 7#8, 0#8], .own 0x13#8 [0#8, 0#8], .own 0x14#8 [0#8, 1#8, 0#8], .own 0x14#8 [0#8, 3#8, 0#8]] := by
  decide +kernel

/-- Point 96 of chamber 1 is guarded, claimed, and of a PIPE rank with a cipher limit of 30 s. -/
def ciphered : State :=
  ((organ.setRank 3 { tibia with cipherLimit := 30 }).setClaimCount ⟨1, 96⟩ 1).setChamber 1
    { resetChamber with guards := ⟨[(96, true)]⟩, ciphers := [⟨96, 3, 1⟩] }

/-- Point 60 is at 0 under a limit of 30 s, in PLAY and in TUNE; point 96, guarded and listed, is at 1; and with the Tibia's own
record the limit is 0. -/
theorem witness_TonalCouplingClaimsBalance_rises :
    (ciphered.stop 128).kind = .tonal ∧ ciphered.target (ciphered.stop 128).mapping 48 = some ⟨1, 60⟩ ∧
      ciphered.claimCount ⟨1, 60⟩ = 0 ∧ ciphered.mode = .play ∧ ciphered.rankOf ⟨1, 60⟩ = some 3 ∧
      (ciphered.rank 3).kind = .pipe ∧ 0 < (ciphered.rank 3).cipherLimit ∧ (organ.rank 3).cipherLimit = 0 ∧
      (inMode .tune ciphered).mode ≠ .play ∧ ciphered.claimCount ⟨1, 96⟩ = 1 := by decide +kernel

/-- R146: a rise starts the on-timer with 30000 ms, in PLAY and not in TUNE. -/
theorem test_rise_starts_timer :
    ((startCoupling 4 48 128 ciphered).chamber 1).onTimer 60 = some 30000 ∧
      ((addClaim ⟨1, 60⟩ (inMode .tune ciphered)).chamber 1).onTimer 60 = none := by decide +kernel

/-- R146, R147: a fall clears the guard, takes the point off the list and latches CIPHER. -/
theorem test_fall_clears_guard :
    ((removeClaim ⟨1, 96⟩ ciphered).chamber 1).guarded 96 = false ∧
      ((removeClaim ⟨1, 96⟩ ciphered).chamber 1).ciphers = [] ∧
      (removeClaim ⟨1, 96⟩ ciphered).latched .cipher = true := by decide +kernel

/-- In PLAY with key 48 of row 4 held under stop 128: point 60 is claimed by it alone, guarded and listed. -/
def guardedKey : State :=
  ((((organ.setActive 4 [128]).setRow .stop 4 ⟨1#64, none, 0, 0⟩).setRow .key 4
    ⟨0x1000000000000#64, none, 0, 0⟩).setClaimCount ⟨1, 60⟩ 1).setChamber 1
      { resetChamber with guards := ⟨[(60, true)]⟩, ciphers := [⟨60, 3, 1⟩] }

theorem guardedKey_active (r : Nat) : guardedKey.active r = if 4 = r then [128] else [] := rfl

theorem witness_ModeSetChangesMode_guards :
    HeadIs (asked 0x02#8 [0#8] guardedKey) (headOf 0x02#8 [0#8]) 0x02#8 [0#8] ∧ guardedKey.mode = .play ∧
      guardedKey.leftClaims = [⟨1, 60⟩] ∧ (guardedKey.chamber 1).guarded 60 = true :=
  ⟨asked_head _ _ _, rfl, by decide +kernel, by decide +kernel⟩

theorem witness_ModeSetChangesMode_claimed :
    (∀ r, (guardedKey.active r).Nodup) ∧
      (∀ p : Point, p.chamber < 4 → p.point < 1024 → guardedKey.claimCount p ≤ occurrences p guardedKey.leftClaims) ∧
      ∀ p : Point, p.chamber < 4 → p.point < 1024 → guardedKey.claimCount p = 0 → guardedKey.Unguarded p := by
  have counted : ∀ p : Point, guardedKey.claimCount p = if (⟨1, 60⟩ : Point).index = p.index then 1 else 0 := fun _ => rfl
  have left : guardedKey.leftClaims = [⟨1, 60⟩] := by decide +kernel
  refine ⟨fun r => ?_, fun p _ hp => ?_, fun p _ hp free => ?_⟩
  · rw [guardedKey_active]
    split <;> decide
  · rw [counted, left]
    split
    · rename_i h
      obtain rfl : p = ⟨1, 60⟩ := by
        obtain ⟨c, n⟩ := p
        simp only [Point.index] at h hp
        congr 1 <;> omega
      decide
    · exact Nat.zero_le _
  · rw [counted] at free
    split at free
    · cases free
    · rename_i h
      by_cases hc : p.chamber = 1
      · have hn : 60 ≠ p.point := fun e => h (by simp only [Point.index]; omega)
        have at1 : guardedKey.chamber p.chamber =
            { resetChamber with guards := ⟨[(60, true)]⟩, ciphers := [⟨60, 3, 1⟩] } := by rw [hc]; rfl
        refine ⟨?_, ?_, ?_⟩ <;> rw [at1]
        · exact if_neg hn
        · rfl
        · intro e he
          obtain rfl : e = ⟨60, 3, 1⟩ := List.mem_singleton.mp he
          exact hn
      · have rest : guardedKey.chamber p.chamber = resetChamber := if_neg (Ne.symm hc)
        refine ⟨?_, ?_, ?_⟩ <;> rw [rest]
        · rfl
        · rfl
        · exact fun e he => nomatch he

/-- R149: PLAY left, the point is unguarded and off the list. -/
theorem test_leaving_play_unguards :
    ((after (exec .modeSetConfig (asked 0x02#8 [0#8] guardedKey))).chamber 1).guarded 60 = false ∧
      ((after (exec .modeSetConfig (asked 0x02#8 [0#8] guardedKey))).chamber 1).ciphers = [] := by decide +kernel

theorem witness_CipherRequestsServeList :
    HeadIs (asked 0x0E#8 [1#8, 0#8, 96#8] ciphered) (headOf 0x0E#8 [1#8, 0#8, 96#8]) 0x0E#8 [1#8, 0#8, 96#8] ∧
      HeadIs (asked 0x0D#8 [3#8] ciphered) (headOf 0x0D#8 [3#8]) 0x0D#8 [3#8] ∧ (3#8).toNat ≤ 3 ∧ 3 < (4#8).toNat ∧
      wordOf 3#8 255#8 ≤ 1023 ∧ (ciphered.chamber 1).guarded (wordOf 0#8 96#8) = true ∧
      (ciphered.chamber 1).guarded (wordOf 0#8 95#8) = false ∧ 0 < ciphered.claimCount ⟨1, wordOf 0#8 96#8⟩ ∧
      ciphered.mode = .play ∧ ciphered.rankOf ⟨1, wordOf 0#8 96#8⟩ = some 3 ∧ (ciphered.rank 3).kind = .pipe :=
  ⟨asked_head _ _ _, asked_head _ _ _, by decide, by decide, by decide, by decide +kernel, by decide +kernel,
    by decide +kernel, rfl, by decide +kernel, by decide +kernel⟩

/-- Point ALL of chamber 1 and chamber ALL; chamber 4 and point 1024 are out of range. -/
theorem witness_CipherRequestsServeList_all :
    HeadIs (asked 0x0E#8 [1#8, 0xFF#8, 0xFF#8] ciphered) (headOf 0x0E#8 [1#8, 0xFF#8, 0xFF#8]) 0x0E#8
        [1#8, 0xFF#8, 0xFF#8] ∧
      wordOf 0xFF#8 0xFF#8 = 0xFFFF ∧ (3#8).toNat ≤ 3 ∧ 3 < (4#8).toNat ∧ 4#8 ≠ 0xFF#8 ∧
      1023 < wordOf 4#8 0#8 ∧ wordOf 4#8 0#8 ≠ 0xFFFF :=
  ⟨asked_head _ _ _, by decide, by decide, by decide, by decide, by decide, by decide⟩

/-- R148: chamber ALL empties the list of chamber 1, and the point claimed is timed afresh with 30 s. -/
theorem test_cipher_clear_all :
    ((after (exec .cipherClear (asked 0x0E#8 [0xFF#8, 0xFF#8, 0xFF#8] ciphered))).chamber 1).ciphers = [] ∧
      ((after (exec .cipherClear (asked 0x0E#8 [0xFF#8, 0xFF#8, 0xFF#8] ciphered))).chamber 1).onTimer 96 = some 30000 := by
  decide +kernel

theorem witness_PointQueryReportsPoint :
    HeadIs (asked 0x0F#8 [1#8, 0#8, 63#8] sounding) (headOf 0x0F#8 [1#8, 0#8, 63#8]) 0x0F#8 [1#8, 0#8, 63#8] ∧
      (3#8).toNat ≤ 3 ∧ wordOf 3#8 255#8 ≤ 1023 ∧ 3 < (4#8).toNat ∧ 1023 < wordOf 4#8 0#8 ∧
      sounding.isPipe ⟨1, wordOf 0#8 63#8⟩ = true ∧ (sounding.chamber 0).state ≠ .enabled :=
  ⟨asked_head _ _ _, by decide, by decide, by decide, by decide, by decide +kernel, by decide +kernel⟩

/-- A struck point, a stage point, and a point of a chamber that is ENABLED. -/
theorem witness_PointQueryReportsPoint_others :
    swelling.isPipe ⟨2, wordOf 2#8 88#8⟩ = false ∧ swelling.isStruck ⟨2, wordOf 2#8 88#8⟩ = true ∧
      swelling.isPipe ⟨1, wordOf 2#8 128#8⟩ = false ∧ swelling.isStruck ⟨1, wordOf 2#8 128#8⟩ = false ∧
      swelling.stageIndex ⟨1, wordOf 2#8 128#8⟩ ≠ none ∧ (swelling.chamber 1).state = .enabled := by decide +kernel

theorem witness_ReleaseAllReleasesEverything :
    HeadIs (asked 0x10#8 [] great) (headOf 0x10#8 []) 0x10#8 [] := asked_head _ _ _

/-- In PLAY with no stop twice on a list. -/
theorem witness_GeneralReleased_claims :
    HeadIs (asked 0x10#8 [] listing) (headOf 0x10#8 []) 0x10#8 [] ∧ ∀ r, ((asked 0x10#8 [] listing).active r).Nodup :=
  ⟨asked_head _ _ _, listing_nodup⟩

/-- The extension link UP with its timer running. -/
def extUp : State := linkUp.setExt ⟨true, some 1, []⟩

theorem witness_ExtensionLinkFollowsFrames :
    extUp.ext.up = true ∧ extUp.ext.timer.isSome = true ∧ linkUp.ext.up = false ∧
      extUp.port.returnQueue.length < 32 ∧ linkUp.port.returnQueue.length + 1 < 32 := by decide +kernel

/-- A frame that settles, one that faults, and one that changes no state. -/
theorem witness_ChamberStatusDrivesState :
    ((chamberIn .blower true false).chamber 0).state = .blower ∧
      ((chamberIn .settle true true).chamber 0).state = .settle ∧
      ((chamberIn .enabled true true).chamber 0).state = .enabled ∧
      ((chamberIn .fault true false).chamber 0).state = .fault := by decide +kernel

/-- Chamber 0 with every one of its timers running. -/
def timed (state : ChamberState) (supplyOk : Bool) : State :=
  (chamberIn state true true).setChamber 0 { (chamberIn state true true).chamber 0 with
    windTimer := some 0, settleTimer := some 0, drainTimer := some 0, supplyOk := supplyOk }

theorem witness_ChamberTimersExpire :
    (((timed .blower true).chamber 0).windTimer.isSome = true ∧ ((timed .blower true).chamber 0).state = .blower) ∧
      (((timed .settle true).chamber 0).settleTimer.isSome = true ∧ ((timed .settle true).chamber 0).state = .settle ∧
        ((timed .settle true).chamber 0).supplyOk = true ∧ ((timed .settle false).chamber 0).supplyOk = false) ∧
      (((timed .enabled true).chamber 0).linkTimer.isSome = true ∧ ((timed .enabled true).chamber 0).isUp = true ∧
        ((timed .fault true).chamber 0).linkTimer.isSome = true ∧ ((timed .fault true).chamber 0).isUp = false) := by
  decide +kernel

/-- Chamber 0 in a phase of its lowering, sending a frame, with no group forced but one. -/
def lowered (phase : LowerPhase) (supply forced : Bool) (tx : Transmission) : State :=
  linkUp.setChamber 0 { resetChamber with
    state := .lowering phase, blower := true, supply := supply, drainTimer := some 0, tx := tx,
    groups := ⟨(List.range 16).map (fun g => (g, ⟨0, 0, forced && decide (g = 15)⟩))⟩ }

theorem witness_LoweringPhasesFollowFrames :
    ((lowered .draining true false .free).chamber 0).drainTimer.isSome = true ∧
      ((lowered .draining true false .free).chamber 0).state = .lowering .draining ∧
      ((lowered .draining true false .free).chamber 0).supply = true ∧
      ((lowered .draining false false .free).chamber 0).supply = false ∧
      ((lowered .releasing false false (.control true false)).chamber 0).tx = .control true false ∧
      ((lowered .releasing false false (.control true false)).chamber 0).state = .lowering .releasing ∧
      ((lowered .clearing true false (.drive 15 0)).chamber 0).tx = .drive 15 0 ∧
      (∀ h, h < 16 → (((lowered .clearing true false (.drive 15 0)).chamber 0).group h).forced = false) ∧
      (((lowered .clearing true true (.drive 15 0)).chamber 0).group 15).forced = true ∧
      ((lowered .clearing true false (.drive 15 0)).chamber 0).controlDue = true := by decide +kernel

/-- A free transmitter with nothing due, and a busy one. -/
def restful : State :=
  linkUp.setChamber 0 { resetChamber with
    controlDue := false, groups := ⟨(List.range 16).map (fun g => (g, ⟨0, 0, false⟩))⟩ }

theorem witness_AgedFramesAreSentAgain :
    (restful.chamber 0).tx = .free ∧ (restful.chamber 0).controlIsDue = false ∧
      (∀ h, h < 16 → h ≠ 15 → restful.groupPending 0 h = false) ∧
      ((chamberIn .enabled true true).chamber 0).tx ≠ .free := by decide +kernel

/-- Chamber 0 sends the last group's DRIVE frame with no CONTROL frame due, and the groups listed are forced. -/
def choosing (last : Nat) (forced : List Nat) : State :=
  linkUp.setChamber 0 { resetChamber with
    tx := .drive last 0, lastGroup := last, controlDue := false,
    groups := ⟨(List.range 16).map (fun g => (g, ⟨0, 0, decide (g ∈ forced)⟩))⟩ }

/-- Two groups pend: 0 comes before 9 after group 15, and 7 before 2 after group 3. -/
theorem witness_LoweringPhasesFollowFrames_chooses :
    ((choosing 15 [0, 9]).chamber 0).tx = .drive 15 0 ∧ ((choosing 15 [0, 9]).chamber 0).controlIsDue = false ∧
      (∀ g, g < 16 → ((choosing 15 [0, 9]).groupPending 0 g = true ↔ g = 0 ∨ g = 9)) ∧
      (∀ g, g < 16 → ((choosing 3 [2, 7]).groupPending 0 g = true ↔ g = 2 ∨ g = 7)) ∧
      turnAfter 15 0 = 0 ∧ turnAfter 15 9 = 9 ∧ turnAfter 3 7 = 3 ∧ turnAfter 3 2 = 14 ∧ turnAfter 3 3 = 15 := by
  decide +kernel

/-- R144: group 0 is sent after group 15, group 7 after group 3, and its forced mark and age are cleared. -/
theorem test_transmitter_wraps :
    ((after (exec (.driveSent 0) (choosing 15 [0, 9]))).chamber 0).tx = .drive 0 0 ∧
      ((after (exec (.driveSent 0) (choosing 3 [2, 7]))).chamber 0).tx = .drive 7 0 ∧
      ((after (exec (.driveSent 0) (choosing 3 [2, 7]))).chamber 0).group 7 = ⟨0, 0, false⟩ ∧
      (((after (exec (.driveSent 0) (choosing 3 [2, 7]))).chamber 0).group 2).forced = true := by decide +kernel

/-- A free transmitter, with groups 0 and 9 pending, whose group 0 reaches an age of 18 ms. -/
theorem witness_AgedFramesAreSentAgain_chooses :
    ((restful.setChamber 0 { restful.chamber 0 with lastGroup := 15 }).chamber 0).tx = .free ∧
      ((restful.setChamber 0 { (restful.chamber 0).setGroup 9 ⟨0, 0, true⟩ with lastGroup := 15 }).chamber 0).controlIsDue =
        false ∧
      (restful.setChamber 0 { (restful.chamber 0).setGroup 9 ⟨0, 0, true⟩ with lastGroup := 15 }).groupPending 0 9 =
        true := by decide +kernel

/-- The on-timer of point 96 of the Tibia runs, with a number of entries in the cipher list. -/
def onTimed (listed : Nat) : State :=
  organ.setChamber 1 { resetChamber with
    onTimers := ⟨[(96, some 0)]⟩, ciphers := List.replicate listed ⟨0, 3, 1⟩ }

theorem witness_OnTimerGuardsPoint :
    ((onTimed 31).chamber 1).onTimer 96 = some 0 ∧ ((onTimed 31).chamber 1).ciphers.length < 32 ∧
      (onTimed 31).rankOf ⟨1, 96⟩ = some 3 ∧ ((onTimed 32).chamber 1).onTimer 96 = some 0 ∧
      32 ≤ ((onTimed 32).chamber 1).ciphers.length := by decide +kernel

/-- Generator 0 serves a bar, generator 31 a tremulant. -/
theorem witness_PoolTimersAct :
    noneIdle.generator 0 = some ⟨.struck ⟨2, 601⟩, 5, true, 120, 60⟩ ∧ noneIdle.rankOf ⟨2, 601⟩ = some 9 ∧
      noneIdle.generator 31 = some ⟨.tremulant 0, 5, true, 120, 60⟩ := by decide +kernel

theorem witness_PizzicatoExpirySpendsEntry :
    (startKey 4 48 organ).pizzEntry 4 48 135 = some ⟨4, 48, 135, ⟨1, 72⟩, 150, false⟩ ∧
      (startKey 4 48 organ).claims.pizz = [] ++ ⟨4, 48, 135, ⟨1, 72⟩, 150, false⟩ :: [] := by decide +kernel

theorem witness_SplitTimerStartsHold :
    (snare.route 40).state = .measuring ∧ (snare.route 40).timer.isSome = true ∧
      (snare.route 40).fields.trigger = .split ∧ (snare.route 40).fields.holdKind = .roll := by decide +kernel

/-- Player 0 stands on step 1023, before the TIMED step 0; player 1 stands on step 5, before an END step. -/
def walking : State :=
  ((organ.setStepRecord 0 ⟨.timed, 25, [⟨.strike, 9, 24⟩]⟩).setPlayer 0 (some ⟨false, 0, false, 3, 1023, 0, []⟩)).setPlayer
    1 (some ⟨false, 1, true, 4, 5, 0, [⟨1, 3⟩]⟩)

theorem witness_StepTimerMovesPlayer :
    walking.player 0 = some ⟨false, 0, false, 3, 1023, 0, []⟩ ∧
      (walking.stepRecord ((1023 + 1) % 1024)).kind = .timed ∧
      walking.player 1 = some ⟨false, 1, true, 4, 5, 0, [⟨1, 3⟩]⟩ ∧
      (walking.stepRecord ((5 + 1) % 1024)).kind = .final ∧ (walking.seqEntry 1).loop = false := by decide +kernel

/-- Player 2 is FINISHING; player 3 stands before an END step of sequence 2, which is looped and starts at TIMED step 0. -/
def looping : State :=
  ((walking.setSeqEntry 2 ⟨some 0, true⟩).setPlayer 2 (some ⟨true, 1, true, 4, 5, 0, [⟨1, 3⟩]⟩)).setPlayer 3
    (some ⟨false, 2, true, 4, 5, 0, [⟨1, 3⟩]⟩)

theorem witness_StepTimerMovesPlayer_loops :
    looping.player 2 = some ⟨true, 1, true, 4, 5, 0, [⟨1, 3⟩]⟩ ∧
      looping.player 3 = some ⟨false, 2, true, 4, 5, 0, [⟨1, 3⟩]⟩ ∧
      (looping.stepRecord ((5 + 1) % 1024)).kind = .final ∧ (looping.seqEntry 2).loop = true ∧
      (looping.seqEntry 2).first = some 0 ∧ (looping.stepRecord 0).kind = .timed := by decide +kernel

/-- Players 4 and 5 are the IDLE ones that a delivery of sequences 2 and 1 finds first; the eight are all taken by
nine. -/
theorem witness_PlayersStart :
    ((List.range 8).filter (fun m => (looping.player m).isNone))[1]? = some 5 ∧ ([2, 1] : List Nat)[1]? = some 1 ∧
      (looping.seqEntry 2).first = some 0 ∧ (looping.stepRecord 0).kind = .timed ∧
      ((List.range 8).filter (fun m => (looping.player m).isNone)).length < [2, 2, 2, 2, 2].length := by decide +kernel

/-- R112: the first IDLE player takes the first step of the sequence, with a timer of 250 ms. -/
theorem test_delivery_starts_player :
    (startDelivery false 31 [2] looping).player 4 = some ⟨false, 2, false, 31, 0, 250, []⟩ ∧
      (startDelivery false 31 [2] looping).strikeTimer ⟨2, 600⟩ = some 40 := by decide +kernel

/-- A channel at its goal, one above it and one below it. -/
theorem witness_SlewTimerMovesStage :
    ((shutters.setChannel 0 ⟨resetCurve, 3, 3, some 0⟩).channel 0).timer.isSome = true ∧
      ((shutters.setChannel 1 ⟨resetCurve, 0, 8, some 0⟩).channel 1).stage <
        ((shutters.setChannel 1 ⟨resetCurve, 0, 8, some 0⟩).channel 1).goal ∧
      ((shutters.setChannel 2 ⟨resetCurve, 8, 0, some 0⟩).channel 2).goal <
        ((shutters.setChannel 2 ⟨resetCurve, 8, 0, some 0⟩).channel 2).stage := by decide +kernel

theorem witness_ReturnLineSendsInOrder :
    busyLink.port.line.isSome = true ∧ linkUp.port.line = none ∧ linkUp.port.returnQueue = [] := by decide +kernel

/-- A frame on the line, a number of frames waiting, and four requests. -/
def crowded (waiting : Nat) : State :=
  (linkUp.setExt ⟨true, some 5, []⟩).setPort { linkUp.port with
    line := some ⟨.forwarded [], false⟩, returnQueue := List.replicate waiting (.forwarded []),
    requests := List.replicate 4 (headOf 0x01#8 []) }

theorem witness_ReturnLineSendsInOrder_full :
    (crowded 31).port.line.isSome = true ∧ (crowded 31).port.returnQueue.length = 31 ∧ (crowded 31).ext.up = true ∧
      32 ≤ (crowded 32).port.returnQueue.length ∧ (crowded 32).port.link = .up ∧
      4 ≤ (crowded 32).port.requests.length ∧ (crowded 32).port.requests.head? = some (headOf 0x01#8 []) := by decide +kernel

/-- R158: the frame joins behind 31 and is dropped behind 32. -/
theorem test_queue_fills :
    (offer (.own 0x13#8 [0#8, 1#8]) (crowded 31)).port.returnQueue.length = 32 ∧
      (offer (.own 0x13#8 [0#8, 1#8]) (crowded 31)).latched .returnOverrun = false ∧
      (after (exec .echo (crowded 32))).port.returnQueue.length = 32 ∧
      (after (exec .echo (crowded 32))).latched .returnOverrun = true := by decide +kernel

/-- Lamps of each mode, FOLLOW of a state item and of an event item, with invert and without; the loss of the link darkens
lamp 3 with no request to be served. -/
def lamps : State :=
  ((linkUp.setLamp 1 ⟨.steady, .link, false⟩).setLamp 2 ⟨.follow, .genSteal, true⟩).setLamp 3 ⟨.follow, .link, false⟩

theorem witness_LampClocksAct_modes :
    (lamps.lamp 0).mode = .off ∧ (lamps.lamp 1).mode = .steady ∧ (lamps.lamp 2).mode = .follow ∧
      (lamps.lamp 2).invert = true ∧ (lamps.lamp 3).mode = .follow ∧ (lamps.lamp 3).invert = false ∧
      lamps.port.requests = [] ∧ (after (exec .linkTimerExpiry lamps)).port.requests = [] ∧
      lamps.port.returnQueue.length + 4 ≤ 32 ∧ (after (exec .linkTimerExpiry lamps)).lampOutputs ≠ lamps.lampOutputs := by
  decide +kernel

/-- R168: ON is lit, FOLLOW with invert of an event item not latched is lit, and FOLLOW of LINK is lit in UP. -/
theorem test_lamp_outputs : lamps.lampOutputs = 0xE#16 := by decide +kernel

/-- Lamp 15 blinks; with nothing written no lamp does. -/
theorem witness_LampClocksAct :
    ((linkUp.setLamp 15 ⟨.blink, .link, false⟩).lamp 15).mode = .blink ∧
      (linkUp.setLamp 15 ⟨.blink, .link, false⟩).port.requests = [] ∧
      (linkUp.setLamp 15 ⟨.blink, .link, false⟩).port.returnQueue.length < 32 ∧
      ∀ n, n < 16 → (linkUp.lamp n).mode ≠ .blink := by decide +kernel

end Sys2Proof.Machine
end

section
/-! PROOF. Chapter 2: the key-to-point mapping (R33 to R37). One equation for each case of the mapping, the arithmetic
of the folds, and the statement about both. -/

namespace Sys2Proof.Machine

/-! ### The compass (R18) -/

theorem RankRecord.inCompass_iff (r : RankRecord) (n : Int) :
    r.inCompass n = true ↔ r.lowest ≤ n ∧ n ≤ r.lowest + r.noteCount - 1 := by
  simp [RankRecord.inCompass, RankRecord.highest]

theorem RankRecord.inCompass_eq_false_of_below {r : RankRecord} {n : Int} (below : n < r.lowest) :
    r.inCompass n = false := by
  simp [RankRecord.inCompass, below]

theorem RankRecord.inCompass_eq_false_of_above {r : RankRecord} {n : Int} (above : r.highest < n) :
    r.inCompass n = false := by
  simp [RankRecord.inCompass, above]

/-- A rank of at least one note keeps "above" apart from "below". -/
theorem RankRecord.not_below_of_above {r : RankRecord} {n : Int} (nonempty : 1 ≤ r.noteCount) (above : r.highest < n) :
    ¬ n < r.lowest := by
  simp only [RankRecord.highest] at above
  omega

theorem RankRecord.noteOrSilent_eq (r : RankRecord) (n : Int) :
    r.noteOrSilent n =
      if r.lowest ≤ n ∧ n ≤ r.lowest + r.noteCount - 1 then some (r.pointOf n) else none := by
  simp only [RankRecord.noteOrSilent, r.inCompass_iff]

theorem RankRecord.noteOrSilent_ne_none_iff (r : RankRecord) (n : Int) :
    r.noteOrSilent n ≠ none ↔ r.lowest ≤ n ∧ n ≤ r.lowest + r.noteCount - 1 := by
  simp [r.noteOrSilent_eq]

/-! ### The folds (R36, R37) -/

/-- R36: a fold from below adds 12 at least once and stops at the first note not below L. -/
theorem foldUp_first {low n : Int} (below : n < low) :
    ∃ k : Int, 0 < k ∧ foldUp low n = n + 12 * k ∧ low ≤ foldUp low n ∧ foldUp low n - 12 < low := by
  refine ⟨-((n - low) / 12), ?_⟩
  simp only [foldUp]
  omega

/-- R37: a fold from above subtracts 12 at least once and stops at the first note not above H. -/
theorem foldDown_first {high n : Int} (above : high < n) :
    ∃ k : Int, 0 < k ∧ foldDown high n = n - 12 * k ∧ foldDown high n ≤ high ∧ high < foldDown high n + 12 := by
  refine ⟨-((high - n) / 12), ?_⟩
  simp only [foldDown]
  omega

/-! ### The target, case by case (R33 to R37) -/

section Target

variable {r : RankRecord} {n : Int} (sounding : r.kind ≠ .none)
include sounding

/-- R34: neither the breaks nor the borrow rank are consulted. -/
theorem noteTarget_of_inCompass (inside : r.inCompass n = true) (borrow : Option RankRecord) (low high : Break) :
    noteTarget r borrow low high n = some (r.pointOf n) := by
  simp [noteTarget, sounding, inside]

/-- R35: the borrow rank alone decides. -/
theorem noteTarget_below_borrow (below : n < r.lowest) (b : RankRecord) (low high : Break) :
    noteTarget r (some b) low high n = borrowTarget b n := by
  simp [noteTarget, sounding, RankRecord.inCompass_eq_false_of_below below, below]

theorem noteTarget_below_silent (below : n < r.lowest) (high : Break) :
    noteTarget r none .silent high n = none := by
  simp [noteTarget, sounding, RankRecord.inCompass_eq_false_of_below below, below]

theorem noteTarget_below_fold (below : n < r.lowest) (high : Break) :
    noteTarget r none .fold high n = r.noteOrSilent (foldUp r.lowest n) := by
  simp [noteTarget, sounding, RankRecord.inCompass_eq_false_of_below below, below]

/-- R37: the borrow rank is not used above the compass, and the low break is not consulted. -/
theorem noteTarget_above_silent (nonempty : 1 ≤ r.noteCount) (above : r.highest < n) (borrow : Option RankRecord)
    (low : Break) : noteTarget r borrow low .silent n = none := by
  simp [noteTarget, sounding, RankRecord.inCompass_eq_false_of_above above,
    RankRecord.not_below_of_above nonempty above]

/-- R37: the fold stays in the rank itself, whatever the borrow rank. -/
theorem noteTarget_above_fold (nonempty : 1 ≤ r.noteCount) (above : r.highest < n) (borrow : Option RankRecord)
    (low : Break) : noteTarget r borrow low .fold n = r.noteOrSilent (foldDown r.highest n) := by
  simp [noteTarget, sounding, RankRecord.inCompass_eq_false_of_above above,
    RankRecord.not_below_of_above nonempty above]

end Target

theorem borrowTarget_eq (b : RankRecord) (n : Int) :
    borrowTarget b n =
      if b.kind ≠ .none ∧ b.lowest ≤ n ∧ n ≤ b.lowest + b.noteCount - 1 then some (b.pointOf n) else none := by
  by_cases absent : b.kind = .none
  · simp [borrowTarget, absent]
  · simp [borrowTarget, absent, b.noteOrSilent_eq]

/-- R35: no note below a rank's compass is found in that rank, so borrowing from itself gives silence. -/
theorem borrowTarget_eq_none_of_below {r : RankRecord} {n : Int} (below : n < r.lowest) : borrowTarget r n = none := by
  rw [borrowTarget_eq, if_neg]
  rintro ⟨-, atLeastLowest, -⟩
  omega

/-! ### The folded target -/

/-- R36: the folded note is at or above L, so it is a point exactly when it is at or below H. -/
theorem noteOrSilent_of_lowest_le {r : RankRecord} {m : Int} (atLeast : r.lowest ≤ m) :
    r.noteOrSilent m = if m ≤ r.lowest + r.noteCount - 1 then some (r.pointOf m) else none := by
  simp only [r.noteOrSilent_eq, atLeast, true_and]

/-- R37: the folded note is at or below H, so it is a point exactly when it is at or above L. -/
theorem noteOrSilent_of_le_highest {r : RankRecord} {m : Int} (atMost : m ≤ r.lowest + r.noteCount - 1) :
    r.noteOrSilent m = if r.lowest ≤ m then some (r.pointOf m) else none := by
  simp only [r.noteOrSilent_eq, atMost, and_true]

/-- Settles O12: each clause is the mapping's equation for that case, with the first note that the fold reaches. -/
theorem mappingFoldsOrSilences : Obligations.MappingFoldsOrSilences := by
  intro r n sounding nonempty
  refine ⟨fun borrow low high atLeast atMost => ?inside, fun below b low high => ⟨?borrowed, ?selfBorrowed⟩,
    fun below high => ⟨noteTarget_below_silent sounding below high, ?foldedUp⟩,
    fun above borrow low => ⟨noteTarget_above_silent sounding nonempty above borrow low, ?foldedDown⟩⟩
  case inside =>
    exact noteTarget_of_inCompass sounding ((r.inCompass_iff n).2 ⟨atLeast, atMost⟩) borrow low high
  case borrowed =>
    rw [noteTarget_below_borrow sounding below, borrowTarget_eq]
    rfl
  case selfBorrowed =>
    rw [noteTarget_below_borrow sounding below, borrowTarget_eq_none_of_below below]
  case foldedUp =>
    obtain ⟨k, positive, byTwelves, atLeast, first⟩ := foldUp_first below
    have folds := noteTarget_below_fold sounding below high
    refine ⟨foldUp r.lowest n, k, positive, byTwelves, atLeast, first, ?_, fun octave => ?_⟩
    · exact folds.trans (noteOrSilent_of_lowest_le atLeast)
    · rw [folds, r.noteOrSilent_ne_none_iff]
      omega
  case foldedDown =>
    obtain ⟨k, positive, byTwelves, atMost, first⟩ := foldDown_first above
    have folds := noteTarget_above_fold sounding nonempty above borrow low
    refine ⟨foldDown r.highest n, k, positive, byTwelves, atMost, first, ?_, fun octave => ?_⟩
    · exact folds.trans (noteOrSilent_of_le_highest atMost)
    · simp only [RankRecord.highest] at atMost first folds ⊢
      rw [folds, r.noteOrSilent_ne_none_iff]
      omega

end Sys2Proof.Machine
end

section
/-! PROOF. Chapter 8: CHAMBER-RAISE and CHAMBER-LOWER (R136, R137). The two requests share their form, one chamber number;
what they do is a change of chamber state with its STATE latch (R142), and on a lowering the forced groups (R140). -/

namespace Sys2Proof.Machine

/-! ### A latch is the flag and a report (R165, R167) -/

theorem announce_reportsOnly (before s : State) : ReportsOnly s (announce before s) := by
  unfold announce
  split
  · split
    · exact held_reportsOnly s true s.status.heldLamps
    · exact offer_reportsOnly _ s
  · exact .refl s

/-- A state item has no stretch, so its flag is all that a latch writes. -/
theorem setFlag_of_stateItem {i : StatusItem} (stateItem : isEvent i = false) (s : State) :
    setFlag i s = s.setLatched i true := by
  simp [setFlag, stateItem]

theorem latch_reportsOnly {i : StatusItem} (stateItem : isEvent i = false) (s : State) :
    ReportsOnly (s.setLatched i true) (latch i s) := by
  rw [latch, setFlag_of_stateItem stateItem]
  exact announce_reportsOnly s _

/-- R167: the NOTICE of a latch is held while a request is being served. -/
theorem latch_port_of_serving {s : State} (serving : s.port.requests ≠ []) (i : StatusItem) :
    (latch i s).port = s.port :=
  (port_keptByLatches serving).latch i s rfl

/-! ### A change of chamber state (R142) -/

theorem setChamber_reportsOnly_of_sameLogic (s : State) (c : Nat) {x y : Chamber} (same : x.sameLogic y) :
    ReportsOnly (s.setChamber c x) (s.setChamber c y) where
  pending := rfl
  ext := rfl
  scan := rfl
  engine := rfl
  claims := rfl
  pool := rfl
  router := rfl
  sequencer := rfl
  expression := rfl
  chambers d := by
    simp only [chamber_setChamber]
    split
    · exact same
    · exact .refl _
  port := rfl
  status := rfl
  flags _ _ := rfl
  outgoing := ⟨[], by simp [State.outgoing, State.setChamber]⟩

theorem changeChamber_chamber (c d : Nat) (x : Chamber) (s : State) :
    (changeChamber c x s).chamber d = if d = c then x else s.chamber d := by
  have written : (changeChamber c x s).chambers = (s.setChamber c x).chambers := by
    simp only [changeChamber]
    split
    · rfl
    · exact latch_chambers _ _
  rw [State.chamber, written]
  exact chamber_setChamber s c d x

section Changed

variable {s : State} {c : Nat} {x : Chamber} (changed : stateCode x.state ≠ stateCode (s.chamber c).state)
include changed

theorem changeChamber_of_changed : changeChamber c x s = latch (.state c) (s.setChamber c x) := by
  simp only [changeChamber, if_neg changed]

/-- The chamber as the rules give it, `y`, with STATE latched: what `x` has more is its transmitter's business. -/
theorem changeChamber_reportsOnly {y : Chamber} (same : y.sameLogic x) :
    ReportsOnly ((s.setChamber c y).setLatched (.state c) true) (changeChamber c x s) := by
  rw [changeChamber_of_changed changed]
  have written : ReportsOnly ((s.setChamber c y).setLatched (.state c) true)
      ((s.setChamber c x).setLatched (.state c) true) :=
    setChamber_reportsOnly_of_sameLogic (s.setLatched (.state c) true) c same
  exact written.trans (latch_reportsOnly rfl _)

theorem changeChamber_port_of_serving (serving : s.port.requests ≠ []) : (changeChamber c x s).port = s.port := by
  rw [changeChamber_of_changed changed]
  exact latch_port_of_serving (s := s.setChamber c x) serving _

theorem changeChamber_strap : (changeChamber c x s).status.strap = s.status.strap :=
  (changeChamber_reportsOnly changed (.refl x)).strap

end Changed

/-! ### The request at the head (R157) -/

theorem finishService_chamber (tag : Byte) (before : State) (acted : Served) (c : Nat) :
    (finishService tag before acted).chamber c = acted.1.chamber c := by
  simp [State.chamber, finishService, leaveQueue, sendReply]

section Head

/-- The relay after the service of the request at the head, its transmitters having chosen (R144). -/
def State.afterService (s : State) (r : Request) (acted : Served) : State := transmitAll (finishService r.tag s acted)

variable {i : Instr} {s : State} {r : Request} {code : Byte} {fields : Bytes} {act : Bytes → State → Served}

theorem HeadIs.serving (head : HeadIs s r code fields) : s.port.requests ≠ [] := by
  obtain ⟨first, -, -⟩ := head
  rintro empty
  simp [empty] at first

theorem HeadIs.serveHead_eq (head : HeadIs s r code fields) :
    serveHead (hasCode code) act s = .next (s.afterService r (act fields s)) := by
  obtain ⟨first, rfl, rfl⟩ := head
  obtain ⟨rest, queue⟩ := List.head?_eq_some_iff.1 first
  simp [serveHead, queue, hasCode, State.afterService]

variable (served : exec i s = serveHead (hasCode code) act s) (head : HeadIs s r code fields)
include served head

/-- A request whose acts left the relay as `u`, the console port and the strap address alone: its state after the service
is named, for what a statement says of the transmitters. -/
theorem HeadIs.answers {u : State} {reply : Reply} (acts : act fields s = (u, reply)) (port : u.port = s.port)
    (strap : u.status.strap = s.status.strap) :
    exec i s = .next (s.afterService r (u, reply)) ∧ Answered s (s.afterService r (u, reply)) r.tag reply ∧
      ReportsOnly u (s.afterService r (u, reply)) := by
  have ends := head.serveHead_eq (act := act)
  obtain ⟨first, rfl, rfl⟩ := head
  obtain ⟨rest, queue⟩ := List.head?_eq_some_iff.1 first
  obtain ⟨t, ran, answered, reports⟩ :=
    serveHead_answers (serves := hasCode r.code) (act := act) queue (by simp [hasCode]) (by rw [acts, port])
      (by rw [acts, strap])
  rw [acts] at ends answered reports
  obtain rfl : s.afterService r (u, reply) = t := by
    injection ends.symm.trans ran
  exact ⟨served.trans ends, answered, reports⟩

theorem HeadIs.answeredUnchanged {reply : Reply} (acts : act fields s = (s, reply)) :
    AnsweredUnchanged i s r reply :=
  ⟨_, head.answers served acts rfl rfl⟩

end Head

/-! ### A request for one chamber (R161, R175) -/

/-- The form that CHAMBER-RAISE and CHAMBER-LOWER share: one chamber number and no further field. -/
def chamberRequest (serve : Nat → State → Served) : Bytes → State → Served :=
  withNumber 3 fun c rest => withNoMore 1 rest (serve c)

theorem exec_chamberRaise (s : State) :
    exec .chamberRaise s = serveHead (hasCode 0x06#8) (chamberRequest raiseChamber) s := rfl

theorem exec_chamberLower (s : State) :
    exec .chamberLower s = serveHead (hasCode 0x07#8) (chamberRequest lowerChamber) s := rfl

theorem chamberRequest_beyond {c : Byte} (beyond : 3 < c.toNat) (serve : Nat → State → Served) (s : State) :
    chamberRequest serve [c] s = (s, .badIndex) := by
  simp [chamberRequest, withNumber, Nat.not_le.2 beyond]

theorem chamberRequest_inRange {c : Byte} (inRange : c.toNat ≤ 3) (serve : Nat → State → Served) (s : State) :
    chamberRequest serve [c] s = serve c.toNat s := by
  simp [chamberRequest, withNumber, inRange, withNoMore, withFields, endFields]

/-! ### Raising and lowering, state by state (R136, R137) -/

section ByState

variable {s : State} {c : Nat}

theorem raiseChamber_dark_present (dark : (s.chamber c).state = .dark) (present : (s.chamber c).present = true) :
    raiseChamber c s = (enterBlower c s, .done []) := by
  simp [raiseChamber, dark, present]

theorem raiseChamber_dark_absent (dark : (s.chamber c).state = .dark) (absent : (s.chamber c).present = false) :
    raiseChamber c s = (s, .chamberBusy) := by
  simp [raiseChamber, dark, absent]

theorem raiseChamber_enabled (enabled : (s.chamber c).state = .enabled) : raiseChamber c s = (s, .done []) := by
  simp [raiseChamber, enabled]

theorem raiseChamber_busy
    (busy : (s.chamber c).state = .blower ∨ (s.chamber c).state = .settle ∨ (s.chamber c).state = .fault ∨
      ∃ phase, (s.chamber c).state = .lowering phase) :
    raiseChamber c s = (s, .chamberBusy) := by
  obtain state | state | state | ⟨phase, state⟩ := busy <;> simp [raiseChamber, state]

theorem lowerChamber_down (down : (s.chamber c).state = .dark ∨ ∃ phase, (s.chamber c).state = .lowering phase) :
    lowerChamber c s = (s, .done []) := by
  obtain state | ⟨phase, state⟩ := down <;> simp [lowerChamber, state]

/-- The states that R137 lowers, and that entry to LOWERING therefore changes. -/
theorem lowerChamber_up
    (up : (s.chamber c).state = .blower ∨ (s.chamber c).state = .settle ∨ (s.chamber c).state = .enabled ∨
      (s.chamber c).state = .fault) :
    lowerChamber c s = (enterLowering c s, .done []) ∧
      stateCode (.lowering .clearing) ≠ stateCode (s.chamber c).state := by
  obtain state | state | state | state := up <;> simp [lowerChamber, state, stateCode]

end ByState

/-! ### Entry to BLOWER (R136) -/

/-- R136: the chamber on entry to BLOWER, its transmitter as it was. -/
def Chamber.raised (ch : Chamber) : Chamber :=
  { ch with state := .blower, blower := true, windTimer := some (1000 * ch.windTimeout) }

/-- R134, R136: the chamber on entry to BLOWER, a CONTROL frame due when the blower line has changed. -/
def Chamber.raisedDue (ch : Chamber) : Chamber :=
  { ch.setLines true ch.supply with state := .blower, windTimer := some (1000 * ch.windTimeout) }

theorem enterBlower_eq (c : Nat) (s : State) :
    enterBlower c s = changeChamber c (s.chamber c).raisedDue s := rfl

theorem Chamber.raised_sameLogic (ch : Chamber) : ch.raised.sameLogic ch.raisedDue := rfl

/-! ### The forced groups of a lowering (R140, R144) -/

theorem Chamber.group_setGroup (ch : Chamber) (g h : Nat) (x : Group) :
    (ch.setGroup g x).group h = if h = g then x else ch.group h :=
  Table.get_put ch.groups resetGroup h g x

/-- Groups of a chamber marked forced, one after the other. -/
def Chamber.forceEach (gs : List Nat) (ch : Chamber) : Chamber :=
  gs.foldl (fun x g => x.setGroup g { x.group g with forced := true }) ch

theorem Chamber.forceAll_eq (ch : Chamber) : ch.forceAll = ch.forceEach (List.range 16) := rfl

theorem Chamber.forceEach_groups (gs : List Nat) (ch : Chamber) :
    ch.forceEach gs = { ch with groups := (ch.forceEach gs).groups } := by
  induction gs generalizing ch with
  | nil => rfl
  | cons g rest ih => exact ih (ch.setGroup g { ch.group g with forced := true })

theorem Chamber.forceEach_forced {gs : List Nat} {ch : Chamber} {h : Nat}
    (marked : h ∈ gs ∨ (ch.group h).forced = true) : ((ch.forceEach gs).group h).forced = true := by
  induction gs generalizing ch with
  | nil => simpa [forceEach] using marked
  | cons g rest ih =>
    refine ih (ch := ch.setGroup g { ch.group g with forced := true }) ?_
    rw [Chamber.group_setGroup]
    by_cases first : h = g
    · simp [first]
    · simpa [first] using marked

/-- Forcing touches the groups alone. -/
theorem Chamber.forceAll_groups (ch : Chamber) : ch.forceAll = { ch with groups := ch.forceAll.groups } := by
  rw [ch.forceAll_eq]
  exact ch.forceEach_groups _

theorem Chamber.forceAll_tx (ch : Chamber) : ch.forceAll.tx = ch.tx := by
  rw [ch.forceAll_groups]

theorem Chamber.forceAll_forced (ch : Chamber) {g : Nat} (inRange : g < 16) :
    (ch.forceAll.group g).forced = true := by
  rw [ch.forceAll_eq]
  exact Chamber.forceEach_forced (.inl (List.mem_range.2 inRange))

theorem transmit_chamber_other {c d : Nat} (other : c ≠ d) (s : State) :
    (transmit d s).chamber c = s.chamber c := by
  simp only [transmit]
  split
  · rfl
  · split
    · rw [chamber_setChamber, if_neg other]
    · split
      · rw [chamber_setChamber, if_neg other]
      · rfl

/-- R144: the transmitter leaves its chamber as it was, or it was free and a CONTROL or a DRIVE frame starts. -/
theorem transmit_chamber_own (c : Nat) (s : State) :
    (transmit c s).chamber c = s.chamber c ∨
      (s.chamber c).tx = .free ∧
        ((transmit c s).chamber c = startControl (s.chamber c) ∨
          ∃ g, (transmit c s).chamber c = startDrive (s.chamber c) g (s.nextImage c g)) := by
  simp only [transmit]
  split
  case isTrue busy => exact .inl rfl
  case isFalse notBusy =>
    have free : (s.chamber c).tx = .free := not_not.1 notBusy
    split
    · exact .inr ⟨free, .inl (chamber_setChamber_same ..)⟩
    · split
      · exact .inr ⟨free, .inr ⟨_, chamber_setChamber_same ..⟩⟩
      · exact .inl rfl

theorem nextImage_of_not_enabled {s : State} {c : Nat} (notEnabled : (s.chamber c).state ≠ .enabled) (g : Nat) :
    s.nextImage c g = 0 := by
  rw [State.nextImage, if_neg notEnabled]

/-- R140, R144: the chamber `x`, not ENABLED, has come from `before`, and its groups are all forced, or all but the one
whose frame, all off, its transmitter is sending; that transmitter was then free in `before`. -/
structure ForcedButSending (before x : Chamber) : Prop where
  notEnabled : x.state ≠ .enabled
  free : x.tx = .free → before.tx = .free
  forced : ∀ g, g < 16 → (x.group g).forced = true ∨ before.tx = .free ∧ x.tx = .drive g 0

section Forced

variable {before : Chamber} {s : State} {c : Nat} (stands : ForcedButSending before (s.chamber c))
include stands

theorem ForcedButSending.startControl (free : (s.chamber c).tx = .free) :
    ForcedButSending before (startControl (s.chamber c)) where
  notEnabled := stands.notEnabled
  free := nofun
  forced g inRange := by
    obtain forced | ⟨-, sending⟩ := stands.forced g inRange
    · exact .inl forced
    · cases free.symm.trans sending

theorem ForcedButSending.startDrive (free : (s.chamber c).tx = .free) (g : Nat) :
    ForcedButSending before (startDrive (s.chamber c) g (s.nextImage c g)) where
  notEnabled := stands.notEnabled
  free := nofun
  forced h inRange := by
    by_cases sent : h = g
    · rw [nextImage_of_not_enabled stands.notEnabled, sent]
      exact .inr ⟨stands.free free, rfl⟩
    · obtain forced | ⟨-, sending⟩ := stands.forced h inRange
      · refine .inl (Eq.trans (congrArg Group.forced ?_) forced)
        exact ((s.chamber c).group_setGroup g h _).trans (if_neg sent)
      · cases free.symm.trans sending

theorem ForcedButSending.transmit (d : Nat) : ForcedButSending before ((transmit d s).chamber c) := by
  by_cases own : c = d
  · subst own
    obtain same | ⟨free, control | ⟨g, drive⟩⟩ := transmit_chamber_own c s
    · rwa [same]
    · rw [control]
      exact stands.startControl free
    · rw [drive]
      exact stands.startDrive free g
  · rwa [transmit_chamber_other own]

theorem ForcedButSending.transmitAll : ForcedButSending before ((transmitAll s).chamber c) :=
  forEach_keeps (P := fun t => ForcedButSending before (t.chamber c)) (fun d _ stands => stands.transmit d) _ s stands

end Forced

/-! ### Entry to LOWERING (R137, R140) -/

/-- R137: the chamber on entry to LOWERING, its groups as they were. -/
def Chamber.lowering (ch : Chamber) : Chamber :=
  { ch with state := .lowering .clearing, windTimer := none, settleTimer := none }

@[simp] theorem Chamber.lowering_state (ch : Chamber) : ch.lowering.state = .lowering .clearing := rfl

@[simp] theorem Chamber.lowering_tx (ch : Chamber) : ch.lowering.tx = ch.tx := rfl

@[simp] theorem Chamber.lowering_group (ch : Chamber) (g : Nat) : ch.lowering.group g = ch.group g := rfl

theorem Chamber.lowering_sameLogic_of_groups (ch : Chamber) (groups : Table Group) :
    ch.lowering.sameLogic { ch with groups := groups }.lowering := rfl

theorem Chamber.lowering_sameLogic (ch : Chamber) : ch.lowering.sameLogic ch.forceAll.lowering := by
  rw [ch.forceAll_groups]
  exact ch.lowering_sameLogic_of_groups _

theorem Chamber.forceAll_lowering_stands (ch : Chamber) : ForcedButSending ch ch.forceAll.lowering where
  notEnabled := by simp
  free := by simp [ch.forceAll_tx]
  forced g inRange := by simp [ch.forceAll_forced inRange]

theorem enterLowering_eq (c : Nat) (s : State) :
    enterLowering c s = changeChamber c (s.chamber c).forceAll.lowering s := rfl

/-! ### The statements -/

/-- Settles O39: the acts of each case answer as R136's table says; the one that enters BLOWER is a change of chamber
state, and the CONTROL frame it makes due is among what a report leaves open. -/
theorem chamberRaise : Obligations.ChamberRaise := by
  intro s r c head
  have served := exec_chamberRaise s
  refine ⟨fun beyond => head.answeredUnchanged served (chamberRequest_beyond beyond _ s), fun inRange => ?_⟩
  have acts := chamberRequest_inRange inRange raiseChamber s
  refine ⟨fun dark present => ?raised, fun dark absent => ?absent, fun enabled => ?enabled, fun busy => ?busy⟩
  case raised =>
    have changed : stateCode .blower ≠ stateCode (s.chamber c.toNat).state := by simp [dark, stateCode]
    have raises := raiseChamber_dark_present dark present
    rw [enterBlower_eq] at raises
    obtain ⟨ran, answered, reports⟩ :=
      head.answers served (acts.trans raises) (changeChamber_port_of_serving changed head.serving)
        (changeChamber_strap changed)
    exact ⟨_, ran, answered, (changeChamber_reportsOnly changed (Chamber.raised_sameLogic _)).trans reports⟩
  case absent => exact head.answeredUnchanged served (acts.trans (raiseChamber_dark_absent dark absent))
  case enabled => exact head.answeredUnchanged served (acts.trans (raiseChamber_enabled enabled))
  case busy => exact head.answeredUnchanged served (acts.trans (raiseChamber_busy busy))

/-- Settles O40: the acts of each case answer as R137's table says; on entry every group is forced, and the choice of the
transmitters at the end of the service unmarks at most the group whose frame it starts. -/
theorem chamberLower : Obligations.ChamberLower := by
  intro s r c head
  have served := exec_chamberLower s
  refine ⟨fun beyond => head.answeredUnchanged served (chamberRequest_beyond beyond _ s), fun inRange => ?_⟩
  have acts := chamberRequest_inRange inRange lowerChamber s
  refine ⟨fun down => head.answeredUnchanged served (acts.trans (lowerChamber_down down)), fun up => ?_⟩
  obtain ⟨lowers, changed⟩ := lowerChamber_up up
  rw [enterLowering_eq] at lowers
  obtain ⟨ran, answered, reports⟩ :=
    head.answers served (acts.trans lowers) (changeChamber_port_of_serving changed head.serving)
      (changeChamber_strap changed)
  refine ⟨_, ran, answered,
    (changeChamber_reportsOnly changed (Chamber.lowering_sameLogic _)).trans reports, fun g => ?_⟩
  have entered : ForcedButSending (s.chamber c.toNat)
      ((finishService r.tag s
        (changeChamber c.toNat (s.chamber c.toNat).forceAll.lowering s, .done [])).chamber c.toNat) := by
    rw [finishService_chamber, changeChamber_chamber, if_pos rfl]
    exact Chamber.forceAll_lowering_stands _
  exact entered.transmitAll.forced g

end Sys2Proof.Machine
end

section
/-! PROOF. Section 11.4: what a field that has been read was sent as, field kind by field kind, and from it what every table
record that has been read was sent as (R174, R175). -/

namespace Sys2Proof.Machine

variable {α β : Type}

/-! ### Bytes and words -/

theorem byteOf_toNat (b : Byte) : byteOf b.toNat = b := BitVec.ofNat_toNat ..

theorem toNat_byteOf {n : Nat} (small : n < 256) : (byteOf n).toNat = n := by
  simp only [byteOf, BitVec.toNat_ofNat]
  omega

theorem wordBytes_wordOf (a b : Byte) : wordBytes (wordOf a b) = [a, b] := by
  have high : wordOf a b / 256 = a.toNat := by have := b.isLt; unfold wordOf; omega
  have low : byteOf (wordOf a b) = b := by
    apply BitVec.eq_of_toNat_eq
    simp only [byteOf, BitVec.toNat_ofNat, wordOf]
    have := b.isLt
    omega
  rw [wordBytes, high, low, byteOf_toNat]

theorem wordOf_lt (a b : Byte) : wordOf a b < 65536 := by
  have := a.isLt
  have := b.isLt
  unfold wordOf
  omega

theorem wordOf_wordBytes {n : Nat} (small : n < 65536) : wordOf (byteOf (n / 256)) (byteOf n) = n := by
  simp only [wordOf, byteOf, BitVec.toNat_ofNat]
  omega

theorem intByte_toInt (b : Byte) : intByte b.toInt = b := BitVec.ofInt_toInt

theorem toInt_intByte {n : Int} (holds : byteHolds n) : (intByte n).toInt = n := by
  obtain ⟨low, high⟩ := holds
  simp only [intByte, BitVec.toInt_ofInt]
  exact Int.bmod_eq_of_le (by omega) (by omega)

theorem byteHolds_toInt (b : Byte) : byteHolds b.toInt :=
  ⟨by have := @BitVec.le_toInt 8 b; omega, by have := @BitVec.toInt_lt 8 b; omega⟩

/-! ### One field read (R174) -/

/-- What a reader of one field has read was sent by `send`, in the range `ok`, and every such value is read. -/
def Reads (take : Bytes → Option (α × Bytes)) (send : α → Bytes) (ok : α → Prop) : Prop :=
  ∀ bs v rest, take bs = some (v, rest) ↔ ok v ∧ bs = send v ++ rest

theorem takeNat_reads (lo hi : Nat) :
    Reads (takeNat lo hi) (fun n => [byteOf n]) (fun n => (lo ≤ n ∧ n ≤ hi) ∧ n < 256) := by
  intro bs v rest
  cases bs with
  | nil => simp [takeNat]
  | cons b bs =>
    constructor
    · intro took
      simp only [takeNat, Option.ite_none_right_eq_some, Option.some.injEq, Prod.mk.injEq] at took
      obtain ⟨range, rfl, rfl⟩ := took
      exact ⟨⟨range, b.isLt⟩, by simp only [byteOf_toNat, List.cons_append, List.nil_append]⟩
    · rintro ⟨⟨range, small⟩, sent⟩
      obtain ⟨rfl, rfl⟩ := List.cons.inj sent
      simp only [takeNat, toNat_byteOf small, if_pos range]

theorem takeWord_reads (lo hi : Nat) :
    Reads (takeWord lo hi) wordBytes (fun n => (lo ≤ n ∧ n ≤ hi) ∧ n < 65536) := by
  intro bs v rest
  constructor
  · intro took
    unfold takeWord at took
    split at took
    case h_1 a b bs =>
      simp only [Option.ite_none_right_eq_some, Option.some.injEq, Prod.mk.injEq] at took
      obtain ⟨range, rfl, rfl⟩ := took
      exact ⟨⟨range, wordOf_lt a b⟩, by rw [wordBytes_wordOf]; rfl⟩
    case h_2 => cases took
  · rintro ⟨⟨range, small⟩, rfl⟩
    simp only [takeWord, wordBytes, List.cons_append, wordOf_wordBytes small, if_pos range, List.nil_append]

theorem takeInt_reads (lo hi : Int) :
    Reads (takeInt lo hi) (fun n => [intByte n]) (fun n => (lo ≤ n ∧ n ≤ hi) ∧ byteHolds n) := by
  intro bs v rest
  cases bs with
  | nil => simp [takeInt]
  | cons b bs =>
    constructor
    · intro took
      simp only [takeInt, Option.ite_none_right_eq_some, Option.some.injEq, Prod.mk.injEq] at took
      obtain ⟨range, rfl, rfl⟩ := took
      exact ⟨⟨range, byteHolds_toInt b⟩, by simp only [intByte_toInt, List.cons_append, List.nil_append]⟩
    · rintro ⟨⟨range, holds⟩, sent⟩
      obtain ⟨rfl, rfl⟩ := List.cons.inj sent
      simp only [takeInt, toInt_intByte holds, if_pos range]

/-- An enumeration's values, each once, and few enough for a byte. -/
theorem takeEnum_reads [BEq α] [LawfulBEq α] {values : List α} (once : values.Nodup) (few : values.length ≤ 256) :
    Reads (takeEnum values) (fun v => [enumByte values v]) (fun v => v ∈ values) := by
  intro bs v rest
  cases bs with
  | nil => simp [takeEnum]
  | cons b bs =>
    constructor
    · intro took
      simp only [takeEnum] at took
      split at took
      case h_1 w found =>
        obtain ⟨rfl, rfl⟩ : w = v ∧ bs = rest := by simpa using took
        obtain ⟨inside, at_⟩ := List.getElem?_eq_some_iff.1 found
        have index : values.idxOf w = b.toNat := by rw [← at_]; exact once.idxOf_getElem _ _
        exact ⟨at_ ▸ List.getElem_mem _, by simp only [enumByte, index, byteOf_toNat, List.cons_append, List.nil_append]⟩
      case h_2 => cases took
    · rintro ⟨listed, sent⟩
      obtain ⟨rfl, rfl⟩ := List.cons.inj sent
      have inside := List.idxOf_lt_length_iff.2 listed
      simp only [takeEnum, enumByte, toNat_byteOf (show values.idxOf v < 256 by omega), List.getElem?_eq_getElem inside,
        List.getElem_idxOf]

theorem takeYesNo_reads : Reads takeYesNo (fun b => [yesNoByte b]) (fun _ => True) := by
  intro bs v rest
  have enum := takeEnum_reads (values := [false, true]) (by decide) (by decide) bs v rest
  have byte : enumByte [false, true] v = yesNoByte v := by cases v <;> decide
  have listed : v ∈ [false, true] := by cases v <;> decide
  simp only [byte, listed] at enum
  exact enum

theorem takeNatOr_reads {hi : Nat} (small : hi < 255) :
    Reads (takeNatOr hi) natOrBytes (fun x => ∀ n, x = some n → n ≤ hi) := by
  intro bs v rest
  cases bs with
  | nil => cases v <;> simp [takeNatOr, natOrBytes]
  | cons b bs =>
    have none_byte : b.toNat = 0xFF ↔ b = 0xFF#8 := ⟨fun h => BitVec.eq_of_toNat_eq h, fun h => by rw [h]; rfl⟩
    constructor
    · intro took
      simp only [takeNatOr] at took
      split at took
      case isTrue absent =>
        obtain ⟨rfl, rfl⟩ : none = v ∧ bs = rest := by simpa using took
        exact ⟨nofun, by rw [none_byte.1 absent]; rfl⟩
      case isFalse =>
        simp only [Option.ite_none_right_eq_some, Option.some.injEq, Prod.mk.injEq] at took
        obtain ⟨range, rfl, rfl⟩ := took
        exact ⟨fun n same => by injection same; omega, by rw [natOrBytes, byteOf_toNat]; rfl⟩
    · rintro ⟨range, sent⟩
      cases v with
      | none =>
        obtain ⟨rfl, rfl⟩ := List.cons.inj sent
        rfl
      | some n =>
        have bound := range n rfl
        obtain ⟨rfl, rfl⟩ := List.cons.inj sent
        simp only [takeNatOr, toNat_byteOf (show n < 256 by omega), if_neg (show n ≠ 255 by omega), if_pos bound]

theorem takeItems_reads {take : Bytes → Option (α × Bytes)} {send : α → Bytes} {ok : α → Prop} (reads : Reads take send ok)
    (n : Nat) : Reads (takeItems take n) (fun xs => xs.flatMap send) (fun xs => xs.length = n ∧ ∀ x ∈ xs, ok x) := by
  induction n with
  | zero =>
    intro bs xs rest
    constructor
    · intro took
      obtain ⟨rfl, rfl⟩ : [] = xs ∧ bs = rest := by simpa [takeItems] using took
      simp
    · rintro ⟨⟨empty, -⟩, rfl⟩
      obtain rfl := List.eq_nil_of_length_eq_zero empty
      rfl
  | succ n ih =>
    intro bs xs rest
    constructor
    · intro took
      simp only [takeItems] at took
      split at took
      case h_1 => cases took
      case h_2 v after first =>
        split at took
        case h_1 => cases took
        case h_2 vs left others =>
          obtain ⟨rfl, rfl⟩ : v :: vs = xs ∧ left = rest := by simpa using took
          obtain ⟨fits, rfl⟩ := (reads _ _ _).1 first
          obtain ⟨⟨length, all⟩, rfl⟩ := (ih _ _ _).1 others
          exact ⟨⟨by simp [length], by simpa [fits] using all⟩, by simp⟩
    · rintro ⟨⟨length, all⟩, rfl⟩
      cases xs with
      | nil => simp at length
      | cons x xs =>
        have first := (reads (send x ++ (xs.flatMap send ++ rest)) x _).2 ⟨all x (by simp), rfl⟩
        have others := (ih (xs.flatMap send ++ rest) xs rest).2
          ⟨⟨by simpa using length, fun y listed => all y (by simp [listed])⟩, rfl⟩
        simp only [List.flatMap_cons, List.append_assoc, takeItems, first, others]

theorem takeList_reads {take : Bytes → Option (α × Bytes)} {send : α → Bytes} {ok : α → Prop} {max : Nat}
    (reads : Reads take send ok) (small : max < 256) :
    Reads (takeList max take) (listBytes send) (fun xs => xs.length ≤ max ∧ ∀ x ∈ xs, ok x) := by
  intro bs xs rest
  constructor
  · intro took
    simp only [takeList] at took
    split at took
    case h_1 n after count =>
      obtain ⟨⟨⟨-, range⟩, -⟩, rfl⟩ := (takeNat_reads _ _ _ _ _).1 count
      obtain ⟨⟨rfl, all⟩, rfl⟩ := (takeItems_reads reads n _ _ _).1 took
      exact ⟨⟨range, all⟩, rfl⟩
    case h_2 => cases took
  · rintro ⟨⟨range, all⟩, rfl⟩
    have count : takeNat 0 max (byteOf xs.length :: (xs.flatMap send ++ rest)) = some (xs.length, xs.flatMap send ++ rest) :=
      (takeNat_reads _ _ _ _ _).2 ⟨⟨⟨Nat.zero_le _, range⟩, by omega⟩, rfl⟩
    have items := (takeItems_reads reads xs.length (xs.flatMap send ++ rest) xs rest).2 ⟨⟨rfl, all⟩, rfl⟩
    simp only [listBytes, takeList, List.cons_append, count, items]

theorem takeBreakpoint_reads : Reads takeBreakpoint (fun b => wordBytes b.1 ++ wordBytes b.2)
    (fun b => b.1 ≤ 1023 ∧ b.2 ≤ 1000) := by
  intro bs v rest
  constructor
  · intro took
    unfold takeBreakpoint at took
    split at took
    case h_1 => cases took
    case h_2 x after first =>
      split at took
      case h_1 => cases took
      case h_2 y left second =>
        obtain ⟨rfl, rfl⟩ : (x, y) = v ∧ left = rest := by simpa using took
        obtain ⟨⟨⟨-, xFits⟩, -⟩, rfl⟩ := (takeWord_reads _ _ _ _ _).1 first
        obtain ⟨⟨⟨-, yFits⟩, -⟩, rfl⟩ := (takeWord_reads _ _ _ _ _).1 second
        exact ⟨⟨xFits, yFits⟩, by simp⟩
  · rintro ⟨⟨xFits, yFits⟩, rfl⟩
    have first := (takeWord_reads 0 1023 (wordBytes v.1 ++ (wordBytes v.2 ++ rest)) v.1 _).2
      ⟨⟨⟨Nat.zero_le _, xFits⟩, by omega⟩, rfl⟩
    have second := (takeWord_reads 0 1000 (wordBytes v.2 ++ rest) v.2 rest).2 ⟨⟨⟨Nat.zero_le _, yFits⟩, by omega⟩, rfl⟩
    simp only [takeBreakpoint, List.append_assoc, first, second]

/-- R107: the bytes of an action. -/
def actionBytes (a : Action) : Bytes := [enumByte actionKinds a.kind, byteOf a.rank, intByte a.note]

theorem stepBytes_eq (x : StepRecord) :
    stepBytes x = enumByte stepKinds x.kind :: wordBytes x.duration ++ listBytes actionBytes x.actions := rfl

theorem takeAction_reads :
    Reads takeAction actionBytes (fun a => a.rank ≤ 47 ∧ noteInRange a.note) := by
  have kinds : Reads (takeEnum actionKinds) (fun v => [enumByte actionKinds v]) (fun v => v ∈ actionKinds) :=
    takeEnum_reads (by decide) (by decide)
  have every : ∀ kind : ActionKind, kind ∈ actionKinds := fun kind => by cases kind <;> decide
  intro bs v rest
  constructor
  · intro took
    unfold takeAction at took
    split at took
    case h_1 => cases took
    case h_2 kind _ first =>
      split at took
      case h_1 => cases took
      case h_2 rank _ second =>
        split at took
        case h_1 => cases took
        case h_2 note left third =>
          obtain ⟨rfl, rfl⟩ : ⟨kind, rank, note⟩ = v ∧ left = rest := by simpa using took
          obtain ⟨-, rfl⟩ := (kinds _ _ _).1 first
          obtain ⟨⟨⟨-, rankFits⟩, -⟩, rfl⟩ := (takeNat_reads _ _ _ _ _).1 second
          obtain ⟨⟨noteFits, -⟩, rfl⟩ := (takeInt_reads _ _ _ _ _).1 third
          exact ⟨⟨rankFits, noteFits⟩, rfl⟩
  · rintro ⟨⟨rankFits, noteFits⟩, rfl⟩
    obtain ⟨low, high⟩ := noteFits
    have first := (kinds ([enumByte actionKinds v.kind] ++ ([byteOf v.rank] ++ ([intByte v.note] ++ rest))) v.kind _).2
      ⟨every _, rfl⟩
    have second := (takeNat_reads 0 47 ([byteOf v.rank] ++ ([intByte v.note] ++ rest)) v.rank _).2
      ⟨⟨⟨Nat.zero_le _, rankFits⟩, by omega⟩, rfl⟩
    have third := (takeInt_reads (-24) 111 ([intByte v.note] ++ rest) v.note rest).2
      ⟨⟨⟨low, high⟩, by omega, by omega⟩, rfl⟩
    simp only [actionBytes, List.cons_append, List.nil_append] at first second third ⊢
    simp only [takeAction, first, second, third]

/-- An item that a group and number name has them for its number; there is no group beyond 3. -/
theorem itemNumber_of_itemAt {g n : Nat} {i : StatusItem} (found : itemAt g n = some i) :
    itemNumber i = (g, n) ∧ i.known := by
  have known : ∀ g < 4, ∀ i ∈ groupItems g, i ∈ allItems := by decide
  have numbered : ∀ g < 4, ∀ n < (groupItems g).length,
      ((groupItems g)[n]?).all (fun i => decide (itemNumber i = (g, n))) = true := by decide
  have inGroups : g < 4 := by
    by_contra beyond
    obtain ⟨k, rfl⟩ : ∃ k, g = k + 4 := ⟨g - 4, by omega⟩
    simp [itemAt, groupItems] at found
  obtain ⟨inside, at_⟩ := List.getElem?_eq_some_iff.1 found
  have number := numbered g inGroups n inside
  rw [show (groupItems g)[n]? = some i from found] at number
  exact ⟨by simpa using number, known g inGroups i (at_ ▸ List.getElem_mem _)⟩

theorem itemAt_itemNumber {i : StatusItem} (known : i.known) :
    itemAt (itemNumber i).1 (itemNumber i).2 = some i ∧ (itemNumber i).1 < 256 ∧ (itemNumber i).2 < 256 := by
  have all : ∀ i ∈ allItems,
      itemAt (itemNumber i).1 (itemNumber i).2 = some i ∧ (itemNumber i).1 < 256 ∧ (itemNumber i).2 < 256 := by decide
  exact all i known

theorem takeItem_reads : Reads takeItem itemBytes StatusItem.known := by
  intro bs v rest
  constructor
  · intro took
    unfold takeItem at took
    split at took
    case h_1 g n bs =>
      split at took
      case h_1 i found =>
        obtain ⟨rfl, rfl⟩ : i = v ∧ bs = rest := by simpa using took
        obtain ⟨number, known⟩ := itemNumber_of_itemAt found
        exact ⟨known, by simp only [itemBytes, number, byteOf_toNat, List.cons_append, List.nil_append]⟩
      case h_2 => cases took
    case h_2 => cases took
  · rintro ⟨known, rfl⟩
    obtain ⟨found, group, number⟩ := itemAt_itemNumber known
    simp only [itemBytes, takeItem, List.cons_append, List.nil_append, toNat_byteOf group, toNat_byteOf number, found]

/-! ### Fields in order (R175) -/

theorem field_ok {no : Nat} {take : Bytes → Option (α × Bytes)} {send : α → Bytes} {ok : α → Prop}
    (reads : Reads take send ok) {bs : Bytes} {next : α → Bytes → Except Nat β} {x : β} :
    field no take bs next = .ok x ↔ ∃ v rest, (ok v ∧ bs = send v ++ rest) ∧ next v rest = .ok x := by
  unfold field
  constructor
  · intro read
    split at read
    case h_1 v rest took => exact ⟨v, rest, (reads _ _ _).1 took, read⟩
    case h_2 => cases read
  · rintro ⟨v, rest, fits, read⟩
    rw [(reads _ _ _).2 fits]
    exact read

theorem test_ok {no : Nat} {c : Bool} {next : Except Nat β} {x : β} :
    test no c next = .ok x ↔ c = true ∧ next = .ok x := by
  cases c <;> simp [test]

theorem endFields_ok {no : Nat} {bs : Bytes} {v x : β} : endFields no bs v = .ok x ↔ bs = [] ∧ v = x := by
  unfold endFields
  split <;> simp_all

end Sys2Proof.Machine
end

section
/-! PROOF. Section 11.4: every table record that has been read lies in its ranges, and stands in the bytes it was read from
(R17 to R19, R26, R74, R88, R89, R107 to R109, R123, R135, R168). -/

namespace Sys2Proof.Machine

/-! ### The tests of whole fields -/

theorem noRepeats_iff (xs : List Nat) : noRepeats xs = true ↔ xs.Nodup := by
  induction xs with
  | nil => simp [noRepeats]
  | cons x xs ih => simp [noRepeats, ih]

theorem ascendingX_iff (curve : List (Nat × Nat)) :
    ascendingX curve = true ↔ curve.Pairwise (fun a b => a.1 < b.1) := by
  have trans : ∀ {a b c : Nat × Nat}, a.1 < b.1 → b.1 < c.1 → a.1 < c.1 := Nat.lt_trans
  induction curve with
  | nil => simp [ascendingX]
  | cons a rest ih =>
    cases rest with
    | nil => simp [ascendingX]
    | cons b rest =>
      rw [ascendingX, Bool.and_eq_true, decide_eq_true_iff]
      refine (and_congr_right fun _ => ih).trans ?_
      constructor
      · rintro ⟨first, rest_rises⟩
        refine List.pairwise_cons.2 ⟨fun c listed => ?_, rest_rises⟩
        obtain rfl | behind := List.mem_cons.1 listed
        · exact first
        · exact trans first ((List.pairwise_cons.1 rest_rises).1 c behind)
      · intro rises
        obtain ⟨all, rest_rises⟩ := List.pairwise_cons.1 rises
        exact ⟨all b (by simp), rest_rises⟩

/-- R174: an absent field has no value to judge. -/
theorem takeOptional_some {α : Type} {size : Nat} {take : Bytes → Option (α × Bytes)} {send : α → Bytes} {ok : α → Prop}
    (reads : Reads take send ok) {bs rest : Bytes} {v : Option α} (took : takeOptional size take bs = some (v, rest)) :
    ∀ w, v = some w → ok w := by
  unfold takeOptional at took
  split at took
  case h_1 after _ =>
    split at took
    case h_1 w left value =>
      obtain ⟨rfl, rfl⟩ : some w = v ∧ left = rest := by simpa using took
      intro u same
      obtain rfl := Option.some.inj same
      exact ((reads _ _ _).1 value).1
    case h_2 => cases took
  case h_2 =>
    simp only [Option.ite_none_right_eq_some, Option.some.injEq, Prod.mk.injEq] at took
    obtain ⟨-, rfl, -⟩ := took
    exact nofun
  case h_3 => cases took

/-- A field read, whatever its kind. -/
theorem field_took {α β : Type} {no : Nat} {take : Bytes → Option (α × Bytes)} {bs : Bytes}
    {next : α → Bytes → Except Nat β} {x : β} (read : field no take bs next = .ok x) :
    ∃ v rest, take bs = some (v, rest) ∧ next v rest = .ok x := by
  unfold field at read
  split at read
  case h_1 v rest took => exact ⟨v, rest, took, read⟩
  case h_2 => cases read

/-! ### Records -/

theorem rankKind_reads : Reads (takeEnum rankKinds) (fun v => [enumByte rankKinds v]) (fun v => v ∈ rankKinds) :=
  takeEnum_reads (by decide) (by decide)

theorem stopKind_reads : Reads (takeEnum stopKinds) (fun v => [enumByte stopKinds v]) (fun v => v ∈ stopKinds) :=
  takeEnum_reads (by decide) (by decide)

theorem break_reads : Reads (takeEnum breaks) (fun v => [enumByte breaks v]) (fun v => v ∈ breaks) :=
  takeEnum_reads (by decide) (by decide)

theorem routeTarget_reads :
    Reads (takeEnum routeTargets) (fun v => [enumByte routeTargets v]) (fun v => v ∈ routeTargets) :=
  takeEnum_reads (by decide) (by decide)

theorem trigger_reads : Reads (takeEnum triggers) (fun v => [enumByte triggers v]) (fun v => v ∈ triggers) :=
  takeEnum_reads (by decide) (by decide)

theorem polarity_reads : Reads (takeEnum polarities) (fun v => [enumByte polarities v]) (fun v => v ∈ polarities) :=
  takeEnum_reads (by decide) (by decide)

theorem mask_reads : Reads (takeEnum masks) (fun v => [enumByte masks v]) (fun v => v ∈ masks) :=
  takeEnum_reads (by decide) (by decide)

theorem holdKind_reads : Reads (takeEnum holdKinds) (fun v => [enumByte holdKinds v]) (fun v => v ∈ holdKinds) :=
  takeEnum_reads (by decide) (by decide)

theorem stepKind_reads : Reads (takeEnum stepKinds) (fun v => [enumByte stepKinds v]) (fun v => v ∈ stepKinds) :=
  takeEnum_reads (by decide) (by decide)

theorem lampMode_reads : Reads (takeEnum lampModes) (fun v => [enumByte lampModes v]) (fun v => v ∈ lampModes) :=
  takeEnum_reads (by decide) (by decide)

theorem sequences_reads : Reads (takeList 4 (takeNat 0 15)) (listBytes fun q => [byteOf q])
    (fun xs => xs.length ≤ 4 ∧ ∀ q ∈ xs, (0 ≤ q ∧ q ≤ 15) ∧ q < 256) :=
  takeList_reads (takeNat_reads 0 15) (by decide)

theorem curve_reads : Reads (takeList 8 takeBreakpoint) (listBytes fun b => wordBytes b.1 ++ wordBytes b.2)
    (fun xs => xs.length ≤ 8 ∧ ∀ b ∈ xs, b.1 ≤ 1023 ∧ b.2 ≤ 1000) :=
  takeList_reads takeBreakpoint_reads (by decide)

theorem actions_reads : Reads (takeList 3 takeAction)
    (listBytes actionBytes)
    (fun xs => xs.length ≤ 3 ∧ ∀ a ∈ xs, a.rank ≤ 47 ∧ noteInRange a.note) :=
  takeList_reads takeAction_reads (by decide)

theorem readRank_sent {x : RankRecord} {bytes : Bytes} (read : readRank bytes = .ok x) :
    x.fits ∧ bytes = rankBytes x := by
  obtain ⟨kind, _, ⟨-, _⟩, read⟩ := (field_ok rankKind_reads).1 read
  obtain ⟨chamber, _, ⟨⟨hchamber, -⟩, _⟩, read⟩ := (field_ok (takeNat_reads _ _)).1 read
  obtain ⟨base, _, ⟨⟨hbase, -⟩, _⟩, read⟩ := (field_ok (takeWord_reads _ _)).1 read
  obtain ⟨lowest, _, ⟨⟨hlowest, -⟩, _⟩, read⟩ := (field_ok (takeInt_reads _ _)).1 read
  obtain ⟨notes, _, ⟨⟨hnotes, -⟩, _⟩, read⟩ := (field_ok (takeNat_reads _ _)).1 read
  obtain ⟨limits, read⟩ := test_ok.1 read
  obtain ⟨priority, _, ⟨⟨hpriority, -⟩, _⟩, read⟩ := (field_ok (takeNat_reads _ _)).1 read
  obtain ⟨length, _, ⟨⟨hlength, -⟩, _⟩, read⟩ := (field_ok (takeNat_reads _ _)).1 read
  obtain ⟨period, _, ⟨⟨hperiod, -⟩, _⟩, read⟩ := (field_ok (takeWord_reads _ _)).1 read
  obtain ⟨time, _, ⟨⟨htime, -⟩, _⟩, read⟩ := (field_ok (takeWord_reads _ _)).1 read
  obtain ⟨limit, _, ⟨⟨hlimit, -⟩, _⟩, read⟩ := (field_ok (takeWord_reads _ _)).1 read
  obtain ⟨_, rfl⟩ := endFields_ok.1 read
  subst_vars
  simp only [Bool.and_eq_true, decide_eq_true_iff] at limits
  refine ⟨?_, by simp [rankBytes]⟩
  unfold RankRecord.fits
  dsimp only
  omega

theorem readStop_fits {x : StopRecord} {bytes : Bytes} (read : readStop bytes = .ok x) : x.fits := by
  obtain ⟨kind, _, ⟨-, _⟩, read⟩ := (field_ok stopKind_reads).1 read
  obtain ⟨row, _, ⟨⟨hrow, -⟩, _⟩, read⟩ := (field_ok (takeNat_reads _ _)).1 read
  obtain ⟨rank, _, ⟨⟨hrank, -⟩, _⟩, read⟩ := (field_ok (takeNat_reads _ _)).1 read
  obtain ⟨offset, _, ⟨⟨hoffset, -⟩, _⟩, read⟩ := (field_ok (takeInt_reads _ _)).1 read
  obtain ⟨low, _, ⟨-, _⟩, read⟩ := (field_ok break_reads).1 read
  obtain ⟨high, _, ⟨-, _⟩, read⟩ := (field_ok break_reads).1 read
  obtain ⟨borrow, _, tookBorrow, read⟩ := field_took read
  obtain ⟨borrows, read⟩ := test_ok.1 read
  obtain ⟨pizz, _, tookPizz, read⟩ := field_took read
  obtain ⟨plucks, read⟩ := test_ok.1 read
  obtain ⟨tremulant, _, ⟨⟨htremulant, -⟩, _⟩, read⟩ := (field_ok (takeNat_reads _ _)).1 read
  obtain ⟨group, _, ⟨⟨hgroup, -⟩, _⟩, read⟩ := (field_ok (takeNat_reads _ _)).1 read
  obtain ⟨-, rfl⟩ := endFields_ok.1 read
  have borrowFits := takeOptional_some (takeNat_reads 0 47) tookBorrow
  have pizzFits := takeOptional_some (takeWord_reads 20 2000) tookPizz
  refine ⟨hrow.2, hrank.2, hoffset.1, hoffset.2, fun b same => ?_, fun n same => ?_, htremulant.2, hgroup.2⟩
  · obtain rfl : borrow = some b := same
    exact ⟨(borrowFits b rfl).1.2, by simpa using borrows⟩
  · obtain rfl : pizz = some n := same
    exact ⟨(pizzFits n rfl).1.1, (pizzFits n rfl).1.2, by simpa using plucks⟩

theorem readRoute_sent {x : RouteFields} {bytes : Bytes} (read : readRoute bytes = .ok x) :
    x.fits ∧ bytes = routeFieldBytes x := by
  obtain ⟨target, _, ⟨-, _⟩, read⟩ := (field_ok routeTarget_reads).1 read
  obtain ⟨trigger, _, ⟨-, _⟩, read⟩ := (field_ok trigger_reads).1 read
  obtain ⟨agrees, read⟩ := test_ok.1 read
  obtain ⟨inverted, _, ⟨-, _⟩, read⟩ := (field_ok polarity_reads).1 read
  obtain ⟨masked, _, ⟨-, _⟩, read⟩ := (field_ok mask_reads).1 read
  obtain ⟨defer, _, ⟨-, _⟩, read⟩ := (field_ok takeYesNo_reads).1 read
  obtain ⟨group, _, ⟨⟨hgroup, -⟩, _⟩, read⟩ := (field_ok (takeNat_reads _ _)).1 read
  obtain ⟨rank, _, ⟨⟨hrank, -⟩, _⟩, read⟩ := (field_ok (takeNat_reads _ _)).1 read
  obtain ⟨note, _, ⟨⟨hnote, -⟩, _⟩, read⟩ := (field_ok (takeInt_reads _ _)).1 read
  obtain ⟨sequences, _, ⟨⟨few, each⟩, _⟩, read⟩ := (field_ok sequences_reads).1 read
  obtain ⟨list, read⟩ := test_ok.1 read
  obtain ⟨tapRank, _, ⟨⟨htapRank, -⟩, _⟩, read⟩ := (field_ok (takeNat_reads _ _)).1 read
  obtain ⟨tapNote, _, ⟨⟨htapNote, -⟩, _⟩, read⟩ := (field_ok (takeInt_reads _ _)).1 read
  obtain ⟨holdKind, _, ⟨-, _⟩, read⟩ := (field_ok holdKind_reads).1 read
  obtain ⟨holdRank, _, ⟨⟨hholdRank, -⟩, _⟩, read⟩ := (field_ok (takeNat_reads _ _)).1 read
  obtain ⟨holdNote, _, ⟨⟨hholdNote, -⟩, _⟩, read⟩ := (field_ok (takeInt_reads _ _)).1 read
  obtain ⟨splitTime, _, ⟨⟨hsplitTime, -⟩, _⟩, read⟩ := (field_ok (takeWord_reads _ _)).1 read
  obtain ⟨_, rfl⟩ := endFields_ok.1 read
  subst_vars
  simp only [Bool.and_eq_true, noRepeats_iff, Bool.or_eq_true, decide_eq_true_iff, Bool.not_eq_true',
    List.isEmpty_eq_false_iff] at list
  obtain ⟨once, some_⟩ := list
  refine ⟨⟨agrees, hgroup.2, hrank.2, hnote, few, fun q listed => (each q listed).1.2, once, fun sequence => ?_,
    htapRank.2, htapNote, hholdRank.2, hholdNote, hsplitTime⟩, by simp [routeFieldBytes]⟩
  exact some_.resolve_left (not_not.2 sequence)

theorem readTremulant_sent {x : TremulantRecord} {bytes : Bytes} (read : readTremulant bytes = .ok x) :
    x.fits ∧ bytes = tremulantBytes x := by
  obtain ⟨chamber, _, ⟨⟨hchamber, -⟩, _⟩, read⟩ := (field_ok (takeNat_reads _ _)).1 read
  obtain ⟨point, _, ⟨⟨hpoint, -⟩, _⟩, read⟩ := (field_ok (takeWord_reads _ _)).1 read
  obtain ⟨period, _, ⟨⟨hperiod, -⟩, _⟩, read⟩ := (field_ok (takeWord_reads _ _)).1 read
  obtain ⟨onTime, _, ⟨⟨honTime, -⟩, _⟩, read⟩ := (field_ok (takeWord_reads _ _)).1 read
  obtain ⟨_, rfl⟩ := endFields_ok.1 read
  subst_vars
  exact ⟨⟨hchamber.2, hpoint.2, hperiod.1, hperiod.2, honTime⟩, by simp [tremulantBytes]⟩

theorem readCurve_sent {x : CurveRecord} {bytes : Bytes} (read : readCurve bytes = .ok x) :
    x.fits ∧ bytes = curveFieldBytes x := by
  obtain ⟨shoe, _, ⟨hshoe, _⟩, read⟩ := (field_ok (takeNatOr_reads (by decide))).1 read
  obtain ⟨stages, _, ⟨⟨hstages, -⟩, _⟩, read⟩ := (field_ok (takeNat_reads _ _)).1 read
  obtain ⟨hysteresis, _, ⟨⟨hhysteresis, -⟩, _⟩, read⟩ := (field_ok (takeNat_reads _ _)).1 read
  obtain ⟨slew, _, ⟨⟨hslew, -⟩, _⟩, read⟩ := (field_ok (takeWord_reads _ _)).1 read
  obtain ⟨base, _, ⟨⟨hbase, -⟩, _⟩, read⟩ := (field_ok (takeWord_reads _ _)).1 read
  obtain ⟨room, read⟩ := test_ok.1 read
  obtain ⟨curve, _, ⟨⟨few, each⟩, _⟩, read⟩ := (field_ok curve_reads).1 read
  obtain ⟨shape, read⟩ := test_ok.1 read
  obtain ⟨_, rfl⟩ := endFields_ok.1 read
  subst_vars
  simp only [Bool.and_eq_true, decide_eq_true_iff, ascendingX_iff] at room shape
  exact ⟨⟨hshoe, hstages.1, hstages.2, hhysteresis.2, hslew.1, hslew.2, room, shape.1, few, each, shape.2⟩,
    by simp [curveFieldBytes]⟩

theorem readStep_sent {x : StepRecord} {bytes : Bytes} (read : readStep bytes = .ok x) :
    x.fits ∧ bytes = stepBytes x := by
  obtain ⟨kind, _, ⟨-, _⟩, read⟩ := (field_ok stepKind_reads).1 read
  obtain ⟨duration, _, ⟨⟨hduration, -⟩, _⟩, read⟩ := (field_ok (takeWord_reads _ _)).1 read
  obtain ⟨actions, _, ⟨⟨few, each⟩, _⟩, read⟩ := (field_ok actions_reads).1 read
  obtain ⟨_, rfl⟩ := endFields_ok.1 read
  subst_vars
  exact ⟨⟨hduration.1, hduration.2, few, each⟩, by simp [stepBytes_eq]⟩

theorem readSeqEntry_fits {x : SeqEntry} {bytes : Bytes} (read : readSeqEntry bytes = .ok x) : x.fits := by
  obtain ⟨first, _, tookFirst, read⟩ := field_took read
  obtain ⟨loop, _, ⟨-, _⟩, read⟩ := (field_ok takeYesNo_reads).1 read
  obtain ⟨-, rfl⟩ := endFields_ok.1 read
  exact fun n same => (takeOptional_some (takeWord_reads 0 1023) tookFirst n same).1.2

theorem readKeySetting_sent {x : KeySetting} {bytes : Bytes} (read : readKeySetting bytes = .ok x) :
    x.fits ∧ bytes = [byteOf x.keyCount, byteOf x.confirm] := by
  obtain ⟨keys, _, ⟨⟨hkeys, -⟩, _⟩, read⟩ := (field_ok (takeNat_reads _ _)).1 read
  obtain ⟨confirm, _, ⟨⟨hconfirm, -⟩, _⟩, read⟩ := (field_ok (takeNat_reads _ _)).1 read
  obtain ⟨_, rfl⟩ := endFields_ok.1 read
  subst_vars
  exact ⟨⟨hkeys.2, hconfirm⟩, rfl⟩

theorem readConfirm_sent {n : Nat} {bytes : Bytes} (read : readConfirm bytes = .ok n) :
    (1 ≤ n ∧ n ≤ 3) ∧ bytes = [byteOf n] := by
  obtain ⟨confirm, _, ⟨⟨hconfirm, -⟩, _⟩, read⟩ := (field_ok (takeNat_reads _ _)).1 read
  obtain ⟨_, rfl⟩ := endFields_ok.1 read
  subst_vars
  exact ⟨hconfirm, rfl⟩

theorem readChamber_sent {x : Nat × Nat} {bytes : Bytes} (read : readChamber bytes = .ok x) :
    ((1 ≤ x.1 ∧ x.1 ≤ 60) ∧ 50 ≤ x.2 ∧ x.2 ≤ 2000) ∧ bytes = byteOf x.1 :: wordBytes x.2 := by
  obtain ⟨wind, _, ⟨⟨hwind, -⟩, _⟩, read⟩ := (field_ok (takeNat_reads _ _)).1 read
  obtain ⟨settle, _, ⟨⟨hsettle, -⟩, _⟩, read⟩ := (field_ok (takeWord_reads _ _)).1 read
  obtain ⟨_, rfl⟩ := endFields_ok.1 read
  subst_vars
  exact ⟨⟨hwind, hsettle⟩, by simp⟩

theorem readLamp_sent {x : LampRecord} {bytes : Bytes} (read : readLamp bytes = .ok x) :
    x.item.known ∧ bytes = lampBytes x := by
  obtain ⟨mode, _, ⟨-, _⟩, read⟩ := (field_ok lampMode_reads).1 read
  obtain ⟨item, _, ⟨known, _⟩, read⟩ := (field_ok takeItem_reads).1 read
  obtain ⟨invert, _, ⟨-, _⟩, read⟩ := (field_ok takeYesNo_reads).1 read
  obtain ⟨_, rfl⟩ := endFields_ok.1 read
  subst_vars
  exact ⟨known, by simp [lampBytes]⟩

end Sys2Proof.Machine
end

section
/-! PROOF. Section 11.4: a record judged field by field (R175). What a reader of one field does with bytes that spell a value
in its range or not, that break off, or that hold an enumeration byte beyond its values, is put together in field order. -/

namespace Sys2Proof.Machine

variable {α β : Type}

/-! ### One field judged -/

/-- How a reader of one field judges the bytes of a value: it is read when the test `c` passes and refused otherwise; fewer
bytes are refused, and so is each byte beyond the values of an enumeration, given by place and number of values. -/
structure FieldReads (take : Bytes → Option (α × Bytes)) (v : α) (bytes : Bytes) (c : Bool) (enums : List (Nat × Nat)) :
    Prop where
  judged : ∀ extra, take (bytes ++ extra) = if c = true then some (v, extra) else none
  short : c = true → ∀ n, n < bytes.length → take (bytes.take n) = none
  enums : c = true → ∀ e ∈ enums, e.1 ≤ bytes.length ∧
    ∀ (b : Byte) (rest : Bytes), e.2 ≤ b.toNat → take (bytes.take e.1 ++ b :: rest) = none

/-- Values told apart by the front of their bytes. -/
def Delimits (send : α → Bytes) (holds : α → Prop) : Prop :=
  ∀ v w r t, holds v → holds w → send v ++ r = send w ++ t → v = w

theorem FieldReads.of {take : Bytes → Option (α × Bytes)} {send : α → Bytes} {ok holds : α → Prop} {v : α} {c : Bool}
    (reads : Reads take send ok) (delimits : Delimits send holds) (held : ∀ v, ok v → holds v) (hv : holds v)
    (judge : c = true ↔ ok v) : FieldReads take v (send v) c [] where
  judged extra := by
    split
    case isTrue fits => exact (reads _ _ _).2 ⟨judge.1 fits, rfl⟩
    case isFalse bad =>
      refine Option.eq_none_iff_forall_ne_some.2 fun ⟨w, rest⟩ took => bad (judge.2 ?_)
      obtain ⟨fits, sent⟩ := (reads _ _ _).1 took
      exact delimits v w _ _ hv (held w fits) sent ▸ fits
  short _ n less := by
    refine Option.eq_none_iff_forall_ne_some.2 fun ⟨w, rest⟩ took => ?_
    obtain ⟨fits, sent⟩ := (reads _ _ _).1 took
    have whole : send v ++ [] = send w ++ (rest ++ (send v).drop n) := by
      rw [← List.append_assoc, ← sent, List.take_append_drop, List.append_nil]
    obtain rfl := delimits v w _ _ hv (held w fits) whole
    have longer := congrArg List.length sent
    simp only [List.length_take, List.length_append] at longer
    omega
  enums _ _ listed := absurd listed (List.not_mem_nil)

theorem FieldReads.with_enum {take : Bytes → Option (α × Bytes)} {v : α} {bytes : Bytes} {c : Bool} {n : Nat}
    (reads : FieldReads take v bytes c []) (beyond : ∀ (b : Byte) (rest : Bytes), n ≤ b.toNat → take (b :: rest) = none) :
    FieldReads take v bytes c [(0, n)] :=
  ⟨reads.judged, reads.short, fun _ e listed => by
    obtain rfl := List.mem_singleton.1 listed
    exact ⟨Nat.zero_le _, beyond⟩⟩

/-! ### The kinds of field -/

theorem byte_delimits : Delimits (fun n => [byteOf n]) (fun n => n < 256) := by
  intro v w r t hv hw same
  have bytes : byteOf v = byteOf w := (List.cons.inj same).1
  rw [← toNat_byteOf hv, bytes, toNat_byteOf hw]

theorem word_delimits : Delimits wordBytes (fun n => n < 65536) := by
  intro v w r t hv hw same
  obtain ⟨high, rest⟩ := List.cons.inj same
  have low : byteOf v = byteOf w := (List.cons.inj rest).1
  rw [← wordOf_wordBytes hv, high, low, wordOf_wordBytes hw]

theorem int_delimits : Delimits (fun n => [intByte n]) byteHolds := by
  intro v w r t hv hw same
  have bytes : intByte v = intByte w := (List.cons.inj same).1
  rw [← toInt_intByte hv, bytes, toInt_intByte hw]

theorem natOr_delimits : Delimits natOrBytes (fun x => ∀ n, x = some n → n < 255) := by
  have marked : ∀ n, n < 255 → byteOf n ≠ 0xFF#8 := by
    intro n small same
    have number := congrArg BitVec.toNat same
    rw [toNat_byteOf (by omega)] at number
    exact absurd number (by simp; omega)
  intro v w r t hv hw same
  cases v with
  | none =>
    cases w with
    | none => rfl
    | some n => exact absurd (List.cons.inj same).1.symm (marked n (hw n rfl))
  | some m =>
    cases w with
    | none => exact absurd (List.cons.inj same).1 (marked m (hv m rfl))
    | some n =>
      have bytes : byteOf m = byteOf n := (List.cons.inj same).1
      have := hv m rfl
      have := hw n rfl
      rw [← toNat_byteOf (show m < 256 by omega), bytes, toNat_byteOf (by omega)]

theorem enum_delimits [BEq α] [LawfulBEq α] {values : List α} (few : values.length ≤ 256) :
    Delimits (fun v => [enumByte values v]) (fun v => v ∈ values) := by
  intro v w r t hv hw same
  have bytes : enumByte values v = enumByte values w := (List.cons.inj same).1
  have inside := List.idxOf_lt_length_iff.2 hv
  have places : values.idxOf v = values.idxOf w := by
    rw [← toNat_byteOf (show values.idxOf v < 256 by omega), show byteOf (values.idxOf v) = _ from bytes, enumByte,
      toNat_byteOf (by have := List.idxOf_lt_length_iff.2 hw; omega)]
  exact (List.idxOf_inj hv).1 places

theorem items_delimit {send : α → Bytes} {holds : α → Prop} (delimits : Delimits send holds) :
    ∀ (xs ys : List α) (r t : Bytes), xs.length = ys.length → (∀ x ∈ xs, holds x) → (∀ y ∈ ys, holds y) →
      xs.flatMap send ++ r = ys.flatMap send ++ t → xs = ys
  | [], [], _, _, _, _, _, _ => rfl
  | x :: xs, y :: ys, r, t, length, hx, hy, same => by
    simp only [List.flatMap_cons, List.append_assoc] at same
    obtain rfl := delimits x y _ _ (hx x (by simp)) (hy y (by simp)) same
    rw [items_delimit delimits xs ys r t (by simpa using length) (fun z listed => hx z (by simp [listed]))
      (fun z listed => hy z (by simp [listed])) (List.append_cancel_left same)]

theorem list_delimits {send : α → Bytes} {holds : α → Prop} (delimits : Delimits send holds) :
    Delimits (listBytes send) (fun xs => xs.length < 256 ∧ ∀ x ∈ xs, holds x) := by
  intro xs ys r t hx hy same
  obtain ⟨counts, rest⟩ := List.cons.inj same
  have length : xs.length = ys.length := by rw [← toNat_byteOf hx.1, counts, toNat_byteOf hy.1]
  exact items_delimit delimits xs ys r t length hx.2 hy.2 rest

theorem breakpoint_delimits : Delimits (fun b : Nat × Nat => wordBytes b.1 ++ wordBytes b.2)
    (fun b => b.1 < 65536 ∧ b.2 < 65536) := by
  intro v w r t hv hw same
  simp only [List.append_assoc] at same
  have first := word_delimits v.1 w.1 _ _ hv.1 hw.1 same
  rw [first] at same
  exact Prod.ext first (word_delimits v.2 w.2 _ _ hv.2 hw.2 (List.append_cancel_left same))

theorem mem_actionKinds (kind : ActionKind) : kind ∈ actionKinds := by cases kind <;> decide

theorem action_delimits :
    Delimits actionBytes
      (fun a => a.rank < 256 ∧ byteHolds a.note) := by
  intro v w r t hv hw same
  obtain ⟨kinds, rest⟩ := List.cons.inj same
  obtain ⟨ranks, rest⟩ := List.cons.inj rest
  obtain ⟨notes, -⟩ := List.cons.inj rest
  obtain ⟨vKind, vRank, vNote⟩ := v
  obtain ⟨wKind, wRank, wNote⟩ := w
  have kind : vKind = wKind := enum_delimits (by decide) vKind wKind [] [] (mem_actionKinds _) (mem_actionKinds _)
    (congrArg (fun b => [b] ++ []) kinds)
  have rank : vRank = wRank := byte_delimits vRank wRank [] [] hv.1 hw.1 (congrArg (fun b => [b] ++ []) ranks)
  have note : vNote = wNote := int_delimits vNote wNote [] [] hv.2 hw.2 (congrArg (fun b => [b] ++ []) notes)
  rw [kind, rank, note]

namespace FieldReads

theorem nat {lo hi n : Nat} {c : Bool} (small : n < 256) (judge : c = true ↔ lo ≤ n ∧ n ≤ hi) :
    FieldReads (takeNat lo hi) n [byteOf n] c [] :=
  .of (takeNat_reads lo hi) byte_delimits (fun _ fits => fits.2) small (by rw [judge]; simp [small])

theorem word {lo hi n : Nat} {c : Bool} (small : n < 65536) (judge : c = true ↔ lo ≤ n ∧ n ≤ hi) :
    FieldReads (takeWord lo hi) n (wordBytes n) c [] :=
  .of (takeWord_reads lo hi) word_delimits (fun _ fits => fits.2) small (by rw [judge]; simp [small])

theorem int {lo hi n : Int} {c : Bool} (holds : byteHolds n) (judge : c = true ↔ lo ≤ n ∧ n ≤ hi) :
    FieldReads (takeInt lo hi) n [intByte n] c [] :=
  .of (takeInt_reads lo hi) int_delimits (fun _ fits => fits.2) holds (by rw [judge]; simp [holds])

theorem natOr {hi : Nat} {x : Option Nat} {c : Bool} (small : hi < 255) (holds : ∀ n, x = some n → n < 255)
    (judge : c = true ↔ ∀ n, x = some n → n ≤ hi) : FieldReads (takeNatOr hi) x (natOrBytes x) c [] :=
  .of (takeNatOr_reads small) natOr_delimits (fun _ fits n same => Nat.lt_of_le_of_lt (fits n same) small) holds judge

theorem enum [BEq α] [LawfulBEq α] {values : List α} {v : α} (once : values.Nodup) (few : values.length ≤ 256)
    (listed : v ∈ values) : FieldReads (takeEnum values) v [enumByte values v] true [(0, values.length)] := by
  refine with_enum (.of (takeEnum_reads once few) (enum_delimits few) (fun _ fits => fits) listed (by simp [listed])) ?_
  intro b rest high
  simp only [takeEnum, List.getElem?_eq_none high]

theorem yesNo (b : Bool) : FieldReads takeYesNo b [yesNoByte b] true [(0, 2)] := by
  have byte : yesNoByte b = enumByte [false, true] b := by cases b <;> decide
  rw [byte]
  exact enum (values := [false, true]) (by decide) (by decide) (by cases b <;> decide)

/-- A list whose items are judged by a test of them all. -/
theorem list {take : Bytes → Option (α × Bytes)} {send : α → Bytes} {ok holds : α → Prop} {xs : List α} {max : Nat}
    {c : Bool} (reads : Reads take send ok) (delimits : Delimits send holds) (held : ∀ v, ok v → holds v)
    (small : max < 256) (length : xs.length < 256) (hxs : ∀ x ∈ xs, holds x)
    (judge : c = true ↔ xs.length ≤ max ∧ ∀ x ∈ xs, ok x) :
    FieldReads (takeList max take) xs (listBytes send xs) c [] :=
  .of (takeList_reads reads small) (list_delimits delimits)
    (fun _ fits => ⟨by omega, fun x listed => held x (fits.2 x listed)⟩) ⟨length, hxs⟩ judge

/-- R174: an optional field: its value where it is present, bytes that are ignored where it is absent. -/
theorem optional {take : Bytes → Option (α × Bytes)} {send : α → Bytes} {x : Option α} {c : Bool} {size place : Nat}
    {fill : Nat → Byte} (present : ∀ v, x = some v → FieldReads take v (send v) c []) (absent : x = none → c = true) :
    FieldReads (takeOptional size take) x (optionalBytes fill place size send x) c [(0, 2)] := by
  have yes : ∀ rest, takeYesNo (yesNoByte true :: rest) = some (true, rest) := fun _ => rfl
  have no : ∀ rest, takeYesNo (yesNoByte false :: rest) = some (false, rest) := fun _ => rfl
  have width : (absentBytes fill place size).length = size := by simp [absentBytes]
  refine with_enum ?_ fun b rest high => ?_
  · cases x with
    | none =>
      obtain rfl := absent rfl
      refine ⟨fun extra => ?_, fun _ n less => ?_, fun _ e listed => absurd listed List.not_mem_nil⟩
      · simp only [optionalBytes, List.cons_append, takeOptional, no, List.length_append, width]
        rw [if_pos (by omega), List.drop_append_of_le_length (by omega), List.drop_of_length_le (by omega)]
        rfl
      · cases n with
        | zero => rfl
        | succ n =>
          simp only [optionalBytes, List.length_cons, width] at less
          simp only [optionalBytes, List.take_succ_cons, takeOptional, no, List.length_take, width]
          exact if_neg (by omega)
    | some v =>
      have value := present v rfl
      refine ⟨fun extra => ?_, fun fits n less => ?_, fun _ e listed => absurd listed List.not_mem_nil⟩
      · simp only [optionalBytes, List.cons_append, takeOptional, yes, value.judged]
        cases c <;> rfl
      · cases n with
        | zero => rfl
        | succ n =>
          simp only [optionalBytes, List.length_cons] at less
          simp only [optionalBytes, List.take_succ_cons, takeOptional, yes, value.short fits n (by omega)]
  · have beyond : takeYesNo (b :: rest) = none := by
      simp only [takeYesNo, takeEnum, List.getElem?_eq_none (show [false, true].length ≤ b.toNat from high)]
    simp only [takeOptional, beyond]

end FieldReads

/-! ### A further test of a field -/

/-- A reader whose value must pass a test. -/
def takeIf (cond : α → Bool) (take : Bytes → Option (α × Bytes)) (bs : Bytes) : Option (α × Bytes) :=
  (take bs).filter (fun r => cond r.1)

theorem field_test (no : Nat) (take : Bytes → Option (α × Bytes)) (cond : α → Bool) (bs : Bytes)
    (next : α → Bytes → Except Nat β) :
    field no take bs (fun v rest => test no (cond v) (next v rest)) = field no (takeIf cond take) bs next := by
  unfold field takeIf
  cases take bs with
  | none => rfl
  | some r =>
    simp only [Option.filter_some, test]
    split <;> rfl

theorem FieldReads.tested {take : Bytes → Option (α × Bytes)} {v : α} {bytes : Bytes} {c : Bool}
    {enums : List (Nat × Nat)} (reads : FieldReads take v bytes c enums) (cond : α → Bool) :
    FieldReads (takeIf cond take) v bytes (c && cond v) enums where
  judged extra := by
    rw [takeIf, reads.judged]
    cases c
    · rfl
    · simp only [if_true, Option.filter_some, Bool.true_and]
  short fits n less := by
    rw [takeIf, reads.short (Bool.and_eq_true_iff.1 fits).1 n less]
    rfl
  enums fits e listed := by
    obtain ⟨inside, refused⟩ := reads.enums (Bool.and_eq_true_iff.1 fits).1 e listed
    refine ⟨inside, fun b rest high => ?_⟩
    rw [takeIf, refused b rest high]
    rfl

/-! ### Fields in order -/

/-- `ReadsInOrder` for the fields from number `no` on. -/
structure ReadsFrom (no : Nat) (read : Bytes → Except Nat β) (x : β) (bytes : Bytes) (widths : List Nat)
    (tests : List Bool) (enums : List (Nat × Nat × Nat)) : Prop where
  judged : ∀ extra, read (bytes ++ extra) =
    match firstBad no tests with
    | some n => .error n
    | none => if extra = [] then .ok x else .error (no + widths.length)
  short : firstBad no tests = none → ∀ n, n < bytes.length → read (bytes.take n) = .error (fieldAt no widths n)
  enums : firstBad no tests = none → ∀ e ∈ enums, ∀ (b : Byte) (rest : Bytes), e.2.2 ≤ b.toNat →
    read (bytes.take e.1 ++ b :: rest) = .error e.2.1

theorem ReadsFrom.ends (no : Nat) (x : β) : ReadsFrom (no + 1) (fun bs => endFields no bs x) x [] [] [] [] where
  judged extra := by
    simp only [List.nil_append, endFields, firstBad, List.length_nil, Nat.add_zero]
  short _ n less := absurd less (Nat.not_lt_zero n)
  enums _ _ listed := absurd listed List.not_mem_nil

variable {no : Nat} {take : Bytes → Option (α × Bytes)} {v : α} {x : β} {bytes others : Bytes} {c : Bool}
  {widths : List Nat} {tests : List Bool} {enums : List (Nat × Nat)} {places : List (Nat × Nat × Nat)}
  {next : α → Bytes → Except Nat β}

theorem ReadsFrom.field (first : FieldReads take v bytes c enums)
    (rest : ReadsFrom (no + 1) (next v) x others widths tests places) :
    ReadsFrom no (fun bs => Machine.field no take bs next) x (bytes ++ others) (bytes.length :: widths) (c :: tests)
      (enums.map (fun e => (e.1, no, e.2)) ++ places.map (fun e => (bytes.length + e.1, e.2))) where
  judged extra := by
    rw [Machine.field, List.append_assoc, first.judged]
    cases c with
    | false => rfl
    | true =>
      simp only [if_true, firstBad, List.length_cons, rest.judged]
      rw [show no + 1 + widths.length = no + (widths.length + 1) by omega]
  short fits n less := by
    simp only [firstBad] at fits
    split at fits
    case isFalse => cases fits
    case isTrue read =>
      rw [Machine.field]
      by_cases inside : n < bytes.length
      · rw [List.take_append_of_le_length (by omega), first.short read n inside]
        simp only [fieldAt, if_pos inside]
      · rw [List.take_append, List.take_of_length_le (by omega), first.judged, if_pos read]
        rw [List.length_append] at less
        simp only [fieldAt, if_neg inside]
        exact rest.short fits _ (by omega)
  enums fits e listed b left high := by
    simp only [firstBad] at fits
    split at fits
    case isFalse => cases fits
    case isTrue read =>
      rw [Machine.field]
      obtain own | behind := List.mem_append.1 listed
      · obtain ⟨d, mine, rfl⟩ := List.mem_map.1 own
        obtain ⟨inside, refused⟩ := first.enums read d mine
        rw [List.take_append_of_le_length inside, refused b left high]
      · obtain ⟨d, later, rfl⟩ := List.mem_map.1 behind
        have whole : (bytes ++ others).take (bytes.length + d.1) = bytes ++ others.take d.1 := by
          rw [List.take_append, List.take_of_length_le (by omega), Nat.add_sub_cancel_left]
        simp only [whole, List.append_assoc, first.judged, if_pos read]
        exact rest.enums fits d later b left high

theorem ReadsFrom.testedField {cond : α → Bool} (first : FieldReads take v bytes c enums)
    (rest : ReadsFrom (no + 1) (next v) x others widths tests places) :
    ReadsFrom no (fun bs => Machine.field no take bs fun w left => test no (cond w) (next w left)) x (bytes ++ others)
      (bytes.length :: widths) ((c && cond v) :: tests)
      (enums.map (fun e => (e.1, no, e.2)) ++ places.map (fun e => (bytes.length + e.1, e.2))) := by
  simp only [field_test]
  exact .field (first.tested cond) rest

theorem ReadsFrom.inOrder {read : Bytes → Except Nat β} {sent : Bytes} {shown : List Nat} {judges : List Bool}
    {marks : List (Nat × Nat × Nat)} (all : ReadsFrom 1 read x bytes widths tests places) (same : sent = bytes)
    (wide : shown = widths) (tested : judges = tests) (marked : ∀ e ∈ marks, e ∈ places) :
    ReadsInOrder read x sent shown judges marks := by
  subst same wide tested
  obtain ⟨judged, short, enums⟩ := all
  refine ⟨fun extra => (judged extra).trans ?_, short, fun fits e listed => enums fits e (marked e listed)⟩
  cases firstBad 1 judges <;> simp only [Nat.add_comm]

/-! ### Every record judged -/

theorem mem_rankKinds (v : RankKind) : v ∈ rankKinds := by cases v <;> decide
theorem mem_stopKinds (v : StopKind) : v ∈ stopKinds := by cases v <;> decide
theorem mem_breaks (v : Break) : v ∈ breaks := by cases v <;> decide
theorem mem_routeTargets (v : RouteTarget) : v ∈ routeTargets := by cases v <;> decide
theorem mem_triggers (v : Trigger) : v ∈ triggers := by cases v <;> decide
theorem mem_polarities (v : Bool) : v ∈ polarities := by cases v <;> decide
theorem mem_masks (v : Bool) : v ∈ masks := by cases v <;> decide
theorem mem_holdKinds (v : HoldKind) : v ∈ holdKinds := by cases v <;> decide
theorem mem_stepKinds (v : StepKind) : v ∈ stepKinds := by cases v <;> decide
theorem mem_lampModes (v : LampMode) : v ∈ lampModes := by cases v <;> decide

theorem rank_inOrder (x : RankRecord) (sendable : x.sendable) :
    ReadsInOrder readRank x (rankBytes x) [1, 1, 2, 1, 1, 1, 1, 2, 2, 2] x.tests [(0, 1, 3)] := by
  obtain ⟨chamber, base, lowest, notes, priority, length, period, time, limit⟩ := sendable
  have all : ReadsFrom 1 readRank x _ _ _ _ :=
    .field (.enum (by decide) (by decide) (mem_rankKinds x.kind)) <|
    .field (.nat (c := decide (x.chamber ≤ 3)) chamber (by simp)) <|
    .field (.word (c := decide (x.base ≤ 1023)) base (by simp)) <|
    .field (.int (c := decide (-24 ≤ x.lowest ∧ x.lowest ≤ 96)) lowest (by simp)) <|
    .testedField (.nat (c := decide (1 ≤ x.noteCount ∧ x.noteCount ≤ 97)) notes (by simp)) <|
    .field (.nat (c := decide (x.priority ≤ 15)) priority (by simp)) <|
    .field (.nat (c := decide (5 ≤ x.strikeLength ∧ x.strikeLength ≤ 250)) length (by simp)) <|
    .field (.word (c := decide (30 ≤ x.period ∧ x.period ≤ 500)) period (by simp)) <|
    .field (.word (c := decide (1 ≤ x.strikeTime ∧ x.strikeTime ≤ x.period - 1)) time (by simp)) <|
    .field (.word (c := decide (x.cipherLimit ≤ 600)) limit (by simp)) <| .ends 10 x
  exact all.inOrder (by simp [rankBytes]) rfl 
    (by simp [RankRecord.tests, Bool.decide_and, Bool.and_assoc]) (by simp [rankKinds])

theorem stop_inOrder (fill : Nat → Byte) (x : StopRecord) (sendable : x.sendable) :
    ReadsInOrder readStop x (stopBytes fill x) [1, 1, 1, 1, 1, 1, 2, 3, 1, 1] x.tests
      [(0, 1, 6), (4, 5, 2), (5, 6, 2), (6, 7, 2), (8, 8, 2)] := by
  obtain ⟨row, rank, offset, borrow, pizz, tremulant, group⟩ := sendable
  have borrowed : FieldReads (takeOptional 1 (takeNat 0 47)) x.borrow
      (optionalBytes fill 0 1 (fun b => [byteOf b]) x.borrow) (x.borrow.all fun b => decide (b ≤ 47)) [(0, 2)] :=
    .optional (fun b same => .nat (borrow b same) (by simp [same])) (fun absent => by simp [absent])
  have plucked : FieldReads (takeOptional 2 (takeWord 20 2000)) x.pizz (optionalBytes fill 1 2 wordBytes x.pizz)
      (x.pizz.all fun n => decide (20 ≤ n ∧ n ≤ 2000)) [(0, 2)] :=
    .optional (fun n same => .word (pizz n same) (by simp [same])) (fun absent => by simp [absent])
  have all : ReadsFrom 1 readStop x _ _ _ _ :=
    .field (.enum (by decide) (by decide) (mem_stopKinds x.kind)) <|
    .field (.nat (c := decide (x.row ≤ 8)) row (by simp)) <|
    .field (.nat (c := decide (x.rank ≤ 47)) rank (by simp)) <|
    .field (.int (c := decide (-24 ≤ x.offset ∧ x.offset ≤ 48)) offset (by simp)) <|
    .field (.enum (by decide) (by decide) (mem_breaks x.lowBreak)) <|
    .field (.enum (by decide) (by decide) (mem_breaks x.highBreak)) <|
    .testedField borrowed <| .testedField plucked <|
    .field (.nat (c := decide (x.tremulant ≤ 7)) tremulant (by simp)) <|
    .field (.nat (c := decide (x.group ≤ 3)) group (by simp)) <| .ends 10 x
  have borrowWidth : (optionalBytes fill 0 1 (fun b => [byteOf b]) x.borrow).length = 2 := by
    cases x.borrow <;> simp [optionalBytes, absentBytes]
  have pizzWidth : (optionalBytes fill 1 2 wordBytes x.pizz).length = 3 := by
    cases x.pizz <;> simp [optionalBytes, absentBytes, wordBytes]
  refine all.inOrder (by simp [stopBytes]) (by simp [borrowWidth, pizzWidth]) ?_ (by simp [stopKinds, breaks, borrowWidth])
  cases borrows : x.borrow <;> cases plucks : x.pizz <;> simp [StopRecord.tests, borrows, plucks]

theorem route_inOrder (x : RouteFields) (sendable : x.sendable) :
    ReadsInOrder readRoute x (routeFieldBytes x)
      [1, 1, 1, 1, 1, 1, 1, 1, 1 + x.sequences.length, 1, 1, 1, 1, 1, 2] x.tests
      [(0, 1, 6), (1, 2, 3), (2, 3, 2), (3, 4, 2), (4, 5, 2), (11 + x.sequences.length, 12, 2)] := by
  obtain ⟨group, rank, note, few, each, tapRank, tapNote, holdRank, holdNote, splitTime⟩ := sendable
  have sequences : FieldReads (takeList 4 (takeNat 0 15)) x.sequences (listBytes (fun q => [byteOf q]) x.sequences)
      (decide (x.sequences.length ≤ 4 ∧ ∀ q ∈ x.sequences, q ≤ 15)) [] := by
    refine .list (takeNat_reads 0 15) byte_delimits (fun _ fits => fits.2) (by decide) few each ?_
    rw [decide_eq_true_iff]
    refine and_congr_right fun _ => forall₂_congr fun q _ => ?_
    omega
  have all : ReadsFrom 1 readRoute x _ _ _ _ :=
    .field (.enum (by decide) (by decide) (mem_routeTargets x.target)) <|
    .testedField (.enum (by decide) (by decide) (mem_triggers x.trigger)) <|
    .field (.enum (by decide) (by decide) (mem_polarities x.inverted)) <|
    .field (.enum (by decide) (by decide) (mem_masks x.masked)) <|
    .field (.yesNo x.defer) <|
    .field (.nat (c := decide (x.group ≤ 3)) group (by simp)) <|
    .field (.nat (c := decide (x.rank ≤ 47)) rank (by simp)) <|
    .field (.int (c := decide (-24 ≤ x.note ∧ x.note ≤ 111)) note (by simp)) <|
    .testedField sequences <|
    .field (.nat (c := decide (x.tapRank ≤ 47)) tapRank (by simp)) <|
    .field (.int (c := decide (-24 ≤ x.tapNote ∧ x.tapNote ≤ 111)) tapNote (by simp)) <|
    .field (.enum (by decide) (by decide) (mem_holdKinds x.holdKind)) <|
    .field (.nat (c := decide (x.holdRank ≤ 47)) holdRank (by simp)) <|
    .field (.int (c := decide (-24 ≤ x.holdNote ∧ x.holdNote ≤ 111)) holdNote (by simp)) <|
    .field (.word (c := decide (50 ≤ x.splitTime ∧ x.splitTime ≤ 2000)) splitTime (by simp)) <| .ends 15 x
  have width : (listBytes (fun q => [byteOf q]) x.sequences).length = 1 + x.sequences.length := by
    simp [listBytes, Nat.add_comm]
  have list : (decide (x.sequences.length ≤ 4 ∧ (∀ q ∈ x.sequences, q ≤ 15) ∧ x.sequences.Nodup ∧
        (x.target = .sequence → x.sequences ≠ []))) =
      (decide (x.sequences.length ≤ 4 ∧ ∀ q ∈ x.sequences, q ≤ 15) &&
        (noRepeats x.sequences && (decide (x.target ≠ .sequence) || !x.sequences.isEmpty))) := by
    rw [Bool.eq_iff_iff]
    simp only [Bool.and_eq_true, noRepeats_iff, Bool.or_eq_true, decide_eq_true_iff, Bool.not_eq_true',
      List.isEmpty_eq_false_iff, and_assoc, imp_iff_not_or]
  refine all.inOrder (by simp [routeFieldBytes]) (by simp [width, wordBytes]) (by simp only [RouteFields.tests, list]; rfl) ?_
  simp [routeTargets, triggers, polarities, masks, holdKinds, width]
  omega

theorem tremulant_inOrder (x : TremulantRecord) (sendable : x.sendable) :
    ReadsInOrder readTremulant x (tremulantBytes x) [1, 2, 2, 2] x.tests [] := by
  obtain ⟨chamber, point, period, onTime⟩ := sendable
  have all : ReadsFrom 1 readTremulant x _ _ _ _ :=
    .field (.nat (c := decide (x.chamber ≤ 3)) chamber (by simp)) <|
    .field (.word (c := decide (x.point ≤ 1023)) point (by simp)) <|
    .field (.word (c := decide (80 ≤ x.period ∧ x.period ≤ 600)) period (by simp)) <|
    .field (.word (c := decide (1 ≤ x.onTime ∧ x.onTime ≤ x.period - 1)) onTime (by simp)) <| .ends 4 x
  exact all.inOrder (by simp [tremulantBytes]) rfl rfl (by simp)

theorem curve_inOrder (x : CurveRecord) (sendable : x.sendable) :
    ReadsInOrder readCurve x (curveFieldBytes x) [1, 1, 1, 2, 2, 1 + 4 * x.curve.length] x.tests [] := by
  obtain ⟨shoe, stages, hysteresis, slew, base, few, each⟩ := sendable
  have breakpoints : FieldReads (takeList 8 takeBreakpoint) x.curve
      (listBytes (fun b => wordBytes b.1 ++ wordBytes b.2) x.curve)
      (decide (x.curve.length ≤ 8 ∧ ∀ b ∈ x.curve, b.1 ≤ 1023 ∧ b.2 ≤ 1000)) [] :=
    .list takeBreakpoint_reads breakpoint_delimits (fun _ fits => ⟨by omega, by omega⟩) (by decide) few each (by simp)
  have all : ReadsFrom 1 readCurve x _ _ _ _ :=
    .field (.natOr (c := x.shoe.all fun n => decide (n ≤ 3)) (by decide) shoe (by cases x.shoe <;> simp)) <|
    .field (.nat (c := decide (1 ≤ x.stageCount ∧ x.stageCount ≤ 16)) stages (by simp)) <|
    .field (.nat (c := decide (x.hysteresis ≤ 100)) hysteresis (by simp)) <|
    .field (.word (c := decide (10 ≤ x.slew ∧ x.slew ≤ 500)) slew (by simp)) <|
    .testedField (.word (c := decide (x.base ≤ 1023)) base (by simp)) <|
    .testedField breakpoints <| .ends 6 x
  have shoeWidth : (natOrBytes x.shoe).length = 1 := by cases x.shoe <;> rfl
  have width : (listBytes (fun b => wordBytes b.1 ++ wordBytes b.2) x.curve).length = 1 + 4 * x.curve.length := by
    simp [listBytes, wordBytes, List.length_flatMap, Nat.add_comm, Nat.mul_comm]
  have list : decide (2 ≤ x.curve.length ∧ x.curve.length ≤ 8 ∧ (∀ b ∈ x.curve, b.1 ≤ 1023 ∧ b.2 ≤ 1000) ∧
        x.curve.Pairwise (fun a b => a.1 < b.1)) =
      (decide (x.curve.length ≤ 8 ∧ ∀ b ∈ x.curve, b.1 ≤ 1023 ∧ b.2 ≤ 1000) &&
        (decide (2 ≤ x.curve.length) && ascendingX x.curve)) := by
    rw [Bool.eq_iff_iff]
    simp only [Bool.and_eq_true, ascendingX_iff, decide_eq_true_iff]
    tauto
  refine all.inOrder (by simp [curveFieldBytes]) (by rw [shoeWidth, width]; rfl) ?_ (by simp)
  simp only [CurveRecord.tests, list, Bool.decide_and]

theorem seqEntry_inOrder (fill : Nat → Byte) (x : SeqEntry) (sendable : ∀ n, x.first = some n → n < 65536) :
    ReadsInOrder readSeqEntry x (seqEntryBytes fill x) [3, 1] [x.first.all (fun n => decide (n ≤ 1023)), true]
      [(0, 1, 2), (3, 2, 2)] := by
  have first : FieldReads (takeOptional 2 (takeWord 0 1023)) x.first (optionalBytes fill 0 2 wordBytes x.first)
      (x.first.all fun n => decide (n ≤ 1023)) [(0, 2)] :=
    .optional (fun n same => .word (sendable n same) (by simp [same])) (fun absent => by simp [absent])
  have all : ReadsFrom 1 readSeqEntry x _ _ _ _ := .field first <| .field (.yesNo x.loop) <| .ends 2 x
  have width : (optionalBytes fill 0 2 wordBytes x.first).length = 3 := by
    cases x.first <;> simp [optionalBytes, absentBytes, wordBytes]
  exact all.inOrder (by simp [seqEntryBytes]) (by simp [width]) rfl (by simp [width])

/-- R107: a kind byte beyond the three kinds, in place of an action's. -/
theorem takeItems_action_beyond (b : Byte) (rest : Bytes) (high : 3 ≤ b.toNat) :
    ∀ (xs : List Action) (n : Nat), xs.length < n → (∀ a ∈ xs, a.rank ≤ 47 ∧ noteInRange a.note) →
      takeItems takeAction n
        (xs.flatMap actionBytes ++ b :: rest) = none
  | [], n + 1, _, _ => by
    have beyond : takeEnum actionKinds (b :: rest) = none := by
      simp only [takeEnum, List.getElem?_eq_none (show actionKinds.length ≤ b.toNat from high)]
    simp only [List.flatMap_nil, List.nil_append, takeItems, takeAction, beyond]
  | a :: xs, n + 1, short, fits => by
    have first := (takeAction_reads _ a (xs.flatMap actionBytes ++ b :: rest)).2 ⟨fits a (by simp), rfl⟩
    have others := takeItems_action_beyond b rest high xs n (by simpa using short)
      (fun c listed => fits c (by simp [listed]))
    simp only [List.flatMap_cons, List.append_assoc, takeItems, first, others]

theorem actions_take (xs : List Action) (i : Nat) :
    (xs.flatMap actionBytes).take (3 * i) =
      (xs.take i).flatMap actionBytes := by
  induction i generalizing xs with
  | zero => simp
  | succ i ih =>
    cases xs with
    | nil => simp
    | cons a xs => simp [actionBytes, Nat.mul_succ, List.take_succ_cons, ih]

theorem step_inOrder (x : StepRecord) (sendable : x.sendable) :
    ReadsInOrder readStep x (stepBytes x) [1, 2, 1 + 3 * x.actions.length] x.tests
      ((0, 1, 2) :: (List.range x.actions.length).map (fun i => (4 + 3 * i, 3, 3))) := by
  obtain ⟨duration, few, each⟩ := sendable
  have width : (listBytes actionBytes
      x.actions).length = 1 + 3 * x.actions.length := by
    simp [listBytes, actionBytes, List.length_flatMap, Nat.add_comm, Nat.mul_comm]
  have list : FieldReads (takeList 3 takeAction) x.actions
      (listBytes actionBytes x.actions)
      (decide (x.actions.length ≤ 3 ∧ ∀ a ∈ x.actions, a.rank ≤ 47 ∧ -24 ≤ a.note ∧ a.note ≤ 111)) [] :=
    .list takeAction_reads action_delimits (fun _ fits => ⟨by omega, by have := fits.2; unfold noteInRange at this; exact ⟨by omega, by omega⟩⟩)
      (by decide) few each (by simp [noteInRange])
  have actions : FieldReads (takeList 3 takeAction) x.actions
      (listBytes actionBytes x.actions)
      (decide (x.actions.length ≤ 3 ∧ ∀ a ∈ x.actions, a.rank ≤ 47 ∧ -24 ≤ a.note ∧ a.note ≤ 111))
      ((List.range x.actions.length).map fun i => (1 + 3 * i, 3)) := by
    refine ⟨list.judged, list.short, fun fits e listed => ?_⟩
    obtain ⟨short, range⟩ := of_decide_eq_true fits
    obtain ⟨i, inside, rfl⟩ := List.mem_map.1 listed
    have inside := List.mem_range.1 inside
    refine ⟨by rw [width]; dsimp only; omega, fun b rest high => ?_⟩
    have counted : takeNat 0 3 (byteOf x.actions.length ::
        ((x.actions.take i).flatMap actionBytes ++ b :: rest)) =
          some (x.actions.length, (x.actions.take i).flatMap
            actionBytes ++ b :: rest) :=
      (takeNat_reads 0 3 _ _ _).2 ⟨⟨⟨Nat.zero_le _, short⟩, few⟩, rfl⟩
    have refused := takeItems_action_beyond b rest high (x.actions.take i) x.actions.length
      (by rw [List.length_take]; omega) (fun a taken => range a (List.mem_of_mem_take taken))
    dsimp only
    rw [listBytes, Nat.add_comm, List.take_succ_cons, actions_take, List.cons_append]
    simp only [takeList, counted, refused]
  have all : ReadsFrom 1 readStep x _ _ _ _ :=
    .field (.enum (by decide) (by decide) (mem_stepKinds x.kind)) <|
    .field (.word (c := decide (1 ≤ x.duration ∧ x.duration ≤ 1000)) duration (by simp)) <|
    .field actions <| .ends 3 x
  refine all.inOrder (by simp [stepBytes_eq]) (by simp [width, wordBytes]) rfl ?_
  intro e listed
  obtain rfl | action := List.mem_cons.1 listed
  · simp [stepKinds]
  · obtain ⟨i, inside, rfl⟩ := List.mem_map.1 action
    simp [stepKinds, wordBytes]
    exact ⟨i, List.mem_range.1 inside, by omega⟩

theorem keySetting_inOrder (x : KeySetting) (keys : x.keyCount < 256) (confirm : x.confirm < 256) :
    ReadsInOrder readKeySetting x [byteOf x.keyCount, byteOf x.confirm] [1, 1]
      [decide (x.keyCount ≤ 64), decide (1 ≤ x.confirm ∧ x.confirm ≤ 3)] [] := by
  have all : ReadsFrom 1 readKeySetting x _ _ _ _ :=
    .field (.nat (c := decide (x.keyCount ≤ 64)) keys (by simp)) <|
    .field (.nat (c := decide (1 ≤ x.confirm ∧ x.confirm ≤ 3)) confirm (by simp)) <| .ends 2 x
  exact all.inOrder rfl rfl rfl (by simp)

theorem confirm_inOrder (n : Nat) (small : n < 256) :
    ReadsInOrder readConfirm n [byteOf n] [1] [decide (1 ≤ n ∧ n ≤ 3)] [] := by
  have all : ReadsFrom 1 readConfirm n _ _ _ _ :=
    .field (.nat (c := decide (1 ≤ n ∧ n ≤ 3)) small (by simp)) <| .ends 1 n
  exact all.inOrder rfl rfl rfl (by simp)

theorem chamber_inOrder (x : Nat × Nat) (wind : x.1 < 256) (settle : x.2 < 65536) :
    ReadsInOrder readChamber x (byteOf x.1 :: wordBytes x.2) [1, 2]
      [decide (1 ≤ x.1 ∧ x.1 ≤ 60), decide (50 ≤ x.2 ∧ x.2 ≤ 2000)] [] := by
  have all : ReadsFrom 1 readChamber x _ _ _ _ :=
    .field (.nat (c := decide (1 ≤ x.1 ∧ x.1 ≤ 60)) wind (by simp)) <|
    .field (.word (c := decide (50 ≤ x.2 ∧ x.2 ≤ 2000)) settle (by simp)) <| .ends 2 x
  exact all.inOrder (by simp) rfl rfl (by simp)

theorem item_delimits : Delimits itemBytes StatusItem.known := by
  intro v w r t hv hw same
  obtain ⟨foundV, groupV, numberV⟩ := itemAt_itemNumber hv
  obtain ⟨foundW, groupW, numberW⟩ := itemAt_itemNumber hw
  obtain ⟨groups, rest⟩ := List.cons.inj same
  have numbers : byteOf (itemNumber v).2 = byteOf (itemNumber w).2 := (List.cons.inj rest).1
  rw [← toNat_byteOf groupV, ← toNat_byteOf numberV, groups, numbers, toNat_byteOf groupW, toNat_byteOf numberW,
    foundW] at foundV
  exact (Option.some.inj foundV).symm

theorem lamp_inOrder (x : LampRecord) (known : x.item.known) :
    ReadsInOrder readLamp x (lampBytes x) [1, 2, 1] [true, true, true] [(0, 1, 4), (3, 3, 2)] := by
  have item : FieldReads takeItem x.item (itemBytes x.item) true [] :=
    .of takeItem_reads item_delimits (fun _ fits => fits) known (by simp [known])
  have all : ReadsFrom 1 readLamp x _ _ _ _ :=
    .field (.enum (by decide) (by decide) (mem_lampModes x.mode)) <| .field item <| .field (.yesNo x.invert) <| .ends 3 x
  exact all.inOrder (by simp [lampBytes]) (by simp [itemBytes]) rfl (by simp [lampModes, itemBytes])

theorem readLamp_unknownItem (mode group no : Byte) (rest : Bytes) (known : mode.toNat < 4)
    (unknown : itemAt group.toNat no.toNat = none) : readLamp (mode :: group :: no :: rest) = .error 2 := by
  have modes : takeEnum lampModes (mode :: group :: no :: rest) = 
      some (lampModes[mode.toNat], group :: no :: rest) := by
    simp only [takeEnum, List.getElem?_eq_getElem (show mode.toNat < lampModes.length from known)]
    rfl
  simp only [readLamp, Machine.field, modes, takeItem, unknown]

/-! ### The obligation -/

/-- A record whose tests all pass is read from its own bytes. -/
theorem ReadsInOrder.reads {read : Bytes → Except Nat β} (order : ReadsInOrder read x bytes widths tests places)
    (fits : firstBad 1 tests = none) : read bytes = .ok x := by
  have whole := order.judged []
  rw [List.append_nil, fits] at whole
  exact whole

theorem firstBad_eq_none {no : Nat} {tests : List Bool} : firstBad no tests = none ↔ ∀ c ∈ tests, c = true := by
  induction tests generalizing no with
  | nil => simp [firstBad]
  | cons c tests ih => cases c <;> simp [firstBad, ih]

theorem readRank_ok (x : RankRecord) (bytes : Bytes) : readRank bytes = .ok x ↔ x.fits ∧ bytes = rankBytes x := by
  refine ⟨readRank_sent, fun ⟨fits, sent⟩ => sent ▸ (rank_inOrder x ?_).reads (firstBad_eq_none.2 ?_)⟩
  · unfold RankRecord.fits at fits
    unfold RankRecord.sendable byteHolds
    omega
  · unfold RankRecord.fits at fits
    simp only [RankRecord.tests, List.forall_mem_cons, decide_eq_true_iff, List.not_mem_nil, false_implies, implies_true,
      true_and, and_true]
    omega

theorem readStop_sent (fill : Nat → Byte) (x : StopRecord) (fits : x.fits) : readStop (stopBytes fill x) = .ok x := by
  obtain ⟨row, rank, low, high, borrow, pizz, tremulant, group⟩ := fits
  refine (stop_inOrder fill x ⟨by omega, by omega, ⟨by omega, by omega⟩, fun b same => ?_, fun n same => ?_, by omega,
    by omega⟩).reads (firstBad_eq_none.2 ?_)
  · have := (borrow b same).1
    omega
  · have := (pizz n same).2.1
    omega
  · have borrows : x.borrow.all (fun b => decide (b ≤ 47) && decide (x.kind = .tonal)) = true := by
      simpa [Option.all_eq_true] using borrow
    have plucks : x.pizz.all (fun n => decide (20 ≤ n ∧ n ≤ 2000) && decide (x.kind = .tonal)) = true := by
      simpa [Option.all_eq_true, and_assoc] using pizz
    simp only [StopRecord.tests, List.forall_mem_cons, decide_eq_true_iff, List.not_mem_nil, false_implies, implies_true]
    exact ⟨trivial, row, rank, ⟨low, high⟩, trivial, trivial, borrows, plucks, tremulant, group, trivial⟩

theorem readRoute_ok (x : RouteFields) (bytes : Bytes) :
    readRoute bytes = .ok x ↔ x.fits ∧ bytes = routeFieldBytes x := by
  refine ⟨readRoute_sent, fun ⟨fits, sent⟩ => ?_⟩
  obtain ⟨agrees, group, rank, note, few, each, once, some_, tapRank, tapNote, holdRank, holdNote, split⟩ := fits
  unfold noteInRange at note tapNote holdNote
  rw [sent]
  refine (route_inOrder x ⟨by omega, by omega, ⟨by omega, by omega⟩, by omega, fun q listed => ?_, by omega,
    ⟨by omega, by omega⟩, by omega, ⟨by omega, by omega⟩, by omega⟩).reads (firstBad_eq_none.2 ?_)
  · have := each q listed
    omega
  · simp only [RouteFields.tests, List.forall_mem_cons, decide_eq_true_iff, List.not_mem_nil, false_implies,
      implies_true]
    exact ⟨trivial, agrees, trivial, trivial, trivial, group, rank, note, ⟨few, each, once, some_⟩, tapRank, tapNote,
      trivial, holdRank, holdNote, split, trivial⟩

theorem readTremulant_ok (x : TremulantRecord) (bytes : Bytes) :
    readTremulant bytes = .ok x ↔ x.fits ∧ bytes = tremulantBytes x := by
  refine ⟨readTremulant_sent, fun ⟨fits, sent⟩ => sent ▸ (tremulant_inOrder x ?_).reads (firstBad_eq_none.2 ?_)⟩
  · unfold TremulantRecord.fits at fits
    unfold TremulantRecord.sendable
    omega
  · unfold TremulantRecord.fits at fits
    simp only [TremulantRecord.tests, List.forall_mem_cons, decide_eq_true_iff, List.not_mem_nil, false_implies,
      implies_true, and_true]
    omega

theorem readCurve_ok (x : CurveRecord) (bytes : Bytes) :
    readCurve bytes = .ok x ↔ x.fits ∧ bytes = curveFieldBytes x := by
  refine ⟨readCurve_sent, fun ⟨fits, sent⟩ => ?_⟩
  obtain ⟨shoe, one, sixteen, hysteresis, slow, slew, room, two, eight, each, rises⟩ := fits
  rw [sent]
  refine (curve_inOrder x ⟨fun n same => ?_, by omega, by omega, by omega, by omega, by omega, fun b listed => ?_⟩).reads
    (firstBad_eq_none.2 ?_)
  · have := shoe n same
    omega
  · have := each b listed
    omega
  · have shoes : x.shoe.all (fun n => decide (n ≤ 3)) = true := by simpa [Option.all_eq_true] using shoe
    simp only [CurveRecord.tests, List.forall_mem_cons, decide_eq_true_iff, List.not_mem_nil, false_implies,
      implies_true]
    exact ⟨shoes, ⟨one, sixteen⟩, hysteresis, ⟨slow, slew⟩, ⟨by omega, room⟩, ⟨two, eight, each, rises⟩, trivial⟩

theorem readStep_ok (x : StepRecord) (bytes : Bytes) : readStep bytes = .ok x ↔ x.fits ∧ bytes = stepBytes x := by
  refine ⟨readStep_sent, fun ⟨fits, sent⟩ => ?_⟩
  obtain ⟨one, thousand, few, each⟩ := fits
  rw [sent]
  refine (step_inOrder x ⟨by omega, by omega, fun a listed => ?_⟩).reads (firstBad_eq_none.2 ?_)
  · obtain ⟨rank, low, high⟩ := each a listed
    exact ⟨by omega, by omega, by omega⟩
  · simp only [StepRecord.tests, List.forall_mem_cons, decide_eq_true_iff, List.not_mem_nil, false_implies, implies_true]
    exact ⟨trivial, ⟨one, thousand⟩, ⟨few, each⟩, trivial⟩

theorem readSeqEntry_sent (fill : Nat → Byte) (x : SeqEntry) (fits : x.fits) :
    readSeqEntry (seqEntryBytes fill x) = .ok x := by
  refine (seqEntry_inOrder fill x fun n same => ?_).reads (firstBad_eq_none.2 ?_)
  · have := fits n same
    omega
  · have first : x.first.all (fun n => decide (n ≤ 1023)) = true := by
      simpa [Option.all_eq_true, SeqEntry.fits] using fits
    simp [first]

theorem readKeySetting_ok (x : KeySetting) (bytes : Bytes) :
    readKeySetting bytes = .ok x ↔ x.fits ∧ bytes = [byteOf x.keyCount, byteOf x.confirm] := by
  refine ⟨readKeySetting_sent, fun ⟨fits, sent⟩ => ?_⟩
  obtain ⟨keys, one, three⟩ := fits
  rw [sent]
  exact (keySetting_inOrder x (by omega) (by omega)).reads (firstBad_eq_none.2 (by simp [keys, one, three]))

theorem readConfirm_ok (n : Nat) (bytes : Bytes) : readConfirm bytes = .ok n ↔ (1 ≤ n ∧ n ≤ 3) ∧ bytes = [byteOf n] := by
  refine ⟨readConfirm_sent, fun ⟨fits, sent⟩ => ?_⟩
  rw [sent]
  exact (confirm_inOrder n (by omega)).reads (firstBad_eq_none.2 (by simp [fits]))

theorem readChamber_ok (x : Nat × Nat) (bytes : Bytes) : readChamber bytes = .ok x ↔
    ((1 ≤ x.1 ∧ x.1 ≤ 60) ∧ 50 ≤ x.2 ∧ x.2 ≤ 2000) ∧ bytes = byteOf x.1 :: wordBytes x.2 := by
  refine ⟨readChamber_sent, fun ⟨fits, sent⟩ => ?_⟩
  rw [sent]
  exact (chamber_inOrder x (by omega) (by omega)).reads (firstBad_eq_none.2 (by simp [fits]))

theorem readLamp_ok (x : LampRecord) (bytes : Bytes) : readLamp bytes = .ok x ↔ x.item.known ∧ bytes = lampBytes x := by
  refine ⟨readLamp_sent, fun ⟨known, sent⟩ => ?_⟩
  rw [sent]
  exact (lamp_inOrder x known).reads rfl

/-- Settles O11: each record's reader is put together from the readers of its fields. -/
theorem tableRecordsRoundTrip : Obligations.TableRecordsRoundTrip :=
  ⟨readRank_ok, readStop_sent, readRoute_ok, readCurve_ok, readStep_ok, readTremulant_ok, readSeqEntry_sent,
    readKeySetting_ok, readConfirm_ok, readChamber_ok, readLamp_ok, rank_inOrder, stop_inOrder, route_inOrder,
    tremulant_inOrder, curve_inOrder, seqEntry_inOrder, step_inOrder, keySetting_inOrder, confirm_inOrder,
    chamber_inOrder, fun x known =>
      ⟨lamp_inOrder x known, fun mode group no rest four unknown => readLamp_unknownItem mode group no rest four unknown⟩⟩

end Sys2Proof.Machine
end

section
/-! PROOF. What a command can do, said once: the acts of each command that serves no request, what the service of a request
can come to, and the five ways in which a command can end. Every invariant and every frame of a whole step follows from
these cases. -/

namespace Sys2Proof.Machine

/-! ### The acts of the commands that serve no request -/

/-- `Act s i u`: the acts of command `i` in state `s` leave `u`, before the command's LAMP frame and the choice of the
transmitters. -/
inductive Act (s : State) : Instr → State → Prop
  | trained {i : Instr} (training : s.port.link = .training) : Act s i (train (renewLink s))
  | scanned (kind row : Byte) (image : Image) (up : s.port.link = .up) :
      Act s (.scan kind row image)
        (forwardFrame (.scan kind row image) (takeScan kind.toNat row.toNat image (renewLink s)))
  | sampled (shoe : Byte) (sample : BitVec 16) (up : s.port.link = .up) :
      Act s (.shoe shoe sample) (forwardFrame (.shoe shoe sample) (takeSample shoe.toNat sample.toNat (renewLink s)))
  | greeted : Act s .hello (startTraining (forwardFrame .hello (offer s.helloReply s)))
  | queued (address tag code : Byte) (fields : Bytes) (up : s.port.link = .up) :
      Act s (.request address tag code fields) (queueRequest ⟨tag, code, fields⟩ (renewLink s))
  | passedOn (address tag code : Byte) (fields : Bytes) (up : s.port.link = .up) :
      Act s (.request address tag code fields) (forwardFrame (.request address tag code fields) (renewLink s))
  | idled (sender : Byte) (up : s.port.link = .up) : Act s (.idle sender) (renewLink s)
  | spoiled (live : s.port.link ≠ .down) : Act s .badFrame (countBad s)
  | lost (running : s.port.timer.isSome = true) : Act s .linkTimerExpiry (enterDown s)
  | received (bytes : Bytes) : Act s (.extUpstreamFrame bytes) (offer (.forwarded bytes) (renewExt s))
  | heard : Act s .extIdle (renewExt s)
  | extLost : Act s .extTimerExpiry (setExtUp false (s.setExt { s.ext with timer := none }))
  | reported (c : Fin 4) (wind supply : Bool) (boards : BitVec 16) :
      Act s (.chstatus c wind supply boards) (takeStatus c wind supply boards s)
  | chamberLost (c : Fin 4) : Act s (.chamberLinkTimerExpiry c) (chamberLinkExpires c s)
  | windless (c : Fin 4) : Act s (.windTimerExpiry c) (windExpires c s)
  | settled (c : Fin 4) : Act s (.settleTimerExpiry c) (settleExpires c s)
  | drained (c : Fin 4) : Act s (.drainTimerExpiry c) (drainExpires c s)
  | driven (c : Fin 4) : Act s (.driveSent c) (driveEnds c s)
  | controlled (c : Fin 4) : Act s (.controlSent c) (controlEnds c s)
  | groupAged (c : Fin 4) (g : Fin 16) : Act s (.groupAgeExpiry c g) (groupAges c g s)
  | controlAged (c : Fin 4) : Act s (.controlAgeExpiry c) (controlAges c s)
  | guarded (c : Fin 4) (p : Fin 1024) : Act s (.onTimerExpiry c p) (onTimerExpires ⟨c, p⟩ s)
  | struck (c : Fin 4) (p : Fin 1024) : Act s (.strikeTimerExpiry c p) (s.setStrikeTimer ⟨c, p⟩ none)
  | levelled (g : Fin 32) : Act s (.generatorLevelOff g) (levelOff g s)
  | returned (g : Fin 32) : Act s (.generatorReturnToZero g) (returnToZero g s)
  | plucked (row : Fin 9) (key : Fin 64) (stop : Fin 320) :
      Act s (.pizzicatoExpiry row key stop) (pizzExpires row key stop s)
  | split (input : Fin 96) : Act s (.splitTimerExpiry input) (splitExpires input s)
  | stepped (player : Fin 8) : Act s (.stepTimerExpiry player) (stepExpires player s)
  | slewed (channel : Fin 4) : Act s (.slewTimerExpiry channel) (slewExpires channel s)
  | sent (busy : s.port.line.isSome = true) :
      Act s .returnFrameSent (startLine (s.setPort { s.port with line := none, silence := 0 }))
  | silent (quiet : s.lineQuiet = true) : Act s .returnLineSilence (offer s.idleFrame s)
  | turned : Act s .blinkClockTurn
      (s.setStatus { s.status with blinkOn := !s.status.blinkOn, blinkLeft := Config.blinkHalf })
  | unstretched (item : EventItem) : Act s (.lampStretchExpiry item) (s.setStretch (eventItem item) none)
  | still {i : Instr} : Act s i s

/-! ### What a service can come to -/

/-- `Serves s acted`: the service of a request in state `s` can leave `acted`. A record that is written was read from the
bytes of the request, its index lies in its table, and the write was not refused by mode. -/
inductive Serves (s : State) : Served → Prop
  | unchanged (reply : Reply) : Serves s (s, reply)
  | mode (m : Mode) : Serves s (modeSet m s)
  | stop {n : Nat} {x : StopRecord} {bytes : Bytes} (read : readStop bytes = .ok x) (inTable : n ≤ 319)
      (taken : stopRefused n x s = false) : Serves s (s.setStop n x, .done [])
  | rank {r : Nat} {x : RankRecord} {bytes : Bytes} (read : readRank bytes = .ok x) (inTable : r ≤ 47)
      (taken : rankRefused r x s = false) : Serves s (takeRank r x s, .done [])
  | route {i : Nat} {x : RouteFields} {bytes : Bytes} (read : readRoute bytes = .ok x) (inTable : i ≤ 95)
      (taken : routeRefused i x s = false) : Serves s (takeRoute i x s, .done [])
  | tremulant {n : Nat} {x : TremulantRecord} {bytes : Bytes} (read : readTremulant bytes = .ok x) (inTable : n ≤ 7)
      (taken : tremulantRefused n x s = false) : Serves s (s.setTremulant n x, .done [])
  | curve {c : Nat} {x : CurveRecord} {bytes : Bytes} (read : readCurve bytes = .ok x) (inTable : c ≤ 3)
      (taken : curveRefused c x s = false) : Serves s (writeCurve c x s, .done [])
  | sequence {q : Nat} {x : SeqEntry} {bytes : Bytes} (read : readSeqEntry bytes = .ok x) (inTable : q ≤ 15)
      (taken : s.frozen = false) : Serves s (s.setSeqEntry q x, .done [])
  | sequenceStep {i : Nat} {x : StepRecord} {bytes : Bytes} (read : readStep bytes = .ok x) (inTable : i ≤ 1023)
      (taken : s.frozen = false) : Serves s (s.setStepRecord i x, .done [])
  | keyRow {r : Nat} {x : KeySetting} {bytes : Bytes} (read : readKeySetting bytes = .ok x) (inTable : r ≤ 8) :
      Serves s (writeKeySetting r x s, .done [])
  | stopConfirm {n : Nat} {bytes : Bytes} (read : readConfirm bytes = .ok n) :
      Serves s (s.setScan { s.scan with stopConfirm := n }, .done [])
  | inputConfirm {n : Nat} {bytes : Bytes} (read : readConfirm bytes = .ok n) :
      Serves s (s.setScan { s.scan with inputConfirm := n }, .done [])
  | chamber {c : Nat} {x : Nat × Nat} {bytes : Bytes} (read : readChamber bytes = .ok x) (inTable : c ≤ 3) :
      Serves s (takeChamberRecord c x s, .done [])
  | lamp {n : Nat} {x : LampRecord} {bytes : Bytes} (read : readLamp bytes = .ok x) (inTable : n ≤ 15) :
      Serves s (s.setLamp n x, .done [])
  | mask (i : Nat) (m : Bool) : Serves s (drainReleases (writeMask i m s), .done [])
  | raise {c : Nat} (inTable : c ≤ 3) : Serves s (enterBlower c s, .done [])
  | lower {c : Nat} (inTable : c ≤ 3) : Serves s (enterLowering c s, .done [])
  | select (sel : TuningSelection) : Serves s (select sel s, .done [])
  | addHold (p : Point) (tune : s.mode = .tune) : Serves s (addHold p s)
  | removeHold (p : Point) (tune : s.mode = .tune) : Serves s (removeHold p s)
  | clearHolds (tune : s.mode = .tune) : Serves s (emptyTuningHolds s, .done [])
  | readGroup (g : Nat) : Serves s (readGroup g s)
  | snapshot : Serves s (takeSnapshot s)
  | maskItem (x : StatusItem × Bool) : Serves s (maskItem x s)
  | ciphers (x : Option Nat × Option Nat) : Serves s (clearCiphers x s, .done [])
  | releaseAll : Serves s (releaseAll s)

/-- `Taken s i t`: command `i` in state `s` ends in `t`. -/
inductive Taken (s : State) : Instr → State → Prop
  | nothing {i : Instr} : Taken s i s
  | acted {i : Instr} {u : State} (act : Act s i u) : Taken s i (conclude s u)
  | served {i : Instr} {r : Request} {rest : List Request} {acted : Served} (queue : s.port.requests = r :: rest)
      (serves : Serves s acted) : Taken s i (transmitAll (finishService r.tag s acted))
  | powerOn (strap : Fin 4) : Taken s (.powerOnReset strap)
      { State.reset with pending := s.pending, status := { resetStatus with strap := strap }, freeCount := s.freeCount }
  | reset {r : Request} {rest : List Request} (queue : s.port.requests = r :: rest) :
      Taken s .relayReset (relayReset r.tag s)

/-- A command answers a next state, and that is one of the ways in which it can end. -/
def Ends (i : Instr) (s : State) (answer : Answer) : Prop := ∃ t, answer = .next t ∧ Taken s i t

variable {s : State} {i : Instr}

theorem Ends.nothing : Ends i s (.next s) := ⟨s, rfl, .nothing⟩

theorem Ends.acted {u : State} (act : Act s i u) : Ends i s (.next (conclude s u)) := ⟨_, rfl, .acted act⟩

/-- R153, R154, R156: a good frame other than HELLO. -/
theorem Ends.goodFrame {take : State → State} (act : s.port.link = .up → Act s i (take (renewLink s))) :
    Ends i s (goodFrame take s) := by
  unfold Machine.goodFrame
  split
  · exact .nothing
  case h_2 training => exact .acted (.trained training)
  case h_3 up => exact .acted (act up)

theorem Ends.ite {p : Prop} [Decidable p] {u : State} (act : p → Act s i u) :
    Ends i s (.next (conclude s (if p then u else s))) := by
  split
  case isTrue h => exact .acted (act h)
  case isFalse => exact .acted .still

/-- R157: a service is that of the request at the head, or there is nothing to serve (log 5). -/
theorem Ends.serveHead {serves : Request → Bool} {act : Bytes → State → Served}
    (served : ∀ fields, Serves s (act fields s)) : Ends i s (serveHead serves act s) := by
  unfold Machine.serveHead
  split
  · exact .nothing
  case h_2 r rest queue =>
    split
    · exact ⟨_, rfl, .served queue (served _)⟩
    · exact .nothing

/-! ### The parts of a service (R161, R162, R175) -/

theorem Serves.withFields {α : Type} {read : Except Nat α} {act : α → State → Served}
    (served : ∀ v, read = .ok v → Serves s (act v s)) : Serves s (withFields read act s) := by
  unfold Machine.withFields
  split
  · exact served _ rfl
  · exact .unchanged _

theorem Serves.withNumber {highest : Nat} {act : Nat → Bytes → State → Served} {fields : Bytes}
    (served : ∀ n rest, n ≤ highest → Serves s (act n rest s)) : Serves s (withNumber highest act fields s) := by
  unfold Machine.withNumber
  split
  · exact .unchanged _
  · split
    case isTrue inTable => exact served _ _ inTable
    case isFalse => exact .unchanged _

theorem Serves.withNoMore {last : Nat} {rest : Bytes} {act : State → Served} (served : Serves s (act s)) :
    Serves s (withNoMore last rest act s) :=
  .withFields fun _ _ => served

theorem Serves.withIndex {highest : Nat} {act : Nat → Bytes → State → Served} {fields : Bytes}
    (served : ∀ n rest, n ≤ highest → Serves s (act n rest s)) : Serves s (withIndex highest act fields s) := by
  unfold Machine.withIndex
  split
  · split
    case isTrue inTable => exact served _ _ inTable
    case isFalse => exact .unchanged _
  · exact .unchanged _

theorem Serves.writeRecord {α : Type} {highest : Nat} {read : Bytes → Except Nat α} {refused : Nat → α → State → Bool}
    {take : Nat → α → State → State} {fields : Bytes}
    (served : ∀ n x bytes, read bytes = .ok x → n ≤ highest → refused n x s = false → Serves s (take n x s, .done [])) :
    Serves s (writeRecord highest read refused take fields s) :=
  .withIndex fun n rest inTable => .withFields fun x ok => by
    split
    · exact .unchanged _
    case isFalse taken => exact served n x rest ok inTable (by simpa using taken)

theorem Serves.readRecord {highest : Nat} {data : Nat → State → Bytes} {fields : Bytes} :
    Serves s (readRecord highest data fields s) :=
  .withIndex fun _ _ _ => .withFields fun _ _ => .unchanged _

theorem Serves.echoBack (fields : Bytes) : Serves s (echoBack fields s) := by
  unfold Machine.echoBack
  split <;> exact .unchanged _

theorem Serves.raiseChamber {c : Nat} (inTable : c ≤ 3) : Serves s (raiseChamber c s) := by
  unfold Machine.raiseChamber
  split
  · split
    · exact .raise inTable
    · exact .unchanged _
  all_goals exact .unchanged _

theorem Serves.lowerChamber {c : Nat} (inTable : c ≤ 3) : Serves s (lowerChamber c s) := by
  unfold Machine.lowerChamber
  split
  case h_5 | h_6 => exact .unchanged _
  all_goals exact .lower inTable

theorem Serves.holdAct (x : HoldAction × Point) : Serves s (holdAct x s) := by
  unfold Machine.holdAct
  split
  · exact .unchanged _
  case isFalse inTune =>
    have tune : s.mode = .tune := not_not.1 inTune
    split
    · exact .addHold _ tune
    · exact .removeHold _ tune
    · exact .clearHolds tune

theorem Serves.routeMask (fields : Bytes) : Serves s (routeMask fields s) := by
  unfold Machine.routeMask
  refine .withNumber fun i rest _ => ?_
  refine .withFields fun m _ => ?_
  exact .mask i m

theorem Serves.tuneSelect (fields : Bytes) :
    Serves s (Machine.withFields (readSelection fields) (fun sel t => (Machine.select sel t, .done [])) s) := by
  refine .withFields fun sel _ => ?_
  exact .select sel

theorem Serves.cipherClear (fields : Bytes) :
    Serves s (Machine.withFields (readCipherClear fields) (fun x t => (clearCiphers x t, .done [])) s) := by
  refine .withFields fun x _ => ?_
  exact .ciphers x

/-- R3: the three shapes of a SCAN record. -/
theorem Serves.scanRecord {n : Nat} {rest : Bytes} {x : ScanRecord}
    (read : readScanRecord n rest = .ok x) : Serves s (takeScanRecord n x s, .done []) := by
  unfold readScanRecord at read
  split at read
  case isTrue keyRow =>
    cases setting : readKeySetting rest with
    | error e => rw [setting] at read; cases read
    | ok k =>
      rw [setting] at read
      cases read
      exact .keyRow setting keyRow
  case isFalse =>
    cases confirm : readConfirm rest with
    | error e => rw [confirm] at read; cases read
    | ok k =>
      rw [confirm] at read
      cases read
      unfold takeScanRecord
      dsimp only
      split
      · exact .stopConfirm confirm
      · exact .inputConfirm confirm

/-! ### Every command -/

theorem exec_scan (kind row : Byte) (image : Image) (s : State) : exec (.scan kind row image) s =
    goodFrame (fun t => forwardFrame (.scan kind row image) (takeScan kind.toNat row.toNat image t)) s := by rfl

theorem exec_shoe (shoe : Byte) (sample : BitVec 16) (s : State) : exec (.shoe shoe sample) s =
    goodFrame (fun t => forwardFrame (.shoe shoe sample) (takeSample shoe.toNat sample.toNat t)) s := by rfl

theorem exec_request (address tag code : Byte) (fields : Bytes) (s : State) :
    exec (.request address tag code fields) s =
      goodFrame (fun t => if address = t.strapByte then queueRequest ⟨tag, code, fields⟩ t
        else forwardFrame (.request address tag code fields) t) s := by rfl

theorem exec_idle (sender : Byte) (s : State) : exec (.idle sender) s = goodFrame id s := by rfl

theorem exec_echo (s : State) : exec .echo s = serveHead (hasCode 0x01#8) echoBack s := by rfl
theorem exec_unknownRequest (s : State) : exec .unknownRequest s =
    serveHead unknownCode (fun _ t => (t, .badRecord 0)) s := by rfl
theorem exec_modeSetConfig (s : State) : exec .modeSetConfig s = serveHead (asksMode .config) serveMode s := by rfl
theorem exec_modeSetPlay (s : State) : exec .modeSetPlay s = serveHead (asksMode .play) serveMode s := by rfl
theorem exec_modeSetTune (s : State) : exec .modeSetTune s = serveHead (asksMode .tune) serveMode s := by rfl
theorem exec_routeMask (s : State) : exec .routeMask s = serveHead (hasCode 0x05#8) routeMask s := by rfl
theorem exec_tuneSelect (s : State) : exec .tuneSelect s =
    serveHead (hasCode 0x08#8)
      (fun fields => withFields (readSelection fields) (fun sel t => (select sel t, .done []))) s := by rfl
theorem exec_tuneHoldAdd (s : State) : exec .tuneHoldAdd s = serveHead (asksHold 0) serveHold s := by rfl
theorem exec_tuneHoldRemove (s : State) : exec .tuneHoldRemove s = serveHead (asksHold 1) serveHold s := by rfl
theorem exec_tuneHoldClear (s : State) : exec .tuneHoldClear s = serveHead (asksHold 2) serveHold s := by rfl
theorem exec_statusRead (s : State) : exec .statusRead s =
    serveHead (hasCode 0x0A#8) (withNumber 3 (fun g rest => withNoMore 1 rest (readGroup g))) s := by rfl
theorem exec_snapshot (s : State) : exec .snapshot s =
    serveHead (hasCode 0x0C#8) (fun fields => withNoMore 0 fields takeSnapshot) s := by rfl
theorem exec_statusMask (s : State) : exec .statusMask s =
    serveHead (hasCode 0x0B#8) (withNumber 3 (fun g rest => withFields (readItemMask g rest) maskItem)) s := by rfl
theorem exec_cipherRead (s : State) : exec .cipherRead s =
    serveHead (hasCode 0x0D#8) (withNumber 3 (fun c rest => withNoMore 1 rest (readCiphers c))) s := by rfl
theorem exec_cipherClear (s : State) : exec .cipherClear s =
    serveHead (hasCode 0x0E#8)
      (fun fields => withFields (readCipherClear fields) (fun x t => (clearCiphers x t, .done []))) s := by rfl
theorem exec_pointQuery (s : State) : exec .pointQuery s =
    serveHead (hasCode 0x0F#8)
      (fun fields => withFields (readPoint fields) (fun p t => (t, .done (t.pointData p)))) s := by rfl
theorem exec_releaseAll (s : State) : exec .releaseAll s =
    serveHead (hasCode 0x10#8) (fun fields => withNoMore 0 fields releaseAll) s := by rfl
theorem exec_tableWriteStop (s : State) : exec .tableWriteStop s =
    serveHead (writes .stop) (writeRecord 319 readStop stopRefused (fun n x t => t.setStop n x)) s := by rfl
theorem exec_tableReadStop (s : State) : exec .tableReadStop s =
    serveHead (reads .stop) (readRecord 319 (fun n t => stopBytes t.fill (t.stop n))) s := by rfl
theorem exec_tableWriteRank (s : State) : exec .tableWriteRank s =
    serveHead (writes .rank) (writeRecord 47 readRank rankRefused takeRank) s := by rfl
theorem exec_tableReadRank (s : State) : exec .tableReadRank s =
    serveHead (reads .rank) (readRecord 47 (fun r t => rankBytes (t.rank r))) s := by rfl
theorem exec_tableWriteRoute (s : State) : exec .tableWriteRoute s =
    serveHead (writes .route) (writeRecord 95 readRoute routeRefused takeRoute) s := by rfl
theorem exec_tableReadRoute (s : State) : exec .tableReadRoute s =
    serveHead (reads .route) (readRecord 95 (fun i t => routeBytes (t.route i))) s := by rfl
theorem exec_tableWriteTremulant (s : State) : exec .tableWriteTremulant s =
    serveHead (writes .tremulant)
      (writeRecord 7 readTremulant tremulantRefused (fun n x t => t.setTremulant n x)) s := by rfl
theorem exec_tableReadTremulant (s : State) : exec .tableReadTremulant s =
    serveHead (reads .tremulant) (readRecord 7 (fun n t => tremulantBytes (t.tremulant n))) s := by rfl
theorem exec_tableWriteCurve (s : State) : exec .tableWriteCurve s =
    serveHead (writes .curve) (writeRecord 3 readCurve curveRefused writeCurve) s := by rfl
theorem exec_tableReadCurve (s : State) : exec .tableReadCurve s =
    serveHead (reads .curve) (readRecord 3 (fun c t => curveBytes (t.channel c) (t.workingSample c))) s := by rfl
theorem exec_tableWriteSeqdir (s : State) : exec .tableWriteSeqdir s =
    serveHead (writes .seqdir)
      (writeRecord 15 readSeqEntry sequenceRefused (fun q x t => t.setSeqEntry q x)) s := by rfl
theorem exec_tableReadSeqdir (s : State) : exec .tableReadSeqdir s =
    serveHead (reads .seqdir) (readRecord 15 (fun q t => seqEntryBytes t.fill (t.seqEntry q))) s := by rfl
theorem exec_tableWriteSeqmem (s : State) : exec .tableWriteSeqmem s =
    serveHead (writes .seqmem)
      (writeRecord 1023 readStep sequenceRefused (fun i x t => t.setStepRecord i x)) s := by rfl
theorem exec_tableReadSeqmem (s : State) : exec .tableReadSeqmem s =
    serveHead (reads .seqmem) (readRecord 1023 (fun i t => stepBytes (t.stepRecord i))) s := by rfl
theorem exec_tableWriteScan (s : State) : exec .tableWriteScan s = serveHead (writes .scan) writeScan s := by rfl
theorem exec_tableReadScan (s : State) : exec .tableReadScan s =
    serveHead (reads .scan) (readRecord 10 scanData) s := by rfl
theorem exec_tableWriteChamber (s : State) : exec .tableWriteChamber s =
    serveHead (writes .chamber) (writeRecord 3 readChamber neverRefused takeChamberRecord) s := by rfl
theorem exec_tableReadChamber (s : State) : exec .tableReadChamber s =
    serveHead (reads .chamber) (readRecord 3 chamberData) s := by rfl
theorem exec_tableWriteLamp (s : State) : exec .tableWriteLamp s =
    serveHead (writes .lamp) (writeRecord 15 readLamp neverRefused (fun n x t => t.setLamp n x)) s := by rfl
theorem exec_tableReadLamp (s : State) : exec .tableReadLamp s =
    serveHead (reads .lamp) (readRecord 15 (fun n t => lampBytes (t.lamp n))) s := by rfl
theorem exec_tableReadActive (s : State) : exec .tableReadActive s =
    serveHead (reads .active) (readRecord 8 (fun r t => listBytes wordBytes (t.active r))) s := by rfl
theorem exec_tableReadPizz (s : State) : exec .tableReadPizz s =
    serveHead (reads .pizz) (readRecord 0 (fun _ t => listBytes pizzBytes t.claims.pizz)) s := by rfl
theorem exec_noSuchTable (s : State) : exec .noSuchTable s =
    serveHead namesNoTable (fun _ t => (t, .noSuchTable)) s := by rfl

/-- Every command answers a next state, and ends in one of these ways. -/
theorem exec_ends (i : Instr) (s : State) : Ends i s (exec i s) := by
  cases i with
  | powerOnReset strap => exact ⟨_, rfl, .powerOn strap⟩
  | scan kind row image =>
    rw [exec_scan]
    exact .goodFrame (.scanned kind row image)
  | shoe shoe sample =>
    rw [exec_shoe]
    exact .goodFrame (.sampled shoe sample)
  | hello => exact .acted .greeted
  | request address tag code fields =>
    rw [exec_request]
    refine .goodFrame fun up => ?_
    split
    · exact .queued address tag code fields up
    · exact .passedOn address tag code fields up
  | idle sender =>
    rw [exec_idle]
    exact .goodFrame (.idled sender)
  | badFrame =>
    change Ends _ s (execBadFrame s)
    unfold execBadFrame
    split
    · exact .nothing
    case isFalse live => exact .acted (.spoiled live)
  | linkTimerExpiry => exact .ite .lost
  | echo => exact .serveHead .echoBack
  | modeSetConfig => exact .serveHead fun _ => .withFields fun _ _ => .mode _
  | modeSetPlay => exact .serveHead fun _ => .withFields fun _ _ => .mode _
  | modeSetTune => exact .serveHead fun _ => .withFields fun _ _ => .mode _
  | tableWriteStop => exact .serveHead fun _ => .writeRecord fun _ _ _ read inTable taken => .stop read inTable taken
  | tableWriteRank => exact .serveHead fun _ => .writeRecord fun _ _ _ read inTable taken => .rank read inTable taken
  | tableWriteRoute => exact .serveHead fun _ => .writeRecord fun _ _ _ read inTable taken => .route read inTable taken
  | tableWriteTremulant =>
    exact .serveHead fun _ => .writeRecord fun _ _ _ read inTable taken => .tremulant read inTable taken
  | tableWriteCurve => exact .serveHead fun _ => .writeRecord fun _ _ _ read inTable taken => .curve read inTable taken
  | tableWriteSeqdir =>
    exact .serveHead fun _ => .writeRecord fun _ _ _ read inTable taken => .sequence read inTable taken
  | tableWriteSeqmem =>
    exact .serveHead fun _ => .writeRecord fun _ _ _ read inTable taken => .sequenceStep read inTable taken
  | tableWriteScan =>
    exact .serveHead fun _ => .withIndex fun _ _ _ => .withFields fun _ read => .scanRecord read
  | tableWriteChamber => exact .serveHead fun _ => .writeRecord fun _ _ _ read inTable _ => .chamber read inTable
  | tableWriteLamp => exact .serveHead fun _ => .writeRecord fun _ _ _ read inTable _ => .lamp read inTable
  | tableReadStop | tableReadRank | tableReadRoute | tableReadTremulant | tableReadCurve | tableReadSeqdir
  | tableReadSeqmem | tableReadScan | tableReadChamber | tableReadLamp | tableReadActive | tableReadPizz =>
    exact .serveHead fun _ => .readRecord
  | noSuchTable =>
    rw [exec_noSuchTable]
    exact .serveHead fun _ => .unchanged _
  | unknownRequest =>
    rw [exec_unknownRequest]
    exact .serveHead fun _ => .unchanged _
  | routeMask => exact .serveHead .routeMask
  | chamberRaise => exact .serveHead fun _ => .withNumber fun _ _ inTable => .withNoMore (.raiseChamber inTable)
  | chamberLower => exact .serveHead fun _ => .withNumber fun _ _ inTable => .withNoMore (.lowerChamber inTable)
  | tuneSelect =>
    rw [exec_tuneSelect]
    exact .serveHead .tuneSelect
  | tuneHoldAdd | tuneHoldRemove | tuneHoldClear => exact .serveHead fun _ => .withFields fun x _ => .holdAct x
  | statusRead => exact .serveHead fun _ => .withNumber fun g _ _ => .withNoMore (.readGroup g)
  | snapshot =>
    rw [exec_snapshot]
    exact .serveHead fun _ => .withNoMore .snapshot
  | statusMask => exact .serveHead fun _ => .withNumber fun _ _ _ => .withFields fun x _ => .maskItem x
  | cipherRead => exact .serveHead fun _ => .withNumber fun _ _ _ => .withNoMore (.unchanged _)
  | cipherClear =>
    rw [exec_cipherClear]
    exact .serveHead .cipherClear
  | pointQuery =>
    rw [exec_pointQuery]
    exact .serveHead fun _ => .withFields fun _ _ => .unchanged _
  | releaseAll =>
    rw [exec_releaseAll]
    exact .serveHead fun _ => .withNoMore .releaseAll
  | relayReset =>
    change Ends _ s (execRelayReset s)
    unfold execRelayReset
    split
    · exact .nothing
    case h_2 r rest queue =>
      split
      · split
        · exact ⟨_, rfl, .reset queue⟩
        · exact ⟨_, rfl, .served queue (.unchanged _)⟩
      · exact .nothing
  | extUpstreamFrame bytes => exact .acted (.received bytes)
  | extIdle => exact .acted .heard
  | extBadFrame => exact .nothing
  | extTimerExpiry => exact .ite fun _ => .extLost
  | chstatus c wind supply boards => exact .acted (.reported c wind supply boards)
  | chamberBadFrame c => exact .nothing
  | chamberLinkTimerExpiry c => exact .acted (.chamberLost c)
  | windTimerExpiry c => exact .acted (.windless c)
  | settleTimerExpiry c => exact .acted (.settled c)
  | drainTimerExpiry c => exact .acted (.drained c)
  | driveSent c => exact .acted (.driven c)
  | controlSent c => exact .acted (.controlled c)
  | groupAgeExpiry c g => exact .acted (.groupAged c g)
  | controlAgeExpiry c => exact .acted (.controlAged c)
  | onTimerExpiry c p => exact .acted (.guarded c p)
  | strikeTimerExpiry c p => exact .acted (.struck c p)
  | generatorLevelOff g => exact .acted (.levelled g)
  | generatorReturnToZero g => exact .acted (.returned g)
  | pizzicatoExpiry row key stop => exact .acted (.plucked row key stop)
  | splitTimerExpiry input => exact .acted (.split input)
  | stepTimerExpiry player => exact .acted (.stepped player)
  | slewTimerExpiry channel => exact .acted (.slewed channel)
  | returnFrameSent => exact .ite .sent
  | returnLineSilence => exact .ite .silent
  | blinkClockTurn => exact .acted .turned
  | lampStretchExpiry item => exact .acted (.unstretched item)

/-- A command that has answered `t` ended in one of these ways. -/
theorem taken_of_exec {t : State} (ran : exec i s = .next t) : Taken s i t := by
  obtain ⟨u, next, taken⟩ := exec_ends i s
  obtain rfl : u = t := by injection next.symm.trans ran
  exact taken

end Sys2Proof.Machine
end

section
/-! PROOF. What a whole step keeps: a property that the elementary updates keep is kept by every act, every service, the end
of every command, and a tick. The work of a Chamber Controller and the traffic of the links have their own structures, beside
those of the laws for playing. -/

namespace Sys2Proof.Machine

variable {P : State → Prop}

/-! ### The work of the Chamber Controllers (chapter 8) -/

/-- A chamber changed by its controller: its record (R135) stands, and its cipher list has grown at most within its
capacity (R147). -/
def Chamber.workStep (a b : Chamber) : Prop :=
  b.windTimeout = a.windTimeout ∧ b.settle = a.settle ∧
    b.ciphers.length ≤ max a.ciphers.length Config.cipherCapacity

/-- The property is kept by latches and by what a controller does to its chamber. -/
structure KeptByChambers (P : State → Prop) : Prop extends KeptByLatches P where
  written : ∀ s c x, (s.chamber c).workStep x → P s → P (s.setChamber c x)

theorem Chamber.workStep_of_list {a b : Chamber} (wind : b.windTimeout = a.windTimeout) (settle : b.settle = a.settle)
    (list : b.ciphers = a.ciphers) : a.workStep b :=
  ⟨wind, settle, by rw [list]; exact le_max_left _ _⟩

theorem Chamber.sameLogic.workStep {a b : Chamber} (same : a.sameLogic b) : a.workStep b := by
  rw [same]
  exact Chamber.workStep_of_list rfl rfl rfl

theorem Chamber.guardStep.workStep {a b : Chamber} (step : a.guardStep b) : a.workStep b := by
  obtain ⟨only, shorter⟩ := step
  exact ⟨by rw [only], by rw [only], le_max_of_le_left shorter⟩

namespace KeptByChambers

theorem transmit (k : KeptByChambers P) (c : Nat) (s : State) (hs : P s) : P (Machine.transmit c s) := by
  simp only [Machine.transmit]
  split
  · exact hs
  · split
    · exact k.written s c _ (startControl_sameLogic _).workStep hs
    · split
      · exact k.written s c _ (startDrive_sameLogic _ _ _).workStep hs
      · exact hs

theorem transmitAll (k : KeptByChambers P) (s : State) (hs : P s) : P (Machine.transmitAll s) :=
  forEach_keeps (fun c t ht => k.transmit c t ht) _ s hs

theorem changeChamber (k : KeptByChambers P) (c : Nat) (x : Chamber) (s : State) (step : (s.chamber c).workStep x)
    (hs : P s) : P (Machine.changeChamber c x s) := by
  simp only [Machine.changeChamber]
  split
  · exact k.written s c x step hs
  · exact k.latch _ _ (k.written s c x step hs)

theorem enterFault (k : KeptByChambers P) (c : Nat) (s : State) (hs : P s) : P (Machine.enterFault c s) :=
  k.changeChamber c _ s (Chamber.workStep_of_list rfl rfl rfl) hs

theorem enterDark (k : KeptByChambers P) (c : Nat) (s : State) (hs : P s) : P (Machine.enterDark c s) :=
  k.changeChamber c _ s (Chamber.workStep_of_list rfl rfl rfl) hs

theorem enterBlower (k : KeptByChambers P) (c : Nat) (s : State) (hs : P s) : P (Machine.enterBlower c s) :=
  k.changeChamber c _ s (Chamber.workStep_of_list rfl rfl rfl) hs

theorem enterSettle (k : KeptByChambers P) (c : Nat) (s : State) (hs : P s) : P (Machine.enterSettle c s) :=
  k.changeChamber c _ s (Chamber.workStep_of_list rfl rfl rfl) hs

theorem enterLowering (k : KeptByChambers P) (c : Nat) (s : State) (hs : P s) : P (Machine.enterLowering c s) := by
  refine k.changeChamber c _ s ?_ hs
  rw [(s.chamber c).forceAll_groups]
  exact Chamber.workStep_of_list rfl rfl rfl

theorem setWind (k : KeptByChambers P) (c : Nat) (b : Bool) (s : State) (hs : P s) : P (Machine.setWind c b s) := by
  simp only [Machine.setWind]
  have written := k.written s c { s.chamber c with windReady := b } (Chamber.workStep_of_list rfl rfl rfl) hs
  split
  · exact written
  · exact k.latch _ _ written

theorem setSupplyOk (k : KeptByChambers P) (c : Nat) (b : Bool) (s : State) (hs : P s) :
    P (Machine.setSupplyOk c b s) := by
  simp only [Machine.setSupplyOk]
  have written := k.written s c { s.chamber c with supplyOk := b } (Chamber.workStep_of_list rfl rfl rfl) hs
  split
  · exact written
  · exact k.latch _ _ written

theorem setBoards (k : KeptByChambers P) (c : Nat) (b : BitVec 16) (s : State) (hs : P s) :
    P (Machine.setBoards c b s) := by
  simp only [Machine.setBoards]
  have written := k.written s c { s.chamber c with boards := b } (Chamber.workStep_of_list rfl rfl rfl) hs
  split
  · exact written
  · exact k.latch _ _ written

theorem takeStatus (k : KeptByChambers P) (c : Nat) (wind supply : Bool) (boards : BitVec 16) (s : State) (hs : P s) :
    P (Machine.takeStatus c wind supply boards s) := by
  have read := k.setBoards c boards _ <| k.setSupplyOk c supply _ <| k.setWind c wind _ <|
    k.written s c { s.chamber c with present := true, linkTimer := some Config.chamberLinkTime }
      (Chamber.workStep_of_list rfl rfl rfl) hs
  unfold Machine.takeStatus reactToStatus
  split
  · split
    · exact k.enterSettle c _ read
    · exact read
  · split
    · exact read
    · exact k.enterFault c _ read
  · split
    · exact read
    · exact k.enterFault c _ read
  all_goals exact read

theorem chamberLinkExpires (k : KeptByChambers P) (c : Nat) (s : State) (hs : P s) :
    P (Machine.chamberLinkExpires c s) := by
  simp only [Machine.chamberLinkExpires]
  split
  · exact hs
  · have lost := k.setSupplyOk c false _ <| k.setWind c false _ <|
      k.written s c { s.chamber c with present := false, linkTimer := none } (Chamber.workStep_of_list rfl rfl rfl) hs
    unfold failIfUp
    split
    case h_1 | h_2 | h_3 => exact k.enterFault c _ lost
    all_goals exact lost

theorem windExpires (k : KeptByChambers P) (c : Nat) (s : State) (hs : P s) : P (Machine.windExpires c s) := by
  simp only [Machine.windExpires]
  split
  · exact k.enterFault c s hs
  · exact hs

theorem settleExpires (k : KeptByChambers P) (c : Nat) (s : State) (hs : P s) : P (Machine.settleExpires c s) := by
  simp only [Machine.settleExpires]
  split
  · split
    · exact k.changeChamber c _ s (Chamber.workStep_of_list rfl rfl rfl) hs
    · exact k.enterFault c s hs
  · exact hs

theorem drainExpires (k : KeptByChambers P) (c : Nat) (s : State) (hs : P s) : P (Machine.drainExpires c s) := by
  have stopped : P (s.setChamber c { s.chamber c with drainTimer := none }) :=
    k.written s c _ (Chamber.workStep_of_list rfl rfl rfl) hs
  simp only [Machine.drainExpires]
  split
  · split
    · exact k.changeChamber c _ _ (Chamber.workStep_of_list rfl rfl rfl) stopped
    · exact k.enterDark c _ stopped
  · exact hs

theorem driveEnds (k : KeptByChambers P) (c : Nat) (s : State) (hs : P s) : P (Machine.driveEnds c s) := by
  have freed : P (s.setChamber c { s.chamber c with tx := .free }) :=
    k.written s c _ (Chamber.workStep_of_list rfl rfl rfl) hs
  simp only [Machine.driveEnds]
  split
  · simp only [endClearing]
    split
    · exact k.changeChamber c _ _ (Chamber.workStep_of_list rfl rfl rfl) freed
    · exact freed
  all_goals exact hs

theorem controlEnds (k : KeptByChambers P) (c : Nat) (s : State) (hs : P s) : P (Machine.controlEnds c s) := by
  have freed : P (s.setChamber c { s.chamber c with tx := .free }) :=
    k.written s c _ (Chamber.workStep_of_list rfl rfl rfl) hs
  simp only [Machine.controlEnds]
  split
  · split
    · exact k.enterDark c _ freed
    · exact freed
  all_goals exact hs

theorem groupAges (k : KeptByChambers P) (c g : Nat) (s : State) (hs : P s) : P (Machine.groupAges c g s) :=
  k.written s c _ (Chamber.workStep_of_list rfl rfl rfl) hs

theorem controlAges (k : KeptByChambers P) (c : Nat) (s : State) (hs : P s) : P (Machine.controlAges c s) :=
  k.written s c _ (Chamber.workStep_of_list rfl rfl rfl) hs

theorem onTimerExpires (k : KeptByChambers P) (p : Point) (s : State) (hs : P s) : P (Machine.onTimerExpires p s) := by
  simp only [Machine.onTimerExpires]
  split
  · exact hs
  · split
    case isTrue room =>
      refine k.latch _ _ (k.written s _ _ ⟨rfl, rfl, ?_⟩ hs)
      rw [List.length_append, List.length_singleton]
      exact le_max_of_le_right room
    case isFalse =>
      exact k.latch _ _ (k.latch _ _ (k.written s _ _ (Chamber.workStep_of_list rfl rfl rfl) hs))

theorem latchCipherChange (k : KeptByChambers P) (before s : State) (hs : P s) :
    P (Machine.latchCipherChange before s) := by
  unfold Machine.latchCipherChange
  split
  · exact hs
  · exact k.latch _ s hs

theorem liftGuard (k : KeptByChambers P) (p : Point) (s : State) (hs : P s) : P (Machine.liftGuard p s) := by
  have cleared : P (Machine.clearGuard p s) :=
    k.latchCipherChange s _ (k.written s _ _ ⟨rfl, rfl, le_max_of_le_left (List.length_filter_le _ _)⟩ hs)
  have started : P (Machine.startOnTimer p (Machine.clearGuard p s)) := by
    unfold Machine.startOnTimer
    split
    · split
      · split
        · exact k.written _ _ _ (Chamber.workStep_of_list rfl rfl rfl) cleared
        · exact cleared
      · exact cleared
    · exact cleared
  simp only [Machine.liftGuard]
  split
  · split
    · exact started
    · exact cleared
  · exact hs

theorem liftChamber (k : KeptByChambers P) (c : Nat) (s : State) (hs : P s) : P (Machine.liftChamber c s) :=
  forEach_keeps (fun p t ht => k.liftGuard ⟨c, p⟩ t ht) _ s hs

theorem clearCiphers (k : KeptByChambers P) (x : Option Nat × Option Nat) (s : State) (hs : P s) :
    P (Machine.clearCiphers x s) := by
  unfold Machine.clearCiphers
  split
  · exact k.liftGuard _ s hs
  · exact k.liftChamber _ s hs
  · exact forEach_keeps (fun c t ht => k.liftChamber c t ht) _ s hs

end KeptByChambers

/-! ### The end of a command and of a service -/

theorem KeptByReports.conclude (r : KeptByReports P) (k : KeptByChambers P) (before s : State) (hs : P s) :
    P (Machine.conclude before s) :=
  k.transmitAll _ (r.announceLamps before s hs)

/-- The end of a service, for a property that the request's leaving keeps. -/
theorem KeptByReports.finishService (r : KeptByReports P) (leaves : ∀ s, P s → P (leaveQueue s)) (tag : Byte)
    (before : State) (acted : Served) (hs : P acted.1) : P (Machine.finishService tag before acted) :=
  leaves _ (r.releaseHeld _ (r.offered _ _ (r.holdLamps before _ hs)))

/-! ### The two orders of a link loss (log 11) -/

/-- R155: the Scan Image Unit's part comes before the Trap Router's, or after it; a free value is used up where the order
shows. -/
theorem reportLoss_cases (s : State) :
    reportLoss s = routerLinkLoss (scanLinkLoss s) ∨
      reportLoss s = (routerLinkLoss (scanLinkLoss s)).setFreeCount (s.freeCount + 1) ∨
      reportLoss s = (scanLinkLoss (routerLinkLoss s)).setFreeCount (s.freeCount + 1) := by
  unfold reportLoss
  generalize routerLinkLoss (scanLinkLoss s) = scanFirst
  generalize scanLinkLoss (routerLinkLoss s) = routerFirst
  by_cases same : scanFirst = routerFirst
  · exact .inl (if_pos same)
  · refine .inr ?_
    cases order : Config.routerTakesLossFirst s.freeCount
    · exact .inl (by simp [same])
    · exact .inr (by simp [same])

/-! ### A tick, and a step (log 2) -/

theorem takeDue_keeps (commands : ∀ i s t, exec i s = .next t → P s → P t) (s : State) (i : Instr) (hs : P s) :
    P (takeDue s i) := by
  obtain ⟨t, ran, -⟩ := exec_ends i s
  unfold takeDue
  split
  · rw [ran]
    exact commands i s t ran hs
  · exact hs

theorem takeDues_keep (commands : ∀ i s t, exec i s = .next t → P s → P t) (events : List Instr) (s : State)
    (hs : P s) : P (events.foldl takeDue s) := by
  induction events generalizing s with
  | nil => exact hs
  | cons i rest ih => exact ih _ (takeDue_keeps commands s i hs)

/-- A property kept by every command, by counting and by the transmitters, and blind to the queue of commands, is kept by
every step. -/
theorem step_keeps (commands : ∀ i s t, exec i s = .next t → P s → P t) (counts : ∀ s, P s → P (countDown s))
    (transmits : ∀ s, P s → P (transmitAll s)) (queue : ∀ s x, P s → P (s.setPending x)) {s t : State} (hs : P s)
    (stepped : step s = .next t) : P t := by
  unfold step at stepped
  split at stepped
  case h_1 i rest waiting => exact commands i _ t stepped (queue s rest hs)
  case h_2 =>
    obtain rfl := Host.Outcome.next.inj stepped
    exact transmits _ (takeDues_keep commands _ _ (counts s hs))

end Sys2Proof.Machine
end

section
/-! PROOF. Chapter 9: the links' invariant (R152, R157 to R159). What plays and what a chamber does reaches the console port
by the frames it offers alone, so that the invariant is a matter of the link commands. -/

namespace Sys2Proof.Machine

/-! ### The invariant speaks of the console port and the extension port alone -/

theorem LinksSound.congr {s t : State} (sound : LinksSound s) (port : t.port = s.port) (ext : t.ext = s.ext) :
    LinksSound t := by
  obtain ⟨timer, badRun, goodRun, downRuns, requests, returnQueue, line, up⟩ := sound
  exact ⟨by rwa [port], by rwa [port], by rwa [port], by rwa [port], by rwa [port], by rwa [port], by rwa [port],
    by rwa [ext]⟩

/-- R158: what a free line takes leaves the queue shorter, and a line that stays free has nothing waiting. -/
theorem startLine_sound {s : State} (queue : s.port.returnQueue.length ≤ Config.returnCapacity) :
    (startLine s).port.returnQueue.length ≤ Config.returnCapacity ∧
      ((startLine s).port.line = none → (startLine s).port.returnQueue = []) := by
  unfold startLine
  split
  case h_1 f rest free waiting =>
    rw [waiting, List.length_cons] at queue
    exact ⟨by simp only [State.setPort_port]; omega, nofun⟩
  case h_2 stays =>
    refine ⟨queue, fun free => ?_⟩
    cases waiting : s.port.returnQueue with
    | nil => rfl
    | cons f rest => exact absurd waiting (stays f rest free)

/-- The clauses that a change of the return line alone can break are those of the queue and the line. -/
theorem LinksSound.of_returnLine {s t : State} (sound : LinksSound s)
    (port : t.port = { s.port with returnQueue := t.port.returnQueue, line := t.port.line, silence := t.port.silence })
    (ext : t.ext = s.ext) (queue : t.port.returnQueue.length ≤ Config.returnCapacity)
    (line : t.port.line = none → t.port.returnQueue = []) : LinksSound t where
  timer := by rw [port]; exact sound.timer
  badRun := by rw [port]; exact sound.badRun
  goodRun := by rw [port]; exact sound.goodRun
  downRuns := by rw [port]; exact sound.downRuns
  requests := by rw [port]; exact sound.requests
  returnQueue := queue
  line := line
  ext := by rw [ext]; exact sound.ext

theorem LinksSound.offer {s : State} (sound : LinksSound s) (f : UpFrame) : LinksSound (offer f s) := by
  by_cases room : s.port.returnQueue.length < Config.returnCapacity
  · have joined := startLine_sound (s := s.setPort { s.port with returnQueue := s.port.returnQueue ++ [f] })
      (by simpa using room)
    have offered : Machine.offer f s =
        startLine (s.setPort { s.port with returnQueue := s.port.returnQueue ++ [f] }) := if_pos room
    rw [offered]
    exact sound.of_returnLine (by rw [startLine_port]; rfl) (startLine_ext _) joined.1 joined.2
  · rw [offer_full f s room]
    exact sound.congr (overrun_port s) (overrun_ext s)

theorem linksSound_keptByReports : KeptByReports LinksSound where
  offered f _ sound := sound.offer f
  flagged i s sound := sound.congr (setFlag_port i s) (setFlag_ext i s)
  held _ _ _ sound := sound.congr rfl rfl

theorem linksSound_keptByPlaying : KeptByPlaying LinksSound where
  toKeptByLatches := linksSound_keptByReports.latches
  counted _ _ _ sound := sound.congr rfl rfl
  guarded _ _ _ _ sound := sound.congr rfl rfl
  pizzed _ _ _ sound := sound.congr rfl rfl
  pooled _ _ _ sound := sound.congr rfl rfl
  played _ _ _ _ sound := sound.congr rfl rfl
  routed _ _ _ _ sound := sound.congr rfl rfl
  demanded _ _ sound := sound.congr rfl rfl
  asked _ _ sound := sound.congr rfl rfl
  listed _ _ sound := sound.congr rfl rfl
  holding _ _ _ sound := sound.congr rfl rfl
  rowed _ kind _ _ _ sound := by cases kind <;> exact sound.congr rfl rfl

theorem linksSound_keptByChambers : KeptByChambers LinksSound where
  toKeptByLatches := linksSound_keptByReports.latches
  written _ _ _ _ sound := sound.congr rfl rfl

/-! ### The console link (R152 to R155) -/

theorem noBadRun : 0 < Config.badRunLimit := by decide

theorem noGoodRun : 0 < Config.goodRunLimit := by decide

/-- R152, R153: a port whose link lives, with its timer running and its runs within their limits, is sound with the rest
of a sound state. -/
theorem LinksSound.of_live {s t : State} (sound : LinksSound s) (live : t.port.link ≠ .down)
    (timer : t.port.timer.isSome = true) (badRun : t.port.badRun < Config.badRunLimit)
    (goodRun : t.port.goodRun < Config.goodRunLimit) (requests : t.port.requests = s.port.requests)
    (returnQueue : t.port.returnQueue = s.port.returnQueue) (line : t.port.line = s.port.line) (ext : t.ext = s.ext) :
    LinksSound t where
  timer := ⟨fun down => absurd down live, fun stopped => by rw [stopped] at timer; cases timer⟩
  badRun := badRun
  goodRun := goodRun
  downRuns down := absurd down live
  requests := by rw [requests]; exact sound.requests
  returnQueue := by rw [returnQueue]; exact sound.returnQueue
  line := by rw [returnQueue, line]; exact sound.line
  ext := by rw [ext]; exact sound.ext

theorem LinksSound.renewLink {s : State} (sound : LinksSound s) (live : s.port.link ≠ .down) :
    LinksSound (renewLink s) :=
  sound.of_live live rfl noBadRun sound.goodRun rfl rfl rfl rfl

theorem LinksSound.latch {s : State} (sound : LinksSound s) (i : StatusItem) : LinksSound (latch i s) :=
  linksSound_keptByReports.latch i s sound

theorem LinksSound.train {s : State} (sound : LinksSound s) (training : s.port.link = .training) :
    LinksSound (train (Machine.renewLink s)) := by
  have live : s.port.link ≠ .down := by rw [training]; decide
  unfold Machine.train
  split
  case isTrue short => exact sound.of_live live rfl noBadRun short rfl rfl rfl rfl
  case isFalse =>
    have up : LinksSound ((Machine.renewLink s).setPort { (Machine.renewLink s).port with goodRun := 0, link := .up }) :=
      sound.of_live nofun rfl noBadRun noGoodRun rfl rfl rfl rfl
    exact up.latch .link

theorem LinksSound.forwardDown {s : State} (sound : LinksSound s) (bytes : Bytes) : LinksSound (forwardDown bytes s) := by
  unfold Machine.forwardDown
  split
  · obtain ⟨timer, badRun, goodRun, downRuns, requests, returnQueue, line, up⟩ := sound
    exact ⟨timer, badRun, goodRun, downRuns, requests, returnQueue, line, up⟩
  · exact sound

theorem LinksSound.forwardFrame {s : State} (sound : LinksSound s) (i : Instr) : LinksSound (forwardFrame i s) := by
  unfold Machine.forwardFrame
  split
  · exact sound.forwardDown _
  · exact sound

theorem LinksSound.startTraining {s : State} (sound : LinksSound s) : LinksSound (startTraining s) := by
  unfold Machine.startTraining
  split
  case h_1 =>
    have entered : LinksSound (s.setPort
        { s.port with badRun := 0, goodRun := 0, timer := some Config.linkTime, link := .training }) :=
      sound.of_live nofun rfl noBadRun noGoodRun rfl rfl rfl rfl
    exact entered.latch .link
  case h_2 training =>
    have live : s.port.link ≠ .down := by rw [training]; decide
    exact sound.of_live live rfl noBadRun noGoodRun rfl rfl rfl rfl
  case h_3 up => exact sound.renewLink (by rw [up]; decide)

theorem LinksSound.queueRequest {s : State} (sound : LinksSound s) (r : Request) : LinksSound (queueRequest r s) := by
  unfold Machine.queueRequest
  split
  case isTrue room =>
    obtain ⟨timer, badRun, goodRun, downRuns, requests, returnQueue, line, up⟩ := sound
    exact ⟨timer, badRun, goodRun, downRuns, by simpa using room, returnQueue, line, up⟩
  · exact sound.offer _

/-! ### The entry to DOWN (R155) -/

theorem linksSound_scanLinkLoss {s : State} (sound : LinksSound s) : LinksSound (scanLinkLoss s) :=
  linksSound_keptByPlaying.scanLinkLoss (fun _ _ sound => sound.congr rfl rfl) s sound

theorem LinksSound.setFreeCount {s : State} (sound : LinksSound s) (n : Nat) : LinksSound (s.setFreeCount n) :=
  sound.congr rfl rfl

theorem LinksSound.reportLoss {s : State} (sound : LinksSound s) : LinksSound (reportLoss s) := by
  have scanFirst : LinksSound (routerLinkLoss (scanLinkLoss s)) :=
    linksSound_keptByPlaying.routerLinkLoss _ (linksSound_scanLinkLoss sound)
  have routerFirst : LinksSound (scanLinkLoss (routerLinkLoss s)) :=
    linksSound_scanLinkLoss (linksSound_keptByPlaying.routerLinkLoss s sound)
  obtain same | chosen | chosen := reportLoss_cases s
  · exact same ▸ scanFirst
  · exact chosen ▸ scanFirst.setFreeCount _
  · exact chosen ▸ routerFirst.setFreeCount _

theorem LinksSound.enterDown {s : State} (sound : LinksSound s) : LinksSound (enterDown s) := by
  have down : LinksSound (s.setPort
      { s.port with timer := none, badRun := 0, goodRun := 0, requests := s.port.requests.take 1, link := .down }) :=
    { timer := by simp
      badRun := by simp [Config.badRunLimit]
      goodRun := by simp [Config.goodRunLimit]
      downRuns := by simp
      requests := by
        have short := sound.requests
        simp only [State.setPort_port, List.length_take]
        omega
      returnQueue := sound.returnQueue
      line := sound.line
      ext := sound.ext }
  exact (down.latch .link).reportLoss

theorem LinksSound.countBad {s : State} (sound : LinksSound s) (live : s.port.link ≠ .down) : LinksSound (countBad s) := by
  unfold Machine.countBad
  split
  case isTrue short =>
    refine sound.of_live live ?_ short noGoodRun rfl rfl rfl rfl
    exact Option.isSome_iff_ne_none.2 (fun stopped => live (sound.timer.2 stopped))
  case isFalse => exact sound.enterDown

/-! ### The extension link (R159) -/

/-- R159: the extension timer runs exactly while the link is UP. -/
theorem LinksSound.setExtUp {s : State} {b : Bool}
    (sound : LinksSound (s.setExt { s.ext with up := b })) : LinksSound (setExtUp b s) := by
  unfold Machine.setExtUp
  split
  case isTrue same =>
    subst same
    exact sound.congr rfl rfl
  case isFalse => exact sound.latch .ext

theorem LinksSound.ofExt {s : State} (sound : LinksSound s) {x : Ext} (agrees : x.up = x.timer.isSome) :
    LinksSound (s.setExt x) := by
  obtain ⟨timer, badRun, goodRun, downRuns, requests, returnQueue, line, up⟩ := sound
  exact ⟨timer, badRun, goodRun, downRuns, requests, returnQueue, line, agrees⟩

theorem LinksSound.renewExt {s : State} (sound : LinksSound s) : LinksSound (renewExt s) :=
  .setExtUp (sound.ofExt rfl)

theorem LinksSound.extLost {s : State} (sound : LinksSound s) :
    LinksSound (Machine.setExtUp false (s.setExt { s.ext with timer := none })) :=
  .setExtUp (sound.ofExt rfl)

/-! ### The channels and the pool, as far as the links are concerned -/

theorem recomputeGoal_links {c : Nat} {s : State} (sound : LinksSound s) : LinksSound (recomputeGoal c s) :=
  sound.congr rfl rfl

theorem takeSample_links {shoe sample : Nat} {s : State} (sound : LinksSound s) :
    LinksSound (takeSample shoe sample s) := by
  simp only [takeSample]
  split
  · exact forEach_keeps (fun c t sound => recomputeGoal_links sound) _ _ (sound.congr rfl rfl)
  · exact sound

/-! ### The commands -/

/-- What changes neither port is an act that keeps the invariant. -/
theorem act_keeps_links {s u : State} {i : Instr} (act : Act s i u) (sound : LinksSound s) : LinksSound u := by
  have k := linksSound_keptByPlaying
  have c := linksSound_keptByChambers
  have live : s.port.link = .up → s.port.link ≠ .down := fun up => by rw [up]; decide
  cases act with
  | trained training => exact sound.train training
  | scanned kind row image up =>
    refine LinksSound.forwardFrame ?_ _
    exact k.takeScan _ _ _ _ (fun _ _ => (sound.renewLink (live up)).congr rfl rfl) (sound.renewLink (live up))
  | sampled shoe sample up => exact (takeSample_links (sound.renewLink (live up))).forwardFrame _
  | greeted => exact ((sound.offer _).forwardFrame _).startTraining
  | queued address tag code fields up => exact (sound.renewLink (live up)).queueRequest _
  | passedOn address tag code fields up => exact (sound.renewLink (live up)).forwardFrame _
  | idled sender up => exact sound.renewLink (live up)
  | spoiled live => exact sound.countBad live
  | lost running => exact sound.enterDown
  | received bytes => exact sound.renewExt.offer _
  | heard => exact sound.renewExt
  | extLost => exact sound.extLost
  | reported n wind supply boards => exact c.takeStatus n wind supply boards s sound
  | chamberLost n => exact c.chamberLinkExpires n s sound
  | windless n => exact c.windExpires n s sound
  | settled n => exact c.settleExpires n s sound
  | drained n => exact c.drainExpires n s sound
  | driven n => exact c.driveEnds n s sound
  | controlled n => exact c.controlEnds n s sound
  | groupAged n g => exact c.groupAges n g s sound
  | controlAged n => exact c.controlAges n s sound
  | guarded n p => exact c.onTimerExpires _ s sound
  | struck n p => exact k.setStrikeTimer _ none s sound
  | levelled g =>
    unfold levelOff
    split
    · split
      · exact k.setGenerator _ _ s sound
      · exact sound
    · exact sound
  | returned g =>
    unfold returnToZero
    split
    · exact k.setGenerator _ _ s sound
    · exact sound
  | plucked row key stop =>
    unfold pizzExpires
    split
    · split
      · exact sound
      · exact k.removeClaim _ _ (sound.congr rfl rfl)
    · exact sound
  | split input =>
    simp only [splitExpires]
    split
    · exact k.startService _ _ (k.setRouteState _ _ _ s sound)
    · exact sound
  | stepped player =>
    unfold stepExpires
    split
    · split
      · exact k.stopPlayer _ s sound
      · exact k.moveOn _ s sound
    · exact sound
  | slewed channel =>
    simp only [slewExpires]
    split
    · exact sound
    · exact sound.congr rfl rfl
  | sent busy =>
    have freed := startLine_sound (s := s.setPort { s.port with line := none, silence := 0 }) sound.returnQueue
    exact sound.of_returnLine (by rw [startLine_port]; rfl) (startLine_ext _) freed.1 freed.2
  | silent quiet => exact sound.offer _
  | turned => exact sound.congr rfl rfl
  | unstretched item => exact sound.congr rfl rfl
  | still => exact sound

end Sys2Proof.Machine
end

section
/-! PROOF. What every command keeps: the acts for a property that is blind to the traffic of the links, the services for a
property that the single writes keep, and from both every command. -/

namespace Sys2Proof.Machine

variable {P : State → Prop}

/-! ### The traffic of the links, the channels and the clocks -/

/-- The property is kept by what the links, the free values, the clocks and flags, and the expression channels do, the mode,
the LAMP records and the CURVE records standing. -/
structure KeptByTraffic (P : State → Prop) : Prop where
  ported : ∀ s x, P s → P (s.setPort x)
  extended : ∀ s x, P s → P (s.setExt x)
  freed : ∀ s n, P s → P (s.setFreeCount n)
  flagged : ∀ s x, x.mode = s.status.mode → x.lamps = s.status.lamps → P s → P (s.setStatus x)
  sampled : ∀ s shoe x, P s → P (s.setSample shoe x)
  channelled : ∀ s c x, x.record = (s.channel c).record → P s → P (s.setChannel c x)

theorem actOnGoal_record (ch : Channel) : (actOnGoal ch).record = ch.record := by
  unfold actOnGoal moveChannel
  split
  · split <;> rfl
  · rfl

theorem moveChannel_record (ch : Channel) : (moveChannel ch).record = ch.record := by
  unfold moveChannel
  split <;> rfl

namespace KeptByTraffic

theorem startLine (k : KeptByTraffic P) (s : State) (hs : P s) : P (Machine.startLine s) := by
  unfold Machine.startLine
  split
  · exact k.ported s _ hs
  · exact hs

theorem setFlag (k : KeptByTraffic P) (i : StatusItem) (s : State) (hs : P s) : P (Machine.setFlag i s) := by
  have latched : P (s.setLatched i true) := k.flagged s _ rfl rfl hs
  simp only [Machine.setFlag]
  split
  · exact k.flagged _ _ rfl rfl latched
  · exact latched

theorem offer (k : KeptByTraffic P) (f : UpFrame) (s : State) (hs : P s) : P (Machine.offer f s) := by
  unfold Machine.offer
  split
  · exact k.startLine _ (k.ported s _ hs)
  · simp only [overrun]
    split
    · exact k.flagged _ _ rfl rfl (k.setFlag _ s hs)
    · exact k.setFlag _ s hs

theorem reports (k : KeptByTraffic P) : KeptByReports P where
  offered := k.offer
  flagged := k.setFlag
  held s _ _ hs := k.flagged s _ rfl rfl hs

theorem renewLink (k : KeptByTraffic P) (s : State) (hs : P s) : P (Machine.renewLink s) := k.ported s _ hs

theorem enterLink (k : KeptByTraffic P) (x : LinkState) (s : State) (hs : P s) : P (Machine.enterLink x s) :=
  k.reports.latch _ _ (k.ported s _ hs)

theorem train (k : KeptByTraffic P) (s : State) (hs : P s) : P (Machine.train s) := by
  unfold Machine.train
  split
  · exact k.ported s _ hs
  · exact k.enterLink _ _ (k.ported s _ hs)

theorem forwardFrame (k : KeptByTraffic P) (i : Instr) (s : State) (hs : P s) : P (Machine.forwardFrame i s) := by
  unfold Machine.forwardFrame forwardDown
  split
  · split
    · exact k.extended s _ hs
    · exact hs
  · exact hs

theorem startTraining (k : KeptByTraffic P) (s : State) (hs : P s) : P (Machine.startTraining s) := by
  unfold Machine.startTraining
  split
  · exact k.enterLink _ _ (k.ported s _ hs)
  · exact k.renewLink _ (k.ported s _ hs)
  · exact k.renewLink s hs

theorem queueRequest (k : KeptByTraffic P) (r : Request) (s : State) (hs : P s) : P (Machine.queueRequest r s) := by
  unfold Machine.queueRequest
  split
  · exact k.ported s _ hs
  · exact k.offer _ s hs

theorem setExtUp (k : KeptByTraffic P) (b : Bool) (s : State) (hs : P s) : P (Machine.setExtUp b s) := by
  unfold Machine.setExtUp
  split
  · exact hs
  · exact k.reports.latch _ _ (k.extended s _ hs)

theorem recomputeGoal (k : KeptByTraffic P) (c : Nat) (s : State) (hs : P s) : P (Machine.recomputeGoal c s) :=
  k.channelled s c _ (actOnGoal_record _) hs

theorem takeSample (k : KeptByTraffic P) (shoe sample : Nat) (s : State) (hs : P s) :
    P (Machine.takeSample shoe sample s) := by
  simp only [Machine.takeSample]
  split
  · exact forEach_keeps (fun c t ht => k.recomputeGoal c t ht) _ _ (k.sampled s shoe _ hs)
  · exact hs

end KeptByTraffic

/-! ### The acts -/

theorem reportLoss_keeps (t : KeptByTraffic P) (k : KeptByEffects P) (loss : ∀ s, P s → P (scanLinkLoss s)) (s : State)
    (hs : P s) : P (reportLoss s) := by
  have scanFirst : P (routerLinkLoss (scanLinkLoss s)) := k.routerLinkLoss _ (loss s hs)
  have routerFirst : P (scanLinkLoss (routerLinkLoss s)) := loss _ (k.routerLinkLoss s hs)
  obtain same | chosen | chosen := reportLoss_cases s
  · exact same ▸ scanFirst
  · exact chosen ▸ t.freed _ _ scanFirst
  · exact chosen ▸ t.freed _ _ routerFirst

theorem enterDown_keeps (t : KeptByTraffic P) (k : KeptByEffects P) (loss : ∀ s, P s → P (scanLinkLoss s)) (s : State)
    (hs : P s) : P (enterDown s) :=
  reportLoss_keeps t k loss _ (t.enterLink _ _ (t.ported s _ hs))

/-- Every act keeps a property that traffic, effects and the controllers' work keep, and the Scan Image Unit at a SCAN and at
a link loss. -/
theorem act_keeps (t : KeptByTraffic P) (k : KeptByEffects P) (c : KeptByChambers P)
    (scan : ∀ kind r image s, P s → P (takeScan kind r image s)) (loss : ∀ s, P s → P (scanLinkLoss s))
    {s u : State} {i : Instr} (act : Act s i u) (hs : P s) : P u := by
  cases act with
  | trained training => exact t.train _ (t.renewLink s hs)
  | scanned kind row image up => exact t.forwardFrame _ _ (scan _ _ _ _ (t.renewLink s hs))
  | sampled shoe sample up => exact t.forwardFrame _ _ (t.takeSample _ _ _ (t.renewLink s hs))
  | greeted => exact t.startTraining _ (t.forwardFrame _ _ (t.offer _ s hs))
  | queued address tag code fields up => exact t.queueRequest _ _ (t.renewLink s hs)
  | passedOn address tag code fields up => exact t.forwardFrame _ _ (t.renewLink s hs)
  | idled sender up => exact t.renewLink s hs
  | spoiled live =>
    unfold countBad
    split
    · exact t.ported s _ hs
    · exact enterDown_keeps t k loss s hs
  | lost running => exact enterDown_keeps t k loss s hs
  | received bytes => exact t.offer _ _ (t.setExtUp _ _ (t.extended s _ hs))
  | heard => exact t.setExtUp _ _ (t.extended s _ hs)
  | extLost => exact t.setExtUp _ _ (t.extended s _ hs)
  | reported n wind supply boards => exact c.takeStatus n wind supply boards s hs
  | chamberLost n => exact c.chamberLinkExpires n s hs
  | windless n => exact c.windExpires n s hs
  | settled n => exact c.settleExpires n s hs
  | drained n => exact c.drainExpires n s hs
  | driven n => exact c.driveEnds n s hs
  | controlled n => exact c.controlEnds n s hs
  | groupAged n g => exact c.groupAges n g s hs
  | controlAged n => exact c.controlAges n s hs
  | guarded n p => exact c.onTimerExpires _ s hs
  | struck n p => exact k.setStrikeTimer _ none s hs
  | levelled g =>
    unfold levelOff
    split
    · split
      · exact k.setGenerator _ _ s hs
      · exact hs
    · exact hs
  | returned g =>
    unfold returnToZero
    split
    · exact k.setGenerator _ _ s hs
    · exact hs
  | plucked row key stop =>
    have spent : P (spendPizz row key stop s) := k.pizzed s _ (by rw [List.length_map]; exact le_max_left _ _) hs
    unfold pizzExpires
    split
    · split
      · exact hs
      · exact k.removeClaim _ _ spent
    · exact hs
  | split input =>
    simp only [splitExpires]
    split
    · exact k.startService _ _ (k.setRouteState _ _ _ s hs)
    · exact hs
  | stepped player =>
    unfold stepExpires
    split
    · split
      · exact k.stopPlayer _ s hs
      · exact k.moveOn _ s hs
    · exact hs
  | slewed channel =>
    simp only [slewExpires]
    split
    · exact hs
    · exact t.channelled s _ _ (moveChannel_record _) hs
  | sent busy => exact t.startLine _ (t.ported s _ hs)
  | silent quiet => exact t.offer _ s hs
  | turned => exact t.flagged s _ rfl rfl hs
  | unstretched item => exact t.flagged s _ rfl rfl hs
  | still => exact hs

/-! ### The services -/

/-- The property is kept by every part of a service: by playing and chambers, by a MODE-SET, a general release and the
tuning holds, by flags, and by the writing of a record that was read. -/
structure KeptByServing (P : State → Prop) : Prop where
  reports : KeptByReports P
  effects : KeptByEffects P
  chambers : KeptByChambers P
  moded : ∀ m s, P s → P (modeSet m s).1
  released : ∀ s, P s → P (generalRelease s)
  unheld : ∀ s, P s → P (emptyTuningHolds s)
  holding : ∀ s l, s.mode = .tune → l.length ≤ max s.claims.holds.length Config.tuningHoldCapacity → P s →
    P (s.setClaims { s.claims with holds := l })
  latched : ∀ s i, P s → P (s.setLatched i false)
  masked : ∀ s i b, P s → P (s.setMasked i b)
  selected : ∀ s x, P s → P (s.setEngine { s.engine with tuning := x })
  stop : ∀ s n x bytes, readStop bytes = .ok x → n ≤ 319 → stopRefused n x s = false → P s → P (s.setStop n x)
  rank : ∀ s r x bytes, readRank bytes = .ok x → P s → P (s.setRank r x)
  route : ∀ s i x, (x.state = (s.route i).state ∨ x.state = .idle) → ((s.route i).fields.fits → x.fields.fits) → P s →
    P (s.setRoute i x)
  tremulant : ∀ s n x bytes, readTremulant bytes = .ok x → P s → P (s.setTremulant n x)
  curve : ∀ s c x bytes, readCurve bytes = .ok x → P s → P (writeCurve c x s)
  sequence : ∀ s q x bytes, readSeqEntry bytes = .ok x → P s → P (s.setSeqEntry q x)
  sequenceStep : ∀ s i x bytes, readStep bytes = .ok x → P s → P (s.setStepRecord i x)
  keyRow : ∀ s r x bytes, readKeySetting bytes = .ok x → P s → P (writeKeySetting r x s)
  stopConfirm : ∀ s n bytes, readConfirm bytes = .ok n → P s → P (s.setScan { s.scan with stopConfirm := n })
  inputConfirm : ∀ s n bytes, readConfirm bytes = .ok n → P s → P (s.setScan { s.scan with inputConfirm := n })
  chamber : ∀ s c x bytes, readChamber bytes = .ok x → P s → P (takeChamberRecord c x s)
  lamp : ∀ s n x bytes, readLamp bytes = .ok x → P s → P (s.setLamp n x)

namespace KeptByServing

theorem drainReleases (k : KeptByServing P) (s : State) (hs : P s) : P (Machine.drainReleases s) := by
  have once : ∀ t, P t → P (releaseOnce t) := by
    intro t ht
    unfold releaseOnce
    split
    · exact k.released _ (k.effects.asked t false ht)
    · exact ht
  exact once _ (once s hs)

theorem writeMask (k : KeptByServing P) (i : Nat) (m : Bool) (s : State) (hs : P s) : P (Machine.writeMask i m s) := by
  have written := k.route s i { s.route i with fields := { (s.route i).fields with masked := m } } (.inl rfl) id hs
  simp only [Machine.writeMask]
  split
  · exact k.effects.becomeMasked i _ written
  · exact k.effects.becomeUnmasked i _ written
  · exact written

theorem takeRoute (k : KeptByServing P) (i : Nat) (x : RouteFields) (fits : x.fits) (s : State) (hs : P s) :
    P (Machine.takeRoute i x s) := by
  unfold Machine.takeRoute
  split
  · have dropped : P (dropPending i x.defer s) := by
      unfold dropPending
      split
      · exact k.effects.setRouteState i _ _ s hs
      · exact hs
    exact k.drainReleases _ (k.writeMask i _ _ (k.route _ i _ (.inl rfl) id dropped))
  · exact k.route s i _ (.inl rfl) (fun _ => fits) hs

theorem clearGroup (k : KeptByServing P) (g : Nat) (s : State) (hs : P s) : P (Machine.clearGroup g s) :=
  forEach_keeps (f := fun i t => t.setLatched i false) (fun i t ht => k.latched t i ht) (groupItems g) s hs

theorem select (k : KeptByServing P) (sel : TuningSelection) (s : State) (hs : P s) : P (Machine.select sel s) := by
  unfold Machine.select
  split
  · split
    · exact hs
    · refine k.effects.startTuningRow sel _ (k.selected _ _ ?_)
      unfold endPresentTuning
      split
      · exact k.effects.endTuningRow _ s hs
      · exact hs
  · exact k.selected s _ hs

theorem addHold (k : KeptByServing P) (p : Point) (s : State) (tune : s.mode = .tune) (hs : P s) :
    P (Machine.addHold p s).1 := by
  unfold Machine.addHold
  split
  · exact hs
  · split
    · exact hs
    · split
      · exact hs
      case isFalse room =>
        refine k.effects.addClaim p _ (k.holding s _ tune ?_ hs)
        rw [List.length_append, List.length_singleton]
        omega

theorem removeHold (k : KeptByServing P) (p : Point) (s : State) (tune : s.mode = .tune) (hs : P s) :
    P (Machine.removeHold p s).1 := by
  unfold Machine.removeHold
  split
  · exact k.effects.removeClaim p _ (k.holding s _ tune (le_max_of_le_left (List.length_filter_le _ _)) hs)
  · exact hs

/-- Every service keeps the property. -/
theorem serves (k : KeptByServing P) {s : State} {acted : Served} (serves : Serves s acted) (hs : P s) : P acted.1 := by
  cases serves with
  | unchanged reply => exact hs
  | mode m => exact k.moded m s hs
  | stop read inTable taken => exact k.stop s _ _ _ read inTable taken hs
  | rank read inTable taken => exact k.effects.dropUnstruck _ (k.rank s _ _ _ read hs)
  | route read inTable taken => exact k.takeRoute _ _ (readRoute_sent read).1 s hs
  | tremulant read inTable taken => exact k.tremulant s _ _ _ read hs
  | curve read inTable taken => exact k.curve s _ _ _ read hs
  | sequence read inTable taken => exact k.sequence s _ _ _ read hs
  | sequenceStep read inTable taken => exact k.sequenceStep s _ _ _ read hs
  | keyRow read inTable => exact k.keyRow s _ _ _ read hs
  | stopConfirm read => exact k.stopConfirm s _ _ read hs
  | inputConfirm read => exact k.inputConfirm s _ _ read hs
  | chamber read inTable => exact k.chamber s _ _ _ read hs
  | lamp read inTable => exact k.lamp s _ _ _ read hs
  | mask i m => exact k.drainReleases _ (k.writeMask i m s hs)
  | raise inTable => exact k.chambers.enterBlower _ s hs
  | lower inTable => exact k.chambers.enterLowering _ s hs
  | select sel => exact k.select sel s hs
  | addHold p tune => exact k.addHold p s tune hs
  | removeHold p tune => exact k.removeHold p s tune hs
  | clearHolds tune => exact k.unheld s hs
  | readGroup g => exact k.clearGroup g s hs
  | snapshot => exact forEach_keeps (f := Machine.clearGroup) k.clearGroup (List.range 4) s hs
  | maskItem x => exact k.reports.announce _ _ (k.masked s _ _ hs)
  | ciphers x => exact k.chambers.clearCiphers x s hs
  | releaseAll =>
    have asked : P (askRelease s) := k.effects.asked s true hs
    have drained : P (Machine.drainReleases (askRelease s)) := k.drainReleases (askRelease s) asked
    simp only [releaseAll]
    exact drained

end KeptByServing

/-! ### Every command -/

/-- Every command keeps a property that every act and every service keeps, and both resets. -/
theorem exec_keeps (reports : KeptByReports P) (chambers : KeptByChambers P)
    (acts : ∀ s i u, Act s i u → P s → P u) (services : ∀ s acted, Serves s acted → P s → P acted.1)
    (leaves : ∀ s, P s → P (leaveQueue s))
    (powerOn : ∀ (s : State) (strap : Fin 4), P s → P { State.reset with
      pending := s.pending, status := { resetStatus with strap := strap }, freeCount := s.freeCount })
    (resets : ∀ s, P s → P (resetBlocks s)) (i : Instr) (s t : State) (ran : exec i s = .next t) (hs : P s) : P t := by
  cases taken_of_exec ran with
  | nothing => exact hs
  | acted act => exact reports.conclude chambers s _ (acts _ _ _ act hs)
  | served queue serves =>
    exact chambers.transmitAll _ (reports.finishService leaves _ _ _ (services _ _ serves hs))
  | powerOn strap => exact powerOn s strap hs
  | reset queue =>
    have replied : ∀ f, P (releaseHeld (offer f s)) := fun f => reports.releaseHeld _ (reports.offered f s hs)
    refine chambers.transmitAll _ (resets _ ?_)
    split
    · exact replied _
    · exact reports.offered _ _ (replied _)

end Sys2Proof.Machine
end

section
/-! PROOF. The steps, and the links' invariant over every step (R152, R157 to R159; logs 2, 5). -/

namespace Sys2Proof.Machine

/-! ### The queue of commands -/

/-- Settles O1: a step is defined by the front of the queue. -/
theorem stepTakesFrontCommand : Obligations.StepTakesFrontCommand := by
  intro s i rest waiting
  simp only [step, waiting]

/-- Settles O18: in DOWN the receiver of good frames discards each, and the receiver of bad ones too. -/
theorem downDiscardsFrames : Obligations.DownDiscardsFrames := by
  intro s down
  have discards : ∀ take : State → State, goodFrame take s = .next s := fun take => by
    simp only [goodFrame, down]
  refine ⟨fun kind row image => ?_, fun shoe sample => ?_, fun address tag code fields => ?_, fun sender => ?_, ?_⟩
  · rw [exec_scan]
    exact discards _
  · rw [exec_shoe]
    exact discards _
  · rw [exec_request]
    exact discards _
  · rw [exec_idle]
    exact discards _
  · change execBadFrame s = .next s
    exact if_pos down

variable {queue : List Instr}

theorem pending_keptByTraffic : KeptByTraffic (fun s => s.pending = queue) where
  ported _ _ same := same
  extended _ _ same := same
  freed _ _ same := same
  flagged _ _ _ _ same := same
  sampled _ _ _ same := same
  channelled _ _ _ _ same := same

theorem pending_keptByPlaying : KeptByPlaying (fun s => s.pending = queue) where
  toKeptByLatches := pending_keptByTraffic.reports.latches
  counted _ _ _ same := same
  guarded _ _ _ _ same := same
  pizzed _ _ _ same := same
  pooled _ _ _ same := same
  played _ _ _ _ same := same
  routed _ _ _ _ same := same
  demanded _ _ same := same
  asked _ _ same := same
  listed _ _ same := same
  holding _ _ _ same := same
  rowed _ kind _ _ _ same := by cases kind <;> exact same

theorem pending_keptByChambers : KeptByChambers (fun s => s.pending = queue) where
  toKeptByLatches := pending_keptByTraffic.reports.latches
  written _ _ _ _ same := same

theorem pending_keptByServing : KeptByServing (fun s => s.pending = queue) where
  reports := pending_keptByTraffic.reports
  effects := pending_keptByPlaying.toKeptByEffects
  chambers := pending_keptByChambers
  moded := pending_keptByPlaying.modeSet fun _ _ same => same
  released := pending_keptByPlaying.generalRelease
  unheld := pending_keptByPlaying.emptyTuningHolds
  holding _ _ _ _ same := same
  latched _ _ same := same
  masked _ _ _ same := same
  selected _ _ same := same
  stop _ _ _ _ _ _ _ same := same
  rank _ _ _ _ _ same := same
  route _ _ _ _ _ same := same
  tremulant _ _ _ _ _ same := same
  curve _ _ _ _ _ same := same
  sequence _ _ _ _ _ same := same
  sequenceStep _ _ _ _ _ same := same
  keyRow s r x _ _ same := by
    simp only [writeKeySetting]
    split
    · exact same
    · exact pending_keptByPlaying.handRun _ _ _ _ same
  stopConfirm _ _ _ _ same := same
  inputConfirm _ _ _ _ same := same
  chamber _ _ _ _ _ same := same
  lamp _ _ _ _ _ same := same

/-- A property blind to the stop rows is kept at a link loss. -/
theorem KeptByPlaying.linkLoss {P : State → Prop} (k : KeptByPlaying P) (stops : ∀ s r x, P s → P (s.setRow .stop r x))
    (s : State) (hs : P s) : P (Machine.scanLinkLoss s) :=
  k.scanLinkLoss (fun r s hs => stops s r _ hs) s hs

/-- A property blind to the stop rows is kept by every SCAN. -/
theorem KeptByPlaying.anyScan {P : State → Prop} (k : KeptByPlaying P) (stops : ∀ s r x, P s → P (s.setRow .stop r x))
    (kind r : Nat) (image : Image) (s : State) (hs : P s) : P (Machine.takeScan kind r image s) :=
  k.takeScan kind r image s (fun _ x => stops s r x hs) hs

/-- Settles O3: no act and no service touches the queue of commands. -/
theorem everyCommandCompletes : Obligations.EveryCommandCompletes := by
  intro i s
  obtain ⟨t, ran, -⟩ := exec_ends i s
  have k := pending_keptByPlaying (queue := s.pending)
  have stops : ∀ u r x, u.pending = s.pending → (State.setRow u .stop r x).pending = s.pending := fun _ _ _ same => same
  refine ⟨t, ran, exec_keeps pending_keptByTraffic.reports pending_keptByChambers
    (fun _ _ _ act same => act_keeps pending_keptByTraffic k.toKeptByEffects pending_keptByChambers (k.anyScan stops)
      (k.linkLoss stops) act same)
    (fun _ _ serves same => pending_keptByServing.serves serves same) (fun _ same => same) (fun _ _ same => same)
    (fun _ same => same) i s t ran rfl⟩

/-! ### The links over every command, tick and step -/

theorem linksSound_keptByServing : KeptByServing LinksSound where
  reports := linksSound_keptByReports
  effects := linksSound_keptByPlaying.toKeptByEffects
  chambers := linksSound_keptByChambers
  moded := linksSound_keptByPlaying.modeSet fun _ _ sound => sound.congr rfl rfl
  released := linksSound_keptByPlaying.generalRelease
  unheld := linksSound_keptByPlaying.emptyTuningHolds
  holding _ _ _ _ sound := sound.congr rfl rfl
  latched _ _ sound := sound.congr rfl rfl
  masked _ _ _ sound := sound.congr rfl rfl
  selected _ _ sound := sound.congr rfl rfl
  stop _ _ _ _ _ _ _ sound := sound.congr rfl rfl
  rank _ _ _ _ _ sound := sound.congr rfl rfl
  route _ _ _ _ _ sound := sound.congr rfl rfl
  tremulant _ _ _ _ _ sound := sound.congr rfl rfl
  curve _ _ _ _ _ sound := sound.congr rfl rfl
  sequence _ _ _ _ _ sound := sound.congr rfl rfl
  sequenceStep _ _ _ _ _ sound := sound.congr rfl rfl
  keyRow s r x _ _ sound := by
    simp only [writeKeySetting]
    split
    · exact sound.congr rfl rfl
    · exact linksSound_keptByPlaying.handRun _ _ _ _ (sound.congr rfl rfl)
  stopConfirm _ _ _ _ sound := sound.congr rfl rfl
  inputConfirm _ _ _ _ sound := sound.congr rfl rfl
  chamber _ _ _ _ _ sound := sound.congr rfl rfl
  lamp _ _ _ _ _ sound := sound.congr rfl rfl

/-- A port whose request queue alone has grown no longer. -/
theorem LinksSound.of_requests {s t : State} (sound : LinksSound s)
    (port : t.port = { s.port with requests := t.port.requests }) (ext : t.ext.up = t.ext.timer.isSome)
    (shorter : t.port.requests.length ≤ s.port.requests.length) : LinksSound t where
  timer := by rw [port]; exact sound.timer
  badRun := by rw [port]; exact sound.badRun
  goodRun := by rw [port]; exact sound.goodRun
  downRuns := by rw [port]; exact sound.downRuns
  requests := shorter.trans sound.requests
  returnQueue := by rw [port]; exact sound.returnQueue
  line := by rw [port]; exact sound.line
  ext := ext

theorem LinksSound.leaveQueue {s : State} (sound : LinksSound s) : LinksSound (leaveQueue s) :=
  sound.of_requests rfl sound.ext (by
    have : (Machine.leaveQueue s).port.requests = s.port.requests.drop 1 := rfl
    rw [this, List.length_drop]
    omega)

theorem linksSound_reset : LinksSound State.reset where
  timer := by decide
  badRun := by decide
  goodRun := by decide
  downRuns := by decide
  requests := by decide
  returnQueue := by decide
  line := by decide
  ext := by decide

/-- R155, R169: RELAY-RESET keeps the console link, and takes the extension link DOWN. -/
theorem LinksSound.resetBlocks {s : State} (sound : LinksSound s) : LinksSound (resetBlocks s) :=
  sound.of_requests rfl rfl (Nat.zero_le _)

theorem exec_keeps_links (i : Instr) (s t : State) (ran : exec i s = .next t) (sound : LinksSound s) : LinksSound t :=
  exec_keeps linksSound_keptByReports linksSound_keptByChambers (fun _ _ _ act sound => act_keeps_links act sound)
    (fun _ _ serves sound => linksSound_keptByServing.serves serves sound) (fun _ sound => sound.leaveQueue)
    (fun _ _ _ => linksSound_reset.congr rfl rfl) (fun _ sound => sound.resetBlocks) i s t ran sound

theorem countTimer_isSome (timer : Option Nat) : (countTimer timer).isSome = timer.isSome := by
  cases timer <;> rfl

theorem countTimer_eq_none (timer : Option Nat) : countTimer timer = none ↔ timer = none := by
  cases timer <;> simp [countTimer]

/-- Timers count, and none starts or stops by counting. -/
theorem LinksSound.countDown {s : State} (sound : LinksSound s) : LinksSound (countDown s) where
  timer := sound.timer.trans (countTimer_eq_none _).symm
  badRun := sound.badRun
  goodRun := sound.goodRun
  downRuns := sound.downRuns
  requests := sound.requests
  returnQueue := sound.returnQueue
  line := sound.line
  ext := sound.ext.trans (countTimer_isSome _).symm

/-- Settles O4: every command, and the counting of a tick, keeps the invariant. -/
theorem linksStaySound : Obligations.LinksStaySound := fun _ _ sound stepped =>
  step_keeps exec_keeps_links (fun _ sound => sound.countDown) (linksSound_keptByChambers.transmitAll)
    (fun _ _ sound => sound.congr rfl rfl) sound stepped

end Sys2Proof.Machine
end

section
/-! PROOF. The reset state, and power-on reset (R15, R20, R27, R65, R87, R106, R120, R132, R134, R145, R152 to R159, R163 to
R168). -/

namespace Sys2Proof.Machine

/-- Settles O16: every record read from an empty table is the table's reset record. -/
theorem powerOnResets : Obligations.PowerOnResets := by
  intro strap s
  refine ⟨_, rfl, ?_⟩
  refine ⟨rfl, rfl, rfl, rfl, rfl, rfl, rfl, rfl, fun kind r => by cases kind <;> rfl, fun _ => rfl, rfl, rfl, fun _ => rfl,
    fun _ => rfl, fun _ => rfl, fun _ => rfl, fun _ => rfl, rfl, rfl, rfl, fun _ => rfl, rfl, rfl, rfl,
    fun _ => ⟨rfl, rfl, rfl⟩, rfl, fun _ => ⟨rfl, rfl⟩, fun _ => rfl, fun _ => rfl, fun _ => rfl, fun _ => rfl,
    fun _ => rfl, fun _ => rfl, fun _ => ?_, fun _ => rfl, rfl, rfl, rfl, rfl, fun _ => ⟨rfl, rfl, rfl⟩⟩
  exact ⟨rfl, rfl, rfl, rfl, rfl, rfl, rfl, rfl, rfl, rfl, rfl, rfl, rfl, fun _ => rfl, rfl, rfl, rfl, rfl,
    fun _ => ⟨rfl, rfl⟩, rfl⟩

theorem listsBounded_reset : ListsBounded State.reset where
  pizz := Nat.zero_le _
  holds := Nat.zero_le _
  players _ _ := nofun
  ciphers _ := Nat.zero_le _
  waiting := by decide

theorem resetRank_fits : resetRank.fits := by unfold RankRecord.fits; decide

theorem resetStop_fits : resetStop.fits :=
  ⟨by decide, by decide, by decide, by decide, nofun, nofun, by decide, by decide⟩

theorem resetRouteFields_fits : resetRouteFields.fits := by
  unfold RouteFields.fits noteInRange
  decide

theorem resetTremulant_fits : resetTremulant.fits := by unfold TremulantRecord.fits; decide

theorem resetCurve_fits : resetCurve.fits := by
  refine ⟨nofun, ?_⟩
  decide

theorem resetStep_fits : resetStep.fits := ⟨by decide, by decide, by decide, nofun⟩

theorem resetSeq_fits : resetSeq.fits := nofun

theorem resetKeySetting_fits : resetKeySetting.fits := by unfold KeySetting.fits; decide

theorem resetLamp_known : resetLamp.item.known := by unfold StatusItem.known; decide

theorem recordsInRange_reset : RecordsInRange State.reset where
  ranks _ := resetRank_fits
  stops _ := resetStop_fits
  routes _ := resetRouteFields_fits
  tremulants _ := resetTremulant_fits
  curves _ := resetCurve_fits
  steps _ := resetStep_fits
  sequences _ := resetSeq_fits
  keyRows _ := resetKeySetting_fits
  confirms := by decide
  chambers c := by
    have reset : State.reset.chamber c = resetChamber := rfl
    rw [reset]
    decide
  lamps _ := resetLamp_known

theorem row_reset (kind : RowKind) (r : Nat) : State.reset.row kind r = emptyRow := by cases kind <;> rfl

theorem rowsSound_reset : RowsSound State.reset where
  held r := by rw [row_reset]; exact BitVec.zero_and
  lockout r := by rw [row_reset]; exact BitVec.zero_and
  width kind r _ := by rw [row_reset]; exact BitVec.zero_and
  inputLockout r := by rw [row_reset]; exact BitVec.zero_and
  apart kind r _ := by rw [row_reset]; exact BitVec.zero_and
  candidate kind r := by rw [row_reset]; exact nofun

theorem quietOutsidePlay_reset : QuietOutsidePlay State.reset where
  active _ _ := rfl
  pizz _ := rfl
  players _ _ _ := rfl
  routes _ _ _ := rfl
  masks _ _ := rfl
  holds _ := rfl
  listed _ := ⟨List.nodup_nil, nofun⟩

/-- Settles O9: every invariant holds of empty tables and of the ports' reset values. -/
theorem resetStateIsSound : Obligations.ResetStateIsSound :=
  ⟨linksSound_reset, listsBounded_reset, recordsInRange_reset, rowsSound_reset, quietOutsidePlay_reset⟩

end Sys2Proof.Machine
end

section
/-! PROOF. Requests answered (R161, R162, R175, R176): the parts of a service, case by case, and the requests that change at
most one record. -/

namespace Sys2Proof.Machine

/-! ### The request at the head, served -/

section Served

variable {i : Instr} {s : State} {r : Request} {serves : Request → Bool} {act : Bytes → State → Served} {reply : Reply}

/-- A service's own request at the head, whose acts left the relay as `u`, the console port and the strap address alone. -/
theorem answers (served : exec i s = serveHead serves act s) (first : s.port.requests.head? = some r)
    (own : serves r = true) {u : State} (acts : act r.fields s = (u, reply)) (port : u.port = s.port)
    (strap : u.status.strap = s.status.strap) :
    exec i s = .next (s.afterService r (u, reply)) ∧ Answered s (s.afterService r (u, reply)) r.tag reply ∧
      ReportsOnly u (s.afterService r (u, reply)) := by
  obtain ⟨rest, queue⟩ := List.head?_eq_some_iff.1 first
  have ends : serveHead serves act s = .next (s.afterService r (u, reply)) := by
    simp only [serveHead, queue, own, if_true, acts, State.afterService]
  obtain ⟨t, ran, answered, reports⟩ := serveHead_answers (act := act) queue own (by rw [acts, port]) (by rw [acts, strap])
  rw [acts] at answered reports
  obtain rfl : s.afterService r (u, reply) = t := Host.Outcome.next.inj (ends.symm.trans ran)
  exact ⟨served.trans ends, answered, reports⟩

theorem answeredUnchanged (served : exec i s = serveHead serves act s) (first : s.port.requests.head? = some r)
    (own : serves r = true) (acts : act r.fields s = (s, reply)) : AnsweredUnchanged i s r reply :=
  ⟨_, answers served first own acts rfl rfl⟩

theorem answeredAs (served : exec i s = serveHead serves act s) (first : s.port.requests.head? = some r)
    (own : serves r = true) {u : State} (acts : act r.fields s = (u, .done [])) (port : u.port = s.port)
    (strap : u.status.strap = s.status.strap) : AnsweredAs i s r u :=
  ⟨_, answers served first own acts port strap⟩

theorem HeadIs.names {code b : Byte} {rest : Bytes} (head : HeadIs s r code (b :: rest)) :
    hasCodeAnd code b r = true := by
  obtain ⟨-, code, fields⟩ := head
  simp [hasCodeAnd, code, fields]

theorem HeadIs.first {code : Byte} {fields : Bytes} (head : HeadIs s r code fields) :
    s.port.requests.head? = some r := by
  obtain ⟨first, -, -⟩ := head
  exact first

theorem HeadIs.fields {code : Byte} {fields : Bytes} (head : HeadIs s r code fields) : r.fields = fields := by
  obtain ⟨-, -, same⟩ := head
  exact same

theorem HeadIs.code {code : Byte} {fields : Bytes} (head : HeadIs s r code fields) : r.code = code := by
  obtain ⟨-, same, -⟩ := head
  exact same

theorem HeadIs.hasCode {code : Byte} {fields : Bytes} (head : HeadIs s r code fields) : hasCode code r = true := by
  simp [Machine.hasCode, head.code]

end Served

/-! ### The parts of a service -/

section Parts

variable {α : Type} {s : State} {hi lo t : Byte} {rest : Bytes} {highest : Nat}

theorem withFields_ok {read : Except Nat α} {v : α} (ok : read = .ok v) (act : α → State → Served) (s : State) :
    withFields read act s = act v s := by rw [ok]; rfl

theorem withFields_error {read : Except Nat α} {n : Nat} (bad : read = .error n) (act : α → State → Served) (s : State) :
    withFields read act s = (s, .badRecord n) := by rw [bad]; rfl

theorem withNoMore_nil (last : Nat) (act : State → Served) (s : State) : withNoMore last [] act s = act s := rfl

theorem withNumber_beyond {b : Byte} (beyond : highest < b.toNat) (act : Nat → Bytes → State → Served) (rest : Bytes)
    (s : State) : withNumber highest act (b :: rest) s = (s, .badIndex) := if_neg (Nat.not_le.2 beyond)

theorem withNumber_inRange {b : Byte} (inRange : b.toNat ≤ highest) (act : Nat → Bytes → State → Served) (rest : Bytes)
    (s : State) : withNumber highest act (b :: rest) s = act b.toNat rest s := if_pos inRange

theorem withIndex_beyond (beyond : highest < wordOf hi lo) (act : Nat → Bytes → State → Served) (s : State) :
    withIndex highest act (t :: hi :: lo :: rest) s = (s, .badIndex) := if_neg (Nat.not_le.2 beyond)

theorem withIndex_inRange (inRange : wordOf hi lo ≤ highest) (act : Nat → Bytes → State → Served) (s : State) :
    withIndex highest act (t :: hi :: lo :: rest) s = act (wordOf hi lo) rest s := if_pos inRange

theorem readRecord_inRange (inRange : wordOf hi lo ≤ highest) (data : Nat → State → Bytes) (s : State) :
    readRecord highest data [t, hi, lo] s = (s, .done (data (wordOf hi lo) s)) := withIndex_inRange inRange _ s

variable {read : Bytes → Except Nat α} {refused : Nat → α → State → Bool} {take : Nat → α → State → State}

theorem writeRecord_bad (inRange : wordOf hi lo ≤ highest) {n : Nat} (bad : read rest = .error n) :
    writeRecord highest read refused take (t :: hi :: lo :: rest) s = (s, .badRecord n) :=
  (withIndex_inRange inRange _ s).trans (withFields_error bad _ s)

theorem writeRecord_refused (inRange : wordOf hi lo ≤ highest) {x : α} (ok : read rest = .ok x)
    (frozen : refused (wordOf hi lo) x s = true) :
    writeRecord highest read refused take (t :: hi :: lo :: rest) s = (s, .wrongMode) := by
  refine (withIndex_inRange inRange _ s).trans ((withFields_ok ok _ s).trans ?_)
  rw [if_pos frozen]

theorem writeRecord_taken (inRange : wordOf hi lo ≤ highest) {x : α} (ok : read rest = .ok x)
    (free : refused (wordOf hi lo) x s = false) :
    writeRecord highest read refused take (t :: hi :: lo :: rest) s = (take (wordOf hi lo) x s, .done []) := by
  refine (withIndex_inRange inRange _ s).trans ((withFields_ok ok _ s).trans ?_)
  rw [if_neg (by rw [free]; decide)]

end Parts

/-! ### ECHO, and requests outside the codes and tables -/

/-- Settles O29: ECHO's one test is the length of its data. -/
theorem echoReturnsData : Obligations.EchoReturnsData := by
  intro s r fields head
  refine head.answeredUnchanged (exec_echo s) ?_
  unfold echoBack
  split <;> rfl

theorem namesNoTable_write {r : Request} (code : r.code = 0x03#8)
    (none_ : ∀ t rest, r.fields = t :: rest → t = 0#8 ∨ 10 < t.toNat) : namesNoTable r = true := by
  unfold namesNoTable
  split
  · simp [code]
  case h_2 t rest fields =>
    obtain rfl | beyond := none_ t rest fields
    · simp [code, writable]
    · simp [code, writable]
      omega

theorem namesNoTable_read {r : Request} (code : r.code = 0x04#8)
    (none_ : ∀ t rest, r.fields = t :: rest → t = 0#8 ∨ 12 < t.toNat) : namesNoTable r = true := by
  unfold namesNoTable
  split
  · simp [code]
  case h_2 t rest fields =>
    obtain rfl | beyond := none_ t rest fields
    · simp [code, readable]
    · simp [code, readable]
      omega

section BadIndex

variable {α : Type} {i : Instr} {s : State} {r : Request} {hi lo b : Byte} {rest : Bytes} {highest : Nat}

theorem write_beyond {read : Bytes → Except Nat α} {refused : Nat → α → State → Bool} {take : Nat → α → State → State}
    (served : exec i s = serveHead (hasCodeAnd 0x03#8 b) (writeRecord highest read refused take) s)
    (head : HeadIs s r 0x03#8 (b :: hi :: lo :: rest)) (beyond : highest < wordOf hi lo) :
    AnsweredUnchanged i s r .badIndex :=
  answeredUnchanged served head.first head.names (by rw [head.fields]; exact withIndex_beyond beyond _ s)

theorem read_beyond {data : Nat → State → Bytes}
    (served : exec i s = serveHead (hasCodeAnd 0x04#8 b) (readRecord highest data) s)
    (head : HeadIs s r 0x04#8 (b :: hi :: lo :: rest)) (beyond : highest < wordOf hi lo) :
    AnsweredUnchanged i s r .badIndex :=
  answeredUnchanged served head.first head.names (by rw [head.fields]; exact withIndex_beyond beyond _ s)

end BadIndex

/-- Settles O30: an index beyond a table is found before anything of the record is read. -/
theorem requestsOutsideTablesRefused : Obligations.RequestsOutsideTablesRefused := by
  refine ⟨fun s r first code => ?_, fun s r fields head names => ?_, fun s r fields head names => ?_,
    fun s r hi lo rest => ⟨?_, ?_⟩⟩
  · refine answeredUnchanged (exec_unknownRequest s) first ?_ rfl
    obtain zero | beyond := code
    · simp [unknownCode, zero]
    · simp [unknownCode, beyond]
  · exact answeredUnchanged (exec_noSuchTable s) head.first
      (namesNoTable_write head.code (by rw [head.fields]; exact names)) rfl
  · exact answeredUnchanged (exec_noSuchTable s) head.first
      (namesNoTable_read head.code (by rw [head.fields]; exact names)) rfl
  · simp only [List.forall_mem_cons]
    exact ⟨write_beyond (exec_tableWriteStop s), write_beyond (exec_tableWriteRank s),
      write_beyond (exec_tableWriteRoute s), write_beyond (exec_tableWriteTremulant s),
      write_beyond (exec_tableWriteCurve s), write_beyond (exec_tableWriteSeqdir s),
      write_beyond (exec_tableWriteSeqmem s),
      fun head beyond => answeredUnchanged (exec_tableWriteScan s) head.first head.names
        (by rw [head.fields]; exact withIndex_beyond beyond _ s),
      write_beyond (exec_tableWriteChamber s), write_beyond (exec_tableWriteLamp s), nofun⟩
  · simp only [List.forall_mem_cons]
    exact ⟨read_beyond (exec_tableReadStop s), read_beyond (exec_tableReadRank s), read_beyond (exec_tableReadRoute s),
      read_beyond (exec_tableReadTremulant s), read_beyond (exec_tableReadCurve s), read_beyond (exec_tableReadSeqdir s),
      read_beyond (exec_tableReadSeqmem s), read_beyond (exec_tableReadScan s), read_beyond (exec_tableReadChamber s),
      read_beyond (exec_tableReadLamp s), read_beyond (exec_tableReadActive s), read_beyond (exec_tableReadPizz s), nofun⟩

/-! ### TABLE-READ -/

theorem read_inRange {i : Instr} {s : State} {r : Request} {hi lo b : Byte} {highest : Nat} {data : Nat → State → Bytes}
    (served : exec i s = serveHead (hasCodeAnd 0x04#8 b) (readRecord highest data) s)
    (head : HeadIs s r 0x04#8 [b, hi, lo]) (inRange : wordOf hi lo ≤ highest) :
    AnsweredUnchanged i s r (.done (data (wordOf hi lo) s)) :=
  answeredUnchanged served head.first head.names (by rw [head.fields]; exact readRecord_inRange inRange data s)

theorem scanData_keyRow {n : Nat} (keyRow : n ≤ 8) (s : State) :
    scanData n s = [byteOf (s.keySetting n).keyCount, byteOf (s.keySetting n).confirm] := if_pos keyRow

/-- Settles O36: one read, twelve tables. -/
theorem tableReadsReturnRecords : Obligations.TableReadsReturnRecords := by
  intro s r hi lo
  refine ⟨read_inRange (exec_tableReadStop s), read_inRange (exec_tableReadRank s), read_inRange (exec_tableReadRoute s),
    read_inRange (exec_tableReadTremulant s), read_inRange (exec_tableReadCurve s), read_inRange (exec_tableReadSeqdir s),
    read_inRange (exec_tableReadSeqmem s), fun head keyRow => ?_, fun head => ?_, fun head => ?_,
    read_inRange (exec_tableReadChamber s), read_inRange (exec_tableReadLamp s), read_inRange (exec_tableReadActive s),
    fun head => ?_⟩
  · have answered := read_inRange (exec_tableReadScan s) head (Nat.le_trans keyRow (by decide))
    rwa [scanData_keyRow keyRow] at answered
  · exact read_inRange (exec_tableReadScan s) head (by decide)
  · exact read_inRange (exec_tableReadScan s) head (by decide)
  · exact read_inRange (exec_tableReadPizz s) head (by decide)

/-! ### TABLE-WRITE of one record (R29, R162) -/

section Write

variable {α : Type} {i : Instr} {s : State} {r : Request} {hi lo b : Byte} {rest : Bytes} {highest : Nat}
  {read : Bytes → Except Nat α} {refused : Nat → α → State → Bool} {take : Nat → α → State → State}
  (served : exec i s = serveHead (hasCodeAnd 0x03#8 b) (writeRecord highest read refused take) s)
  (head : HeadIs s r 0x03#8 (b :: hi :: lo :: rest)) (inRange : wordOf hi lo ≤ highest)
include served head inRange

theorem write_bad (n : Nat) (bad : read rest = .error n) : AnsweredUnchanged i s r (.badRecord n) :=
  answeredUnchanged served head.first head.names (by rw [head.fields]; exact writeRecord_bad inRange bad)

theorem write_refused {x : α} (ok : read rest = .ok x) (frozen : refused (wordOf hi lo) x s = true) :
    AnsweredUnchanged i s r .wrongMode :=
  answeredUnchanged served head.first head.names (by rw [head.fields]; exact writeRecord_refused inRange ok frozen)

theorem write_answers {x : α} (ok : read rest = .ok x) (free : refused (wordOf hi lo) x s = false)
    (port : (take (wordOf hi lo) x s).port = s.port)
    (strap : (take (wordOf hi lo) x s).status.strap = s.status.strap) :
    AnsweredAs i s r (take (wordOf hi lo) x s) :=
  answeredAs served head.first head.names (by rw [head.fields]; exact writeRecord_taken inRange ok free) port strap

end Write

theorem frozen_eq_true {s : State} : s.frozen = true ↔ s.mode ≠ .config := decide_eq_true_iff

theorem frozen_eq_false {s : State} : s.frozen = false ↔ s.mode = .config := by
  unfold State.frozen
  simp

/-- R29: a STOP write is free to change the pizzicato length alone. -/
theorem stopRefused_eq_false (n : Nat) (x : StopRecord) (s : State) :
    stopRefused n x s = false ↔ s.mode = .config ∨ x = { s.stop n with pizz := x.pizz } := by
  have voicing : ({ x with pizz := (s.stop n).pizz } = s.stop n) ↔ x = { s.stop n with pizz := x.pizz } := by
    constructor
    · intro same
      rw [← same]
    · intro same
      rw [same]
  unfold stopRefused
  rw [Bool.and_eq_false_iff, frozen_eq_false, decide_eq_false_iff_not, not_not, voicing]

theorem tremulantRefused_eq_false (n : Nat) (x : TremulantRecord) (s : State) :
    tremulantRefused n x s = false ↔
      s.mode = .config ∨ (x.chamber = (s.tremulant n).chamber ∧ x.point = (s.tremulant n).point) := by
  unfold tremulantRefused
  rw [Bool.and_eq_false_iff, frozen_eq_false, decide_eq_false_iff_not, not_not]
  simp only [TremulantRecord.output, Point.mk.injEq]

/-- Settles O32: six tables, each with the test of its mode. -/
theorem plainTableWrites : Obligations.PlainTableWrites := by
  intro s r hi lo bytes
  refine ⟨fun head inRange => ⟨?_, fun x ok => ⟨fun mode differs => ?_, fun free => ?_⟩⟩,
    fun head inRange => ⟨?_, fun x ok => ⟨fun free => ?_, fun mode differs => ?_⟩⟩,
    fun head inRange => ⟨?_, fun x ok => ⟨fun mode => ?_, fun mode => ?_⟩⟩,
    fun head inRange => ⟨?_, fun x ok => ⟨fun mode => ?_, fun mode => ?_⟩⟩,
    fun head inRange => ⟨?_, fun x ok => ?_⟩, fun head inRange => ⟨?_, fun x ok => ?_⟩⟩
  · exact write_bad (exec_tableWriteStop s) head inRange
  · refine write_refused (exec_tableWriteStop s) head inRange ok (Bool.eq_true_of_not_eq_false fun free => ?_)
    exact ((stopRefused_eq_false _ x s).1 free).elim mode differs
  · exact write_answers (exec_tableWriteStop s) head inRange ok ((stopRefused_eq_false _ x s).2 free) rfl rfl
  · exact write_bad (exec_tableWriteTremulant s) head inRange
  · exact write_answers (exec_tableWriteTremulant s) head inRange ok ((tremulantRefused_eq_false _ x s).2 free) rfl rfl
  · refine write_refused (exec_tableWriteTremulant s) head inRange ok (Bool.eq_true_of_not_eq_false fun free => ?_)
    exact ((tremulantRefused_eq_false _ x s).1 free).elim mode differs
  · exact write_bad (exec_tableWriteSeqdir s) head inRange
  · exact write_answers (exec_tableWriteSeqdir s) head inRange ok (frozen_eq_false.2 mode) rfl rfl
  · exact write_refused (exec_tableWriteSeqdir s) head inRange ok (frozen_eq_true.2 mode)
  · exact write_bad (exec_tableWriteSeqmem s) head inRange
  · exact write_answers (exec_tableWriteSeqmem s) head inRange ok (frozen_eq_false.2 mode) rfl rfl
  · exact write_refused (exec_tableWriteSeqmem s) head inRange ok (frozen_eq_true.2 mode)
  · exact write_bad (exec_tableWriteChamber s) head inRange
  · exact write_answers (exec_tableWriteChamber s) head inRange ok rfl rfl rfl
  · exact write_bad (exec_tableWriteLamp s) head inRange
  · exact write_answers (exec_tableWriteLamp s) head inRange ok rfl rfl rfl

end Sys2Proof.Machine
end

section
/-! PROOF. The links (chapter 9): good, bad and idle frames by the state of the console link, requests queued or turned
away, the extension link, and the order of the return line. -/

namespace Sys2Proof.Machine

/-! ### What the parts of a frame's taking leave -/

theorem lampOutputs_congr {s t : State} (link : t.port.link = s.port.link) (up : t.ext.up = s.ext.up)
    (chambers : t.chambers = s.chambers) (waiting : t.pool.waiting = s.pool.waiting) (mode : t.status.mode = s.status.mode)
    (lamps : t.status.lamps = s.status.lamps) (stretch : t.status.stretch = s.status.stretch)
    (blink : t.status.blinkOn = s.status.blinkOn) : t.lampOutputs = s.lampOutputs := by
  have chamber (c : Nat) : t.chamber c = s.chamber c := by rw [State.chamber, chambers]; rfl
  have lit (i : StatusItem) : t.itemLit i = s.itemLit i := by
    cases i with
    | link => exact congrArg (fun l => decide (l = LinkState.up)) link
    | ext => exact up
    | mode => exact congrArg (fun m => decide (m = Mode.play)) mode
    | state c => exact congrArg (fun ch : Chamber => decide (ch.state = .enabled)) (chamber c)
    | wind c => exact congrArg Chamber.windReady (chamber c)
    | supply c => exact congrArg Chamber.supplyOk (chamber c)
    | driverFault c => exact congrArg (fun ch : Chamber => decide (ch.boards ≠ 0)) (chamber c)
    | cipher => simp only [State.itemLit, State.cipherAny, chamber]
    | waiting => exact congrArg (fun w : Table Bool => w.entries.any (·.2)) waiting
    | returnOverrun | cipherOverflow | genSteal | pizzFull | seqNoPlayer | seqHoldFull =>
      simp only [State.itemLit, State.stretch, stretch]
  have shown (n : Nat) : t.lampOutput n = s.lampOutput n := by
    simp [State.lampOutput, State.lamp, lamps, blink, lit]
  simp only [State.lampOutputs, shown]

theorem offer_status_of_room {s : State} (room : s.port.returnQueue.length < 32) (f : UpFrame) :
    (offer f s).status = s.status := (congrArg State.status (if_pos room)).trans (startLine_status _)

/-- A frame offered to a queue with room changes no lamp. -/
theorem offer_lampOutputs {s : State} (room : s.port.returnQueue.length < 32) (f : UpFrame) :
    (offer f s).lampOutputs = s.lampOutputs := by
  have same := offer_status_of_room room f
  exact lampOutputs_congr (by rw [offer_port]) (by rw [offer_ext]) (offer_chambers f s) (by rw [offer_pool])
    (by rw [same]) (by rw [same]) (by rw [same]) (by rw [same])

@[simp] theorem setLatched_port (i : StatusItem) (b : Bool) (s : State) : (s.setLatched i b).port = s.port := rfl

@[simp] theorem renewLink_lampOutputs (s : State) : (renewLink s).lampOutputs = s.lampOutputs :=
  lampOutputs_congr rfl rfl rfl rfl rfl rfl rfl rfl

theorem latch_requests (i : StatusItem) (s : State) : (latch i s).port.requests = s.port.requests := by
  have kept : KeptByReports (fun t => t.port.requests = s.port.requests) :=
    { offered := fun f t same => (offer_requests f t).trans same
      flagged := fun i t same => by rw [setFlag_port]; exact same
      held := fun _ _ _ same => same }
  exact kept.latch i s rfl

theorem latch_latched_same (i : StatusItem) (s : State) : (latch i s).latched i = true := by
  have kept : KeptByReports (fun t => t.latched i = true) :=
    { offered := fun f t set => by
        by_cases room : t.port.returnQueue.length < Config.returnCapacity
        · rw [latched_of_status (congrArg Status.latched (offer_status_of_room room f))]
          exact set
        · rw [offer_full f t room]
          by_cases own : i = .returnOverrun
          · subst own
            have flagged : (setFlag .returnOverrun t).latched .returnOverrun = true := by simp [setFlag_latched]
            simp only [overrun]
            split
            · exact flagged
            · exact flagged
          · rw [overrun_latched own]
            exact set
      flagged := fun j t set => by rw [setFlag_latched, set, ite_self]
      held := fun _ _ _ set => set }
  refine kept.announce s _ ?_
  simp [setFlag_latched]

theorem latch_quietly {i : StatusItem} (stateItem : isEvent i = false) (s : State) :
    QuietlySame (s.setLatched i true) (latch i s) := ⟨latch_reportsOnly stateItem s, latch_requests i s⟩

theorem QuietlySame.refl (s : State) : QuietlySame s s := ⟨.refl s, rfl⟩

theorem QuietlySame.trans {s t u : State} (first : QuietlySame s t) (second : QuietlySame t u) : QuietlySame s u := by
  obtain ⟨reports, requests⟩ := first
  obtain ⟨reports', requests'⟩ := second
  exact ⟨reports.trans reports', requests'.trans requests⟩

theorem QuietlySame.conclude {s u : State} (same : QuietlySame s u) (before : State) :
    QuietlySame s (conclude before u) := same.trans (conclude_quietly before u)

theorem offer_quietly (f : UpFrame) (s : State) : QuietlySame s (offer f s) := ⟨offer_reportsOnly f s, offer_requests f s⟩

theorem conclude_outgoing_sameLamps {before s : State} (same : s.lampOutputs = before.lampOutputs) :
    (conclude before s).outgoing = s.outgoing := by
  rw [conclude_sameLamps same, transmitAll_outgoing]

theorem goodFrame_up {s : State} (up : s.port.link = .up) (take : State → State) :
    goodFrame take s = .next (conclude s (take (renewLink s))) := by simp only [goodFrame, up]

theorem goodFrame_training {s : State} (training : s.port.link = .training) (take : State → State) :
    goodFrame take s = .next (conclude s (train (renewLink s))) := by simp only [goodFrame, training]

/-- R160: the extension port after a frame for which that link stands as it does. -/
def State.passing (s : State) (frame : Bytes) : State :=
  s.setExt { s.ext with sentDown := if s.ext.up then s.ext.sentDown ++ [frame] else s.ext.sentDown }

theorem forwardDown_eq (frame : Bytes) (s : State) : forwardDown frame s = s.passing frame := by
  unfold forwardDown State.passing
  split <;> rfl

theorem forwardFrame_eq {i : Instr} {frame : Bytes} (sent : consoleFrame i = some frame) (s : State) :
    forwardFrame i s = s.passing frame := by
  simp only [forwardFrame, sent, forwardDown_eq]

/-! ### Frames by link state (R153 to R156) -/

theorem trained (s : State) :
    (s.port.goodRun + 1 < 3 →
      QuietlySame (s.setPort { s.port with badRun := 0, timer := some 60, goodRun := s.port.goodRun + 1 })
        (conclude s (train (renewLink s)))) ∧
    (3 ≤ s.port.goodRun + 1 →
      QuietlySame ((s.setPort { s.port with
        badRun := 0, timer := some 60, goodRun := 0, link := .up }).setLatched .link true)
        (conclude s (train (renewLink s)))) := by
  constructor
  · intro short
    have counted : train (renewLink s) = (renewLink s).setPort { (renewLink s).port with goodRun := s.port.goodRun + 1 } :=
      if_pos short
    rw [counted]
    exact conclude_quietly s _
  · intro third
    have entered : train (renewLink s) = enterLink .up ((renewLink s).setPort { (renewLink s).port with goodRun := 0 }) :=
      if_neg (Nat.not_lt.2 third)
    rw [entered]
    exact (latch_quietly rfl _).conclude s

/-- Settles O19: in TRAINING every good frame other than HELLO meets `train`, whatever its type. -/
theorem trainingCountsGoodFrames : Obligations.TrainingCountsGoodFrames := by
  intro s i training good
  obtain ⟨kind, row, image, rfl⟩ | ⟨shoe, sample, rfl⟩ | ⟨address, tag, code, fields, rfl⟩ | ⟨sender, rfl⟩ := good
  · exact ⟨_, (exec_scan _ _ _ s).trans (goodFrame_training training _), trained s⟩
  · exact ⟨_, (exec_shoe _ _ s).trans (goodFrame_training training _), trained s⟩
  · exact ⟨_, (exec_request _ _ _ _ s).trans (goodFrame_training training _), trained s⟩
  · exact ⟨_, (exec_idle _ s).trans (goodFrame_training training _), trained s⟩

/-- Settles O27: outside the rows of R1 a SCAN leaves the rows alone and is forwarded as any other. -/
theorem scanOutOfRangeIgnored : Obligations.ScanOutOfRangeIgnored := by
  intro s kind r image up outside
  have ignored (t : State) : takeScan kind.toNat r.toNat image t = t := by
    obtain unknown | ⟨rfl, beyond⟩ | ⟨rfl, beyond⟩ | ⟨rfl, beyond⟩ := outside
    · have none_ : rowKindOf kind.toNat = none := by
        unfold rowKindOf
        split
        case h_4 => rfl
        all_goals omega
      simp only [takeScan, none_]
    all_goals exact if_neg (Nat.not_lt.2 beyond)
  refine ⟨_, (exec_scan _ _ _ s).trans (goodFrame_up up _), ?_⟩
  rw [ignored, forwardFrame_eq rfl]
  exact conclude_quietly s _

/-- Settles O22: an IDLE frame meets the link timer alone, and a bad frame short of the eighth the two runs alone. -/
theorem idleAndBadFramesAct : Obligations.IdleAndBadFramesAct := by
  intro s
  refine ⟨fun up sender => ?_, fun live short => ?_, rfl, fun _ => rfl⟩
  · exact ⟨_, (exec_idle _ s).trans (goodFrame_up up _), conclude_quietly s _⟩
  · have counted : countBad s = s.setPort { s.port with badRun := s.port.badRun + 1, goodRun := 0 } := if_pos short
    have ran : exec .badFrame s = .next (conclude s (countBad s)) := if_neg live
    rw [counted] at ran
    exact ⟨_, ran, conclude_quietly s _⟩

/-- Settles O21: a REQUEST in UP has three ways to go, by its address and by the room in the request queue. -/
theorem requestsQueueOrTurnAway : Obligations.RequestsQueueOrTurnAway := by
  intro s address tag code fields up
  refine ⟨_, (exec_request _ _ _ _ s).trans (goodFrame_up up _), fun own room => ?_, fun own full => ?_, fun other => ?_⟩
  · have queued : (if address = (renewLink s).strapByte then queueRequest ⟨tag, code, fields⟩ (renewLink s)
        else forwardFrame (.request address tag code fields) (renewLink s)) =
        (renewLink s).setPort { (renewLink s).port with requests := s.port.requests ++ [⟨tag, code, fields⟩] } :=
      (if_pos own).trans (if_pos room)
    have dark : ((renewLink s).setPort { (renewLink s).port with
        requests := s.port.requests ++ [⟨tag, code, fields⟩] }).lampOutputs = s.lampOutputs :=
      lampOutputs_congr rfl rfl rfl rfl rfl rfl rfl rfl
    rw [queued, conclude_sameLamps dark]
    refine ⟨?_, by rw [transmitAll_port]; rfl, by rw [transmitAll_outgoing]; rfl⟩
    refine ReportsOnly.trans ?_ (transmitAll_reportsOnly _)
    exact reportsOnly_of rfl rfl rfl rfl rfl rfl rfl rfl rfl rfl rfl rfl (fun _ _ => rfl) ⟨[], (List.append_nil _).symm⟩
  · have refused : (if address = (renewLink s).strapByte then queueRequest ⟨tag, code, fields⟩ (renewLink s)
        else forwardFrame (.request address tag code fields) (renewLink s)) =
        offer (s.replyFrame tag .busy) (renewLink s) := (if_pos own).trans (if_neg (Nat.not_lt.2 full))
    rw [refused]
    refine ⟨(offer_quietly _ _).conclude s, fun room => ?_⟩
    have kept : (offer (s.replyFrame tag .busy) (renewLink s)).lampOutputs = s.lampOutputs :=
      (offer_lampOutputs (s := renewLink s) room _).trans (renewLink_lampOutputs s)
    rw [conclude_outgoing_sameLamps kept]
    exact offer_outgoing _ (renewLink s) room
  · have passed : (if address = (renewLink s).strapByte then queueRequest ⟨tag, code, fields⟩ (renewLink s)
        else forwardFrame (.request address tag code fields) (renewLink s)) =
        (renewLink s).passing (frameBytes 0x04#8 (address :: tag :: code :: fields)) :=
      (if_neg other).trans (forwardFrame_eq rfl _)
    rw [passed]
    exact conclude_quietly s _

/-! ### HELLO (R154) -/

theorem helloReply_eq (s : State) : s.helloReply =
    .own 0x11#8 [s.strapByte, 5#8, 1#8, 0x40#8, 96#8, 4#8, 48#8, 1#8] := by
  have rest : byteOf 5 :: wordBytes 320 ++ [byteOf 96, byteOf 4, byteOf 48, byteOf 1] =
    [5#8, 1#8, 0x40#8, 96#8, 4#8, 48#8, 1#8] := by decide
  exact congrArg (fun bytes => UpFrame.own 0x11#8 (s.strapByte :: bytes)) rest

/-- R154: the console port and the flags after a HELLO, by the link state before it. -/
structure Greeted (s t : State) : Prop where
  link : t.port.link = if s.port.link = .up then .up else .training
  timer : t.port.timer = some 60
  badRun : t.port.badRun = 0
  goodRun : t.port.goodRun = if s.port.link = .up then s.port.goodRun else 0
  latched : s.port.link = .down → t.latched .link = true
  requests : t.port.requests = s.port.requests
  ext : t.ext = s.ext
  scan : t.scan = s.scan
  engine : t.engine = s.engine
  claims : t.claims = s.claims
  pool : t.pool = s.pool
  router : t.router = s.router
  sequencer : t.sequencer = s.sequencer
  expression : t.expression = s.expression
  chambers : t.chambers = s.chambers
  mode : t.mode = s.mode
  outgoing : ∃ later, t.outgoing = s.outgoing ++ later

theorem startTraining_greeted (s : State) : Greeted s (startTraining s) := by
  cases link : s.port.link with
  | down =>
    have entered : startTraining s = latch .link (s.setPort { s.port with
        badRun := 0, goodRun := 0, timer := some 60, link := .training }) := by
      simp only [startTraining, link]
      rfl
    have reports := latch_reportsOnly (i := .link) rfl (s.setPort { s.port with
        badRun := 0, goodRun := 0, timer := some 60, link := .training })
    rw [entered]
    constructor
    case latched => exact fun _ => latch_latched_same _ _
    case requests => exact latch_requests _ _
    case outgoing =>
      obtain ⟨later, grown⟩ := reports.outgoing
      exact ⟨later, grown⟩
    case mode =>
      rw [State.mode, reports.status]
      rfl
    case link | timer | badRun | goodRun =>
      rw [reports.port]
      simp [link]
    all_goals simp
  | training =>
    have entered : startTraining s = renewLink (s.setPort { s.port with goodRun := 0 }) := by
      simp only [startTraining, link]
    rw [entered]
    constructor <;> simp [link, renewLink, State.mode, State.outgoing, Config.linkTime]
  | up =>
    have entered : startTraining s = renewLink s := by simp only [startTraining, link]
    rw [entered]
    constructor <;> simp [link, renewLink, State.mode, State.outgoing, Config.linkTime]

/-- Settles O20: the HELLO-REPLY and the forwarding first, and then the link state after, by the state before. -/
theorem helloIsAnswered : Obligations.HelloIsAnswered := by
  intro s
  have passed : forwardFrame .hello (offer s.helloReply s) = (offer s.helloReply s).passing (frameBytes 0x03#8 []) :=
    forwardFrame_eq rfl _
  have ran : exec .hello s = .next (conclude s (startTraining (forwardFrame .hello (offer s.helloReply s)))) := rfl
  rw [passed] at ran
  have greeted := startTraining_greeted ((offer s.helloReply s).passing (frameBytes 0x03#8 []))
  obtain ⟨reports, requests⟩ := conclude_quietly s
    (startTraining ((offer s.helloReply s).passing (frameBytes 0x03#8 [])))
  have port : ((offer s.helloReply s).passing (frameBytes 0x03#8 [])).port = (offer s.helloReply s).port := rfl
  have offered := offer_reportsOnly s.helloReply s
  refine ⟨_, ran, fun room => ?_, ?_, ?_, ?_, ?_, ?_, ?_, ?_, fun down => ?_, ?_, ?_, ?_, ?_, ?_, ?_, ?_, ?_, ?_,
    fun c => ?_⟩
  · obtain ⟨later, grown⟩ := reports.outgoing
    obtain ⟨more, grew⟩ := greeted.outgoing
    have replied := offer_outgoing s.helloReply s room
    have same : ((offer s.helloReply s).passing (frameBytes 0x03#8 [])).outgoing = (offer s.helloReply s).outgoing := rfl
    exact ⟨more ++ later, by rw [grown, grew, same, replied, helloReply_eq]; simp⟩
  · rw [reports.ext, greeted.ext]; simp [State.passing]
  · rw [reports.ext, greeted.ext]; simp [State.passing]
  · rw [reports.ext, greeted.ext]; simp [State.passing]
  · rw [reports.port]; exact greeted.link.trans (by rw [port, offered.port])
  · rw [reports.port]; exact greeted.timer
  · rw [reports.port]; exact greeted.badRun
  · rw [reports.port]; exact greeted.goodRun.trans (by rw [port, offered.port])
  · rw [reports.flags .link (by decide)]
    exact greeted.latched (by rw [port, offered.port]; exact down)
  · exact requests.trans (greeted.requests.trans (offer_requests _ s))
  · rw [reports.scan, greeted.scan]; simp [State.passing]
  · rw [reports.engine, greeted.engine]; simp [State.passing]
  · rw [reports.claims, greeted.claims]; simp [State.passing]
  · rw [reports.pool, greeted.pool]; simp [State.passing]
  · rw [reports.router, greeted.router]; simp [State.passing]
  · rw [reports.sequencer, greeted.sequencer]; simp [State.passing]
  · rw [reports.expression, greeted.expression]; simp [State.passing]
  · rw [State.mode, reports.status]
    refine greeted.mode.trans ?_
    change (offer s.helloReply s).status.mode = _
    rw [offered.status]
    rfl
  · have same : (startTraining ((offer s.helloReply s).passing (frameBytes 0x03#8 []))).chamber c = s.chamber c := by
      rw [State.chamber, greeted.chambers]
      simp [State.passing, State.chamber]
    rw [← same]
    exact reports.chambers c

/-! ### The extension link (R159, R160) -/

theorem setExtUp_same {b : Bool} {s : State} (same : s.ext.up = b) : setExtUp b s = s := if_pos same

theorem setExtUp_changed {b : Bool} {s : State} (changed : s.ext.up ≠ b) :
    setExtUp b s = latch .ext (s.setExt { s.ext with up := b }) := if_neg changed

/-- A latch puts out at most its NOTICE. -/
theorem latch_outgoing_le (i : StatusItem) (s : State) : ∃ notice, notice.length ≤ 1 ∧
    (latch i s).outgoing = s.outgoing ++ notice ∧
    (latch i s).port.returnQueue.length ≤ s.port.returnQueue.length + 1 := by
  have flagged : (setFlag i s).outgoing = s.outgoing := by rw [State.outgoing, setFlag_port]; rfl
  have still : ∀ t : State, t.port = s.port → ∃ notice : List UpFrame, notice.length ≤ 1 ∧
      t.outgoing = s.outgoing ++ notice ∧ t.port.returnQueue.length ≤ s.port.returnQueue.length + 1 := fun t port =>
    ⟨[], by simp, by simp [State.outgoing, port], by rw [port]; omega⟩
  unfold latch announce
  split
  · split
    · exact still _ (setFlag_port i s)
    · by_cases room : (setFlag i s).port.returnQueue.length < Config.returnCapacity
      · refine ⟨[(setFlag i s).noticeFrame], by simp, by rw [offer_outgoing _ _ room, flagged], ?_⟩
        rw [offer, if_pos room, setFlag_port]
        unfold startLine
        split
        case h_1 queue =>
          have := congrArg List.length queue
          simp only [State.setPort_port, List.length_append, List.length_cons, List.length_nil] at this ⊢
          omega
        case h_2 => simp
      · refine still _ ?_
        rw [offer_full _ _ room, overrun_port, setFlag_port]
  · exact still _ (setFlag_port i s)

/-- Settles O48: a good frame from below renews the timer and, where the link was DOWN, brings it UP with a latch; the
timer's expiry takes it DOWN. -/
theorem extensionLinkFollowsFrames : Obligations.ExtensionLinkFollowsFrames := by
  intro s bytes
  have live (up : s.ext.up = true) : renewExt s = s.setExt { s.ext with timer := some 60 } :=
    setExtUp_same (s := s.setExt { s.ext with timer := some 60 }) up
  have woken (down : s.ext.up = false) :
      renewExt s = latch .ext (s.setExt { s.ext with up := true, timer := some 60 }) :=
    setExtUp_changed (s := s.setExt { s.ext with timer := some 60 }) (by simp [down])
  have dark : (s.setExt { s.ext with timer := some 60 }).lampOutputs = s.lampOutputs :=
    lampOutputs_congr rfl rfl rfl rfl rfl rfl rfl rfl
  refine ⟨⟨_, rfl, fun up => ?_, fun down => ?_⟩, ⟨_, rfl, fun up => ?_, fun down => ?_⟩, fun running up => ?_⟩
  · rw [live up]
    exact ⟨conclude_quietly s _, conclude_outgoing_sameLamps dark⟩
  · rw [woken down]
    exact (latch_quietly rfl _).conclude s
  · rw [live up]
    refine ⟨(offer_quietly _ _).conclude s, fun room => ?_⟩
    have kept := (offer_lampOutputs (s := s.setExt { s.ext with timer := some 60 }) room (.forwarded bytes)).trans dark
    rw [conclude_outgoing_sameLamps kept]
    exact offer_outgoing _ (s.setExt { s.ext with timer := some 60 }) room
  · rw [woken down]
    refine ⟨((latch_quietly rfl _).trans (offer_quietly _ _)).conclude s, fun room => ?_⟩
    obtain ⟨notice, short, latched, grown⟩ := latch_outgoing_le .ext (s.setExt { s.ext with up := true, timer := some 60 })
    obtain ⟨reports, -⟩ := conclude_quietly s
      (offer (.forwarded bytes) (latch .ext (s.setExt { s.ext with up := true, timer := some 60 })))
    obtain ⟨later, concluded⟩ := reports.outgoing
    have queued := offer_outgoing (.forwarded bytes) (latch .ext (s.setExt { s.ext with up := true, timer := some 60 }))
      (Nat.lt_of_le_of_lt grown room)
    refine ⟨notice, later, short, ?_⟩
    rw [concluded, queued, latched]
    simp [State.outgoing]
  · have ran : exec .extTimerExpiry s =
        .next (conclude s (setExtUp false (s.setExt { s.ext with timer := none }))) :=
      congrArg (fun u => Host.Outcome.next (conclude s u)) (if_pos running)
    refine ⟨_, ran, ?_⟩
    rw [setExtUp_changed (by simp [up])]
    exact (latch_quietly rfl _).conclude s

/-! ### The return line (R158, R172) -/

/-- R158: the line and the return queue stand, and RETURN-OVERRUN is latched. -/
def State.overran (s t : State) : Prop :=
  t.port.returnQueue = s.port.returnQueue ∧ t.port.line = s.port.line ∧ t.latched .returnOverrun = true

theorem overrun_overran (s : State) : s.overran (overrun s) := by
  refine ⟨by rw [overrun_port], by rw [overrun_port], ?_⟩
  have flagged : (setFlag .returnOverrun s).latched .returnOverrun = true := by simp [setFlag_latched]
  simp only [overrun]
  split
  · exact flagged
  · exact flagged

theorem transmitAll_overran {s t : State} (kept : s.overran t) : s.overran (transmitAll t) := by
  obtain ⟨queue, line, latched⟩ := kept
  refine ⟨by rw [transmitAll_port, queue], by rw [transmitAll_port, line], ?_⟩
  exact (latched_of_status (congrArg Status.latched (transmitAll_status t)) _).trans latched

theorem leaveQueue_overran {s t : State} (kept : s.overran t) : s.overran (leaveQueue t) := kept

section Full

variable {s : State} (full : 32 ≤ s.port.returnQueue.length)
include full

theorem offer_of_full (f : UpFrame) : offer f s = overrun s := offer_full f s (Nat.not_lt.2 full)

theorem offer_overran (f : UpFrame) {t : State} (queue : t.port.returnQueue = s.port.returnQueue)
    (line : t.port.line = s.port.line) : s.overran (offer f t) := by
  rw [offer_of_full (by rw [queue]; exact full)]
  obtain ⟨queue', line', latched⟩ := overrun_overran t
  exact ⟨queue'.trans queue, line'.trans line, latched⟩

/-- While the queue is full every report is dropped. -/
theorem overran_keptByReports : KeptByReports s.overran where
  offered f t := fun ⟨queue, line, _⟩ => offer_overran full f queue line
  flagged i t := fun ⟨queue, line, latched⟩ =>
    ⟨by rw [setFlag_port, queue], by rw [setFlag_port, line], by rw [setFlag_latched, latched, ite_self]⟩
  held _ _ _ same := same

theorem overran_conclude {t : State} (kept : s.overran t) (before : State) : s.overran (conclude before t) := by
  obtain ⟨queue, line, latched⟩ := (overran_keptByReports full).announceLamps before t kept
  exact transmitAll_overran ⟨queue, line, latched⟩

theorem afterService_overran (r : Request) (reply : Reply) : s.overran (s.afterService r (s, reply)) := by
  have replied : s.overran (sendReply r.tag reply (holdLamps s s)) :=
    offer_overran full _ (by rw [holdLamps_port]) (by rw [holdLamps_port])
  have freed := (overran_keptByReports full).releaseHeld _ replied
  exact transmitAll_overran (leaveQueue_overran freed)

end Full

theorem setExtUp_line {s : State} (full : 32 ≤ s.port.returnQueue.length) (b : Bool) :
    (setExtUp b s).port.returnQueue = s.port.returnQueue ∧ (setExtUp b s).port.line = s.port.line := by
  have kept : KeptByReports (fun t => t.port.returnQueue = s.port.returnQueue ∧ t.port.line = s.port.line) :=
    { offered := fun f t ⟨queue, line⟩ => by
        rw [offer_of_full (by rw [queue]; exact full), overrun_port]
        exact ⟨queue, line⟩
      flagged := fun i t same => by rw [setFlag_port]; exact same
      held := fun _ _ _ same => same }
  unfold setExtUp
  split
  · exact ⟨rfl, rfl⟩
  · exact kept.latch _ _ ⟨rfl, rfl⟩

theorem startLine_of_busy {s : State} (busy : s.port.line.isSome = true) : startLine s = s := by
  unfold startLine
  split
  case h_1 free _ => simp [free] at busy
  case h_2 => rfl

theorem startLine_of_free {s : State} (free : s.port.line = none) {f : UpFrame} {rest : List UpFrame}
    (queue : s.port.returnQueue = f :: rest) :
    startLine s = s.setPort { s.port with returnQueue := rest, line := some ⟨f, s.attention⟩ } := by
  simp only [startLine, free, queue]

theorem startLine_of_empty {s : State} (empty : s.port.returnQueue = []) : startLine s = s := by
  unfold startLine
  split
  case h_1 queue => simp [empty] at queue
  case h_2 => rfl

theorem offer_of_busy {s : State} (room : s.port.returnQueue.length < 32) (busy : s.port.line.isSome = true) (f : UpFrame) :
    offer f s = s.setPort { s.port with returnQueue := s.port.returnQueue ++ [f] } :=
  (if_pos room).trans (startLine_of_busy (s := s.setPort _) busy)

theorem offer_of_quiet {s : State} (free : s.port.line = none) (empty : s.port.returnQueue = []) (f : UpFrame) :
    offer f s = s.setPort { s.port with line := some ⟨f, s.attention⟩ } := by
  have queued : offer f s = startLine (s.setPort { s.port with returnQueue := s.port.returnQueue ++ [f] }) :=
    if_pos (by rw [empty]; decide)
  have started := startLine_of_free (s := s.setPort { s.port with returnQueue := s.port.returnQueue ++ [f] }) free
    (f := f) (rest := []) (by simp [empty])
  rw [queued, started, empty.symm]
  rfl

theorem startLine_quietly (s : State) : QuietlySame s (startLine s) := by
  have port := startLine_port s
  have requests := congrArg Port.requests port
  have status := startLine_status s
  refine ⟨reportsOnly_of (startLine_pending _) (startLine_ext _) (startLine_scan _) (startLine_engine _)
    (startLine_claims _) (startLine_pool _) (startLine_router _) (startLine_sequencer _) (startLine_expression _)
    (startLine_chambers _) ?_ ?_ (fun i _ => latched_of_status (congrArg Status.latched status) i) ⟨[], by simp⟩, requests⟩
  · rw [requests]; exact port
  · rw [status]; exact .refl _

theorem startLine_lampOutputs (s : State) : (startLine s).lampOutputs = s.lampOutputs := by
  have same := startLine_status s
  exact lampOutputs_congr (by rw [startLine_port]) (by rw [startLine_ext]) (startLine_chambers s) (by rw [startLine_pool])
    (by rw [same]) (by rw [same]) (by rw [same]) (by rw [same])

/-- Settles O59: an offer by the room in the queue, each command that offers one frame, and the line as it falls free. -/
theorem returnLineSendsInOrder : Obligations.ReturnLineSendsInOrder := by
  refine ⟨fun s f => ⟨fun room => ⟨offer_outgoing f s room, fun busy => ?_, fun free empty => ?_,
    offer_status_of_room room f⟩, fun full => ?_⟩, fun s bytes busy => ?_, fun s full => ?_, fun s => ?_⟩
  · rw [offer_of_busy room busy]
    rfl
  · rw [offer_of_quiet free empty]
    rfl
  · have latched := overrun_overran s
    obtain ⟨-, -, set⟩ := latched
    rw [offer_of_full full]
    refine ⟨overrun_port s, set, ?_⟩
    have started : (setFlag .returnOverrun s).stretch .returnOverrun = some 100 := by
      simp [setFlag, isEvent, State.stretch, State.setStretch, Config.stretchTime]
    simp only [overrun]
    split
    · exact started
    · exact started
  · refine ⟨_, rfl, fun last up => ?_, fun full => ?_⟩
    · have live : renewExt s = s.setExt { s.ext with timer := some 60 } :=
        setExtUp_same (s := s.setExt { s.ext with timer := some 60 }) up
      have room : (s.setExt { s.ext with timer := some 60 }).port.returnQueue.length < 32 := by
        rw [State.setExt_port, last]
        decide
      have dark : (s.setExt { s.ext with timer := some 60 }).lampOutputs = s.lampOutputs :=
        lampOutputs_congr rfl rfl rfl rfl rfl rfl rfl rfl
      rw [live, conclude_sameLamps ((offer_lampOutputs room _).trans dark), transmitAll_port, offer_of_busy room busy]
      rfl
    · obtain ⟨queue, line⟩ := setExtUp_line (s := s.setExt { s.ext with timer := some 60 }) full true
      exact overran_conclude full (offer_overran full (.forwarded bytes) (t := renewExt s) queue line) s
  · have reports := overran_keptByReports full
    refine ⟨⟨_, rfl, ?_⟩, fun tag code fields up held => ?_, fun r data head => ?_⟩
    · refine overran_conclude full ?_ s
      have offered : s.overran (forwardFrame .hello (offer s.helloReply s)) := by
        rw [forwardFrame_eq rfl]
        exact offer_overran full _ rfl rfl
      unfold startTraining
      split
      · exact reports.latch _ _ offered
      · exact offered
      · exact offered
    · refine ⟨_, (exec_request _ _ _ _ s).trans (goodFrame_up up _), ?_⟩
      have refused : (if s.strapByte = (renewLink s).strapByte then queueRequest ⟨tag, code, fields⟩ (renewLink s)
          else forwardFrame (.request s.strapByte tag code fields) (renewLink s)) =
          offer (s.replyFrame tag .busy) (renewLink s) := (if_pos rfl).trans (if_neg (Nat.not_lt.2 held))
      rw [refused]
      exact overran_conclude full (offer_overran full (s.replyFrame tag .busy) (t := renewLink s) rfl rfl) s
    · have served := (exec_echo s).trans (head.serveHead_eq (act := echoBack))
      obtain ⟨reply, unchanged⟩ : ∃ reply, echoBack data s = (s, reply) := by
        unfold echoBack
        split
        · exact ⟨_, rfl⟩
        · exact ⟨_, rfl⟩
      rw [unchanged] at served
      refine ⟨_, served, ?_, afterService_overran full r reply⟩
      rw [State.afterService, transmitAll_port, finishService_requests]
  · refine ⟨fun busy => ?_, fun free empty => ?_⟩
    · have ran : exec .returnFrameSent s =
          .next (conclude s (startLine (s.setPort { s.port with line := none, silence := 0 }))) :=
        congrArg (fun u => Host.Outcome.next (conclude s u)) (if_pos busy)
      have dark : (startLine (s.setPort { s.port with line := none, silence := 0 })).lampOutputs = s.lampOutputs :=
        (startLine_lampOutputs _).trans (lampOutputs_congr rfl rfl rfl rfl rfl rfl rfl rfl)
      refine ⟨_, ran, (startLine_quietly _).conclude s, ?_⟩
      rw [conclude_sameLamps dark, transmitAll_port]
      cases queue : s.port.returnQueue with
      | nil =>
        rw [startLine_of_empty (s := s.setPort { s.port with line := none, silence := 0 }) queue]
        exact ⟨rfl, queue⟩
      | cons f rest =>
        rw [startLine_of_free (s := s.setPort { s.port with line := none, silence := 0 }) rfl queue]
        exact ⟨rfl, rfl⟩
    · have quiet : s.lineQuiet = true := by simp [State.lineQuiet, free, empty]
      have ran : exec .returnLineSilence s = .next (conclude s (offer s.idleFrame s)) :=
        congrArg (fun u => Host.Outcome.next (conclude s u)) (if_pos quiet)
      refine ⟨_, ran, (offer_quietly _ s).conclude s, ?_⟩
      rw [conclude_sameLamps (offer_lampOutputs (by rw [empty]; decide) _), transmitAll_port, offer_of_quiet free empty]
      exact ⟨rfl, empty⟩

end Sys2Proof.Machine
end

section
/-! PROOF. The next image and POINT-QUERY (R143, R176), the expiries of the pool and of a slew timer (R68, R72, R127), and
the taken RANK write (R19, R66). -/

namespace Sys2Proof.Machine

/-! ### The next image (R143) -/

theorem imageOf_getLsbD (f : Nat → Bool) {i : Nat} (inside : i < 64) : (imageOf f).getLsbD i = f i := by
  simp [imageOf, inside]

theorem nextImage_getLsbD (s : State) (c g : Nat) {i : Nat} (inside : i < 64) :
    (s.nextImage c g).getLsbD i = s.nextValue ⟨c, 64 * g + i⟩ := by
  unfold State.nextImage State.nextValue
  split
  case isTrue enabled => simp [enabled, imageOf_getLsbD _ inside]
  case isFalse off => simp [off]

theorem nextValue_off {s : State} {p : Point} (off : (s.chamber p.chamber).state ≠ .enabled) : s.nextValue p = false := by
  simp [State.nextValue, off]

section Classes

variable {s : State} {p : Point}

theorem pointClass_pipe (pipe : s.isPipe p = true) : s.pointClass p = .pipe := if_pos pipe

theorem pointClass_struck (pipe : s.isPipe p = false) (struck : s.isStruck p = true) : s.pointClass p = .struck := by
  simp [State.pointClass, pipe, struck]

theorem pointClass_stage (pipe : s.isPipe p = false) (struck : s.isStruck p = false) {i : Nat}
    (stage : s.stageIndex p = some i) : s.pointClass p = .stage i := by
  simp [State.pointClass, pipe, struck, stage]

theorem pointClass_rest (pipe : s.isPipe p = false) (struck : s.isStruck p = false) (stage : s.stageIndex p = none) :
    s.pointClass p = if (List.range 8).any (s.tremulantAt p) then .tremulant else .other := by
  simp [State.pointClass, pipe, struck, stage]

theorem stageIndex_eq_some {i : Nat} (few : i < (s.channel p.chamber).record.stageCount)
    (place : p.point = (s.channel p.chamber).record.base + i) : s.stageIndex p = some i := by
  have inside : (s.channel p.chamber).record.base ≤ p.point ∧
      p.point < (s.channel p.chamber).record.base + (s.channel p.chamber).record.stageCount := by omega
  unfold State.stageIndex
  rw [if_pos inside, place, Nat.add_sub_cancel_left]

theorem stageIndex_eq_none (outside : ∀ k, k < (s.channel p.chamber).record.stageCount →
    p.point ≠ (s.channel p.chamber).record.base + k) : s.stageIndex p = none := by
  refine if_neg fun ⟨low, high⟩ => ?_
  exact outside (p.point - (s.channel p.chamber).record.base) (by omega) (by omega)

/-- R75: an output point of tremulants is on while one of them is served by a generator whose level is on. -/
theorem tremulantValue_iff (t : Nat) : s.tremulantValue t = true ↔
    ∃ h v, s.servedBy (.tremulant t) = some h ∧ s.generator h = some v ∧ v.level = true := by
  unfold State.tremulantValue State.level
  cases served : s.servedBy (.tremulant t) with
  | none => simp
  | some h => cases generator : s.generator h <;> simp [generator]

theorem pointValue_rest (pipe : s.isPipe p = false) (struck : s.isStruck p = false) (stage : s.stageIndex p = none) :
    s.pointValue p = true ↔ ∃ k h v, k < 8 ∧ (s.tremulant k).chamber = p.chamber ∧ (s.tremulant k).point = p.point ∧
      s.servedBy (.tremulant k) = some h ∧ s.generator h = some v ∧ v.level = true := by
  have value : s.pointValue p = (List.range 8).any (fun t => s.tremulantAt p t && s.tremulantValue t) := by
    unfold State.pointValue
    rw [pointClass_rest pipe struck stage]
    by_cases some_ : (List.range 8).any (s.tremulantAt p) = true
    · simp only [some_, if_true]
    · have none_ : ∀ t ∈ List.range 8, s.tremulantAt p t = false := by simpa using some_
      rw [if_neg some_]
      refine (List.any_eq_false.2 fun t mem => ?_).symm
      simp [none_ t mem]
  rw [value]
  simp only [List.any_eq_true, List.mem_range, Bool.and_eq_true, tremulantValue_iff, State.tremulantAt,
    decide_eq_true_eq]
  constructor
  · rintro ⟨k, inRange, ⟨chamber, point⟩, h, v, served, generator, level⟩
    exact ⟨k, h, v, inRange, chamber, point, served, generator, level⟩
  · rintro ⟨k, h, v, inRange, chamber, point, served, generator, level⟩
    exact ⟨k, inRange, ⟨chamber, point⟩, h, v, served, generator, level⟩

end Classes

/-- Settles O15, class by class in the order of R143. -/
theorem nextImageShowsClaimsAndGuards : Obligations.NextImageShowsClaimsAndGuards := by
  intro s c g i inside
  rw [nextImage_getLsbD s c g inside]
  refine ⟨fun off => nextValue_off off, fun enabled => ?_⟩
  have value : s.nextValue ⟨c, 64 * g + i⟩ = s.pointValue ⟨c, 64 * g + i⟩ := by simp [State.nextValue, enabled]
  rw [value]
  refine ⟨fun pipe => ?_, fun pipe struck => ?_, fun pipe struck => ⟨fun k few place => ?_, fun outside => ?_⟩⟩
  · simp only [State.pointValue, pointClass_pipe pipe]
  · simp only [State.pointValue, pointClass_struck pipe struck]
  · simp only [State.pointValue, pointClass_stage pipe struck (stageIndex_eq_some few place), State.stageValue]
  · exact pointValue_rest pipe struck (stageIndex_eq_none outside)

/-! ### POINT-QUERY (R161, R176) -/

theorem readPoint_badChamber {c : Byte} (beyond : 3 < c.toNat) (rest : Bytes) : readPoint (c :: rest) = .error 1 := by
  have bad : takeNat 0 3 (c :: rest) = none := if_neg (by omega)
  simp only [readPoint, field, bad]

theorem readPoint_ok {c : Byte} (inRange : c.toNat ≤ 3) (hi lo : Byte) :
    readPoint [c, hi, lo] = if wordOf hi lo ≤ 1023 then .ok ⟨c.toNat, wordOf hi lo⟩ else .error 2 := by
  have chamber : takeNat 0 3 [c, hi, lo] = some (c.toNat, [hi, lo]) := if_pos ⟨by omega, inRange⟩
  simp only [readPoint, field, chamber]
  by_cases point : wordOf hi lo ≤ 1023
  · rw [if_pos point]
    have took : takeWord 0 1023 [hi, lo] = some (wordOf hi lo, []) := if_pos ⟨by omega, point⟩
    simp only [took]
    rfl
  · rw [if_neg point]
    have bad : takeWord 0 1023 [hi, lo] = none := if_neg (by omega)
    simp only [bad]

/-- Settles O46: the data are the model's own, part by part; class and value follow the classes of R143. -/
theorem pointQueryReportsPoint : Obligations.PointQueryReportsPoint := by
  intro s r c hi lo head
  refine ⟨fun beyond => ?_, fun inRange beyond => ?_, fun inRange point => ⟨?_, fun pipe => ⟨?_, ?_⟩, fun pipe struck => ?_,
    fun pipe struck stage => ?_, fun off => ?_, ?_⟩⟩
  · refine head.answeredUnchanged (exec_pointQuery s) ?_
    rw [readPoint_badChamber beyond]
    rfl
  · refine head.answeredUnchanged (exec_pointQuery s) ?_
    rw [readPoint_ok inRange, if_neg (Nat.not_le.2 beyond)]
    rfl
  · refine head.answeredUnchanged (exec_pointQuery s) ?_
    rw [readPoint_ok inRange, if_pos point]
    rfl
  · rw [pointClass_pipe pipe]
    rfl
  · simp only [State.nextValue, State.pointValue, pointClass_pipe pipe]
    by_cases on : (s.chamber c.toNat).state = .enabled ∧ 0 < s.claimCount ⟨c.toNat, wordOf hi lo⟩ ∧
        (s.chamber c.toNat).guarded (wordOf hi lo) = false
    · obtain ⟨enabled, claimed, free⟩ := on
      simp [enabled, claimed, free, yesNoByte, byteOf]
    · rw [if_neg on]
      have dark : (decide ((s.chamber c.toNat).state = .enabled) && (decide (0 < s.claimCount ⟨c.toNat, wordOf hi lo⟩) &&
          !(s.chamber c.toNat).guarded (wordOf hi lo))) = false := by simpa using on
      rw [dark]
      rfl
  · rw [pointClass_struck pipe struck]
    rfl
  · obtain ⟨i, found⟩ := Option.ne_none_iff_exists'.1 stage
    rw [pointClass_stage pipe struck found]
    rfl
  · rw [nextValue_off off]
    rfl
  · rw [nextImage_getLsbD s _ _ (Nat.mod_lt _ (by decide)), Nat.div_add_mod]

/-! ### Timers of the pool and of the channels -/

/-- Settles O54: each expiry writes the one record that R68 or R72 names. -/
theorem poolTimersAct : Obligations.PoolTimersAct := by
  intro s
  refine ⟨fun c p => ⟨_, rfl, conclude_quietly s _⟩, fun g v serving => ⟨fun on => ?_, fun p r client rank => ?_,
    fun n client => ?_⟩⟩
  · have acted : levelOff g s = s.setGenerator g (some { v with counter := v.onValue, level := false }) := by
      simp only [levelOff, serving, on, if_true]
    refine ⟨_, rfl, ?_⟩
    rw [acted]
    exact conclude_quietly s _
  · have acted : returnToZero g s =
        s.setGenerator g (some ⟨v.client, 0, true, (s.rank r).period, (s.rank r).strikeTime⟩) := by
      simp only [returnToZero, serving, State.clientTimes, client, rank]
    refine ⟨_, rfl, ?_⟩
    rw [acted]
    exact conclude_quietly s _
  · have acted : returnToZero g s =
        s.setGenerator g (some ⟨v.client, 0, true, (s.tremulant n).period, (s.tremulant n).onTime⟩) := by
      simp only [returnToZero, serving, State.clientTimes, client]
    refine ⟨_, rfl, ?_⟩
    rw [acted]
    exact conclude_quietly s _

/-- Settles O58, by the goal against the stage. -/
theorem slewTimerMovesStage : Obligations.SlewTimerMovesStage := by
  intro s c running
  have ran : exec (.slewTimerExpiry c) s = .next (conclude s (s.setChannel c (moveChannel (s.channel c)))) := by
    have slewing : (s.channel c).timer.isNone = false := by
      rw [Option.isNone_eq_false_iff]
      exact running
    have acted : slewExpires c s = s.setChannel c (moveChannel (s.channel c)) := if_neg (by rw [slewing]; decide)
    exact congrArg (fun u => Host.Outcome.next (conclude s u)) acted
  refine ⟨_, ran, fun reached => ?_, fun low => ?_, fun high => ?_⟩
  · have moved : moveChannel (s.channel c) = { s.channel c with timer := none } := if_pos reached
    rw [moved]
    exact conclude_quietly s _
  · have moved : moveChannel (s.channel c) =
        { s.channel c with stage := (s.channel c).stage + 1, timer := some (s.channel c).record.slew } := by
      rw [moveChannel, if_neg (by omega), stageToward, if_pos low]
    rw [moved]
    exact conclude_quietly s _
  · have moved : moveChannel (s.channel c) =
        { s.channel c with stage := (s.channel c).stage - 1, timer := some (s.channel c).record.slew } := by
      rw [moveChannel, if_neg (by omega), stageToward, if_neg (by omega), if_pos high]
    rw [moved]
    exact conclude_quietly s _

/-! ### The taken RANK write (R66) -/

/-- A table of which only the entries whose index passes a test are kept. -/
theorem lookupEntry_filter {α : Type} (reset : α) (keep : Nat → Bool) (k : Nat) (entries : List (Nat × α)) :
    lookupEntry reset k (entries.filter fun e => keep e.1) = if keep k then lookupEntry reset k entries else reset := by
  induction entries with
  | nil => simp [lookupEntry]
  | cons e rest ih =>
    obtain ⟨j, v⟩ := e
    by_cases kept : keep j = true
    · rw [List.filter_cons_of_pos (by exact kept)]
      simp only [lookupEntry]
      by_cases same : j = k
      · subst same
        simp [kept]
      · simp [same, ih]
    · rw [List.filter_cons_of_neg (by exact kept), ih]
      by_cases same : j = k
      · subst same
        simp [kept]
      · simp [lookupEntry, same]

theorem pointAt_index {p : Point} (inRange : p.point < 1024) : pointAt p.index = p := by
  obtain ⟨chamber, point⟩ := p
  have small : point < 1024 := inRange
  simp only [pointAt, Point.index, Point.mk.injEq]
  omega

theorem dropUnstruck_items (s : State) {p : Point} (inRange : p.point < 1024) :
    (dropUnstruck s).strikeTimer p = (if s.isStruck p then s.strikeTimer p else none) ∧
      (dropUnstruck s).demandOf p = (if s.isStruck p then s.demandOf p else 0) ∧
      (dropUnstruck s).isWaiting p = (s.isStruck p && s.isWaiting p) := by
  have place := pointAt_index inRange
  refine ⟨?_, ?_, ?_⟩
  · refine (lookupEntry_filter _ (fun e => s.isStruck (pointAt e)) _ _).trans ?_
    simp only [place]
    rfl
  · refine (lookupEntry_filter _ (fun e => s.isStruck (pointAt e)) _ _).trans ?_
    simp only [place]
    rfl
  · refine (lookupEntry_filter _ (fun e => s.isStruck (pointAt e)) _ _).trans ?_
    simp only [place]
    cases s.isStruck p <;> rfl

theorem rank_setRank (s : State) (r q : Nat) (x : RankRecord) :
    (s.setRank r x).rank q = if q = r then x else s.rank q := Table.get_put _ _ _ _ _

theorem rankRefused_iff {r : Nat} {x : RankRecord} {s : State} : rankRefused r x s = true ↔
    s.mode ≠ .config ∧ ¬(x.kind = (s.rank r).kind ∧ x.chamber = (s.rank r).chamber ∧ x.base = (s.rank r).base ∧
      x.lowest = (s.rank r).lowest ∧ x.noteCount = (s.rank r).noteCount) := by
  simp only [rankRefused, State.frozen, Bool.and_eq_true, decide_eq_true_eq, Bool.not_eq_true', ← Bool.not_eq_true, and_assoc]

theorem rank_of_reports {u t : State} (reports : ReportsOnly u t) (q : Nat) : t.rank q = u.rank q := by
  rw [State.rank, reports.engine]
  rfl

theorem isStruck_of_reports {u t : State} (reports : ReportsOnly u t) (p : Point) : t.isStruck p = u.isStruck p := by
  have rank := rank_of_reports reports
  simp only [State.isStruck, State.rankOf, rank]

/-- Settles O31: the record is read, the frozen fields are compared, and the taken write drops the items of the points
that are no struck points under the new record. -/
theorem rankWriteIsTakenOrRefused : Obligations.RankWriteIsTakenOrRefused := by
  intro s r hi lo bytes head inRange
  refine ⟨fun n bad => write_bad (exec_tableWriteRank s) head inRange n bad, fun x ok => ⟨fun frozen differs => ?_,
    fun free => ?_⟩⟩
  · exact write_refused (exec_tableWriteRank s) head inRange ok (rankRefused_iff.2 ⟨frozen, differs⟩)
  · have taken : rankRefused (wordOf hi lo) x s = false := by
      rw [Bool.eq_false_iff, Ne, rankRefused_iff]
      rintro ⟨frozen, differs⟩
      exact free.elim frozen differs
    obtain ⟨t, ran, answered, reports⟩ := write_answers (exec_tableWriteRank s) head inRange ok taken rfl rfl
    refine ⟨t, ran, answered, ?_, ?_, fun q other => ?_, ?_, ?_, ?_, fun p inside => ?_⟩
    · have pool := reports.pool
      rw [pool]
      exact reports
    · rw [rank_of_reports reports]
      exact (rank_setRank s _ _ x).trans (if_pos rfl)
    · rw [rank_of_reports reports]
      exact (rank_setRank s _ q x).trans (if_neg other)
    · rw [reports.pool]
      rfl
    · rw [reports.pool]
      rfl
    · rw [reports.pool]
      rfl
    · obtain ⟨strike, demand, waits⟩ := dropUnstruck_items (s.setRank (wordOf hi lo) x) inside
      have struck : (takeRank (wordOf hi lo) x s).isStruck p = (s.setRank (wordOf hi lo) x).isStruck p := rfl
      rw [isStruck_of_reports reports, struck]
      refine ⟨?_, ?_, ?_⟩
      · rw [State.strikeTimer, reports.pool]
        exact strike
      · rw [State.demandOf, reports.pool]
        exact demand
      · rw [State.isWaiting, reports.pool]
        exact waits

end Sys2Proof.Machine
end

section
/-! PROOF. What leaves while the return queue has room (R158, R167), STATUS-READ and SNAPSHOT (R166). -/

namespace Sys2Proof.Machine

/-! ### Frames offered to a queue with room -/

/-- The return queue has room for `n` frames more. -/
def State.hasRoom (s : State) (n : Nat) : Prop := s.port.returnQueue.length + n ≤ 32

theorem State.hasRoom.mono {s : State} {m n : Nat} (room : s.hasRoom n) (fewer : m ≤ n) : s.hasRoom m := by
  unfold State.hasRoom at *
  omega

theorem State.hasRoom.of_queue {s t : State} {n : Nat} (room : s.hasRoom n)
    (queue : t.port.returnQueue = s.port.returnQueue) : t.hasRoom n := by
  unfold State.hasRoom at *
  rw [queue]
  exact room

theorem State.hasRoom.lt {s : State} {n : Nat} (room : s.hasRoom (n + 1)) : s.port.returnQueue.length < 32 := by
  unfold State.hasRoom at room
  omega

theorem startLine_queue_le (s : State) : (startLine s).port.returnQueue.length ≤ s.port.returnQueue.length := by
  unfold startLine
  split
  case h_1 queue => simp [queue]
  case h_2 => exact le_refl _

theorem State.hasRoom.offer {s : State} {n : Nat} (room : s.hasRoom (n + 1)) (f : UpFrame) :
    (Machine.offer f s).hasRoom n := by
  have placed : Machine.offer f s = startLine (s.setPort { s.port with returnQueue := s.port.returnQueue ++ [f] }) :=
    if_pos room.lt
  have shorter := startLine_queue_le (s.setPort { s.port with returnQueue := s.port.returnQueue ++ [f] })
  rw [State.setPort_port, List.length_append, List.length_singleton] at shorter
  rw [placed]
  unfold State.hasRoom at *
  omega

/-- Frames offered one after the other. -/
def offerAll (fs : List UpFrame) (s : State) : State := fs.foldl (fun t f => offer f t) s

theorem offerAll_room {fs : List UpFrame} {s : State} {n : Nat} (room : s.hasRoom (fs.length + n)) :
    (offerAll fs s).outgoing = s.outgoing ++ fs ∧ (offerAll fs s).status = s.status ∧ (offerAll fs s).hasRoom n := by
  induction fs generalizing s with
  | nil => exact ⟨(List.append_nil _).symm, rfl, room.mono (by simp)⟩
  | cons f rest ih =>
    have more : s.hasRoom ((rest.length + n) + 1) := room.mono (by simp only [List.length_cons]; omega)
    obtain ⟨outgoing, status, left⟩ := ih (more.offer f)
    refine ⟨?_, status.trans (offer_status_of_room more.lt f), left⟩
    calc (offerAll rest (offer f s)).outgoing = (offer f s).outgoing ++ rest := outgoing
      _ = s.outgoing ++ f :: rest := by rw [offer_outgoing f s more.lt, List.append_assoc]; rfl

theorem lampFrame_of_strap {s t : State} (strap : t.status.strap = s.status.strap) : t.lampFrame = s.lampFrame := by
  funext outputs
  simp [State.lampFrame, strapByte_of_status strap]

theorem noticeFrame_of_status {s t : State} (status : t.status = s.status) : t.noticeFrame = s.noticeFrame := by
  have raised : t.raised = s.raised := by
    funext i
    simp only [State.raised, State.latched, State.maskedItem, status]
  simp only [State.noticeFrame, State.noticeGroups, raised, State.strapByte, status]

/-- The NOTICE and the LAMP frames held behind a REPLY, in their order (R167, R168). -/
def State.heldFrames (s : State) : List UpFrame :=
  (if s.status.heldNotice then [s.noticeFrame] else []) ++ s.status.heldLamps.map s.lampFrame

theorem heldFrames_length_le (s : State) : s.heldFrames.length ≤ s.status.heldLamps.length + 1 := by
  unfold State.heldFrames
  split
  · simp
  · simp

theorem foldl_offer_lampFrame {outputs : List (BitVec 16)} {s t : State} (room : s.hasRoom outputs.length)
    (strap : s.status.strap = t.status.strap) :
    outputs.foldl (fun u o => offer (u.lampFrame o) u) s = offerAll (outputs.map t.lampFrame) s := by
  induction outputs generalizing s with
  | nil => rfl
  | cons o rest ih =>
    have more : s.hasRoom (rest.length + 1) := room
    rw [List.foldl_cons, List.map_cons, offerAll, List.foldl_cons, lampFrame_of_strap strap]
    exact ih (more.offer _) (by rw [offer_status_of_room more.lt, strap])

/-- What was held leaves in its order, and nothing else is reported. -/
theorem releaseHeld_room {s : State} (room : s.hasRoom s.heldFrames.length) :
    (releaseHeld s).outgoing = s.outgoing ++ s.heldFrames ∧
      (releaseHeld s).status = { s.status with heldNotice := false, heldLamps := [] } := by
  have released : ∀ t : State, t.status = s.status → t.hasRoom s.status.heldLamps.length →
      t.outgoing = s.outgoing ++ (if s.status.heldNotice then [s.noticeFrame] else []) →
      (if s.status.heldNotice then offer s.noticeFrame s else s) = t →
      (releaseHeld s).outgoing = s.outgoing ++ s.heldFrames ∧
        (releaseHeld s).status = { s.status with heldNotice := false, heldLamps := [] } := by
    intro t status left outgoing noticed
    obtain ⟨sent, kept, -⟩ := offerAll_room (n := 0) (fs := s.status.heldLamps.map s.lampFrame) (s := t)
      (left.mono (by simp))
    have folded := foldl_offer_lampFrame (t := s) left (by rw [status])
    simp only [releaseHeld, noticed, folded]
    refine ⟨?_, ?_⟩
    · refine sent.trans ?_
      rw [outgoing, State.heldFrames, List.append_assoc]
    · exact (congrArg (fun st : Status => { st with heldNotice := false, heldLamps := [] }) (kept.trans status))
  by_cases notice : s.status.heldNotice = true
  · have more : s.hasRoom (s.status.heldLamps.length + 1) := by
      refine room.mono ?_
      simp [State.heldFrames, notice]
    refine released (offer s.noticeFrame s) (offer_status_of_room more.lt _) (more.offer _) ?_ (if_pos notice)
    rw [if_pos notice, offer_outgoing _ _ more.lt]
  · refine released s rfl (room.mono ?_) ?_ (if_neg notice)
    · simp [State.heldFrames, notice]
    · rw [if_neg notice, List.append_nil]

/-- R157, R167, R168: a service that changed no lamp puts out its REPLY and what was held, and reports nothing else. -/
theorem afterService_room {s u : State} {r : Request} {reply : Reply} (dark : u.lampOutputs = s.lampOutputs)
    (room : u.hasRoom (u.heldFrames.length + 1)) :
    (s.afterService r (u, reply)).outgoing = u.outgoing ++ u.replyFrame r.tag reply :: u.heldFrames ∧
      (s.afterService r (u, reply)).status = { u.status with heldNotice := false, heldLamps := [] } := by
  have unheld : holdLamps s u = u := if_pos dark
  have status := offer_status_of_room room.lt (u.replyFrame r.tag reply)
  have held : (offer (u.replyFrame r.tag reply) u).heldFrames = u.heldFrames := by
    simp only [State.heldFrames, noticeFrame_of_status status, lampFrame_of_strap (congrArg Status.strap status), status]
  obtain ⟨outgoing, freed⟩ := releaseHeld_room (s := offer (u.replyFrame r.tag reply) u)
    (by rw [held]; exact room.offer _)
  have served : finishService r.tag s (u, reply) = leaveQueue (releaseHeld (offer (u.replyFrame r.tag reply) u)) := by
    simp only [finishService, unheld, sendReply]
  rw [State.afterService, served]
  refine ⟨?_, ?_⟩
  · rw [transmitAll_outgoing, leaveQueue_outgoing, outgoing, held, offer_outgoing _ _ room.lt, List.append_assoc]
    rfl
  · rw [transmitAll_status]
    change (releaseHeld (offer (u.replyFrame r.tag reply) u)).status = _
    rw [freed, status]

/-! ### Flags cleared (R166) -/

/-- A state with the latched flags of a list of items cleared. -/
def clearItems (items : List StatusItem) (s : State) : State := items.foldl (fun t i => t.setLatched i false) s

theorem latched_setLatched (i j : StatusItem) (b : Bool) (s : State) :
    (s.setLatched i b).latched j = if itemIndex j = itemIndex i then b else s.latched j := Table.get_put _ _ _ _ _

theorem clearItems_latched (items : List StatusItem) (s : State) (i : StatusItem) :
    (clearItems items s).latched i = (s.latched i && !(items.any fun j => itemIndex i = itemIndex j)) := by
  induction items generalizing s with
  | nil => simp [clearItems]
  | cons j rest ih =>
    have step : (clearItems (j :: rest) s).latched i = (clearItems rest (s.setLatched j false)).latched i := rfl
    rw [step, ih, latched_setLatched]
    by_cases same : itemIndex i = itemIndex j <;> simp [same]

theorem clearItems_settings (items : List StatusItem) (s : State) :
    clearItems items s = s.setStatus { s.status with latched := (clearItems items s).status.latched } := by
  induction items generalizing s with
  | nil => rfl
  | cons j rest ih => exact (ih (s.setLatched j false)).trans rfl

theorem clearGroup_eq (g : Nat) (s : State) : clearGroup g s = clearItems (groupItems g) s := rfl

theorem clearItems_append (xs ys : List StatusItem) (s : State) :
    clearItems ys (clearItems xs s) = clearItems (xs ++ ys) s := (List.foldl_append ..).symm

theorem clearAll_eq (s : State) : forEach (List.range 4) clearGroup s = clearItems allItems s := by
  have items : allItems = groupItems 0 ++ groupItems 1 ++ groupItems 2 ++ groupItems 3 := rfl
  simp only [items, ← clearItems_append]
  rfl

/-- The items have different flags. -/
theorem itemIndex_injective {i j : StatusItem} (known : i ∈ allItems) (known' : j ∈ allItems)
    (same : itemIndex i = itemIndex j) : i = j := by
  have apart : ∀ i ∈ allItems, ∀ j ∈ allItems, itemIndex i = itemIndex j → i = j := by decide
  exact apart i known j known' same

theorem mem_allItems_of_group {g : Nat} {i : StatusItem} (few : g ≤ 3) (mem : i ∈ groupItems g) : i ∈ allItems :=
  List.mem_flatMap.2 ⟨g, List.mem_range.2 (by omega), mem⟩

section Cleared

variable {s : State} {r : Request} {items : List StatusItem} {reply : Reply}

/-- Flags cleared change no lamp, and nothing of the return line. -/
theorem clearItems_lampOutputs (items : List StatusItem) (s : State) : (clearItems items s).lampOutputs = s.lampOutputs := by
  rw [clearItems_settings]
  exact lampOutputs_congr rfl rfl rfl rfl rfl rfl rfl rfl

theorem clearItems_port (items : List StatusItem) (s : State) : (clearItems items s).port = s.port := by
  rw [clearItems_settings]
  rfl

theorem clearItems_strap (items : List StatusItem) (s : State) : (clearItems items s).status.strap = s.status.strap := by
  rw [clearItems_settings]
  rfl

theorem clearItems_masked (items : List StatusItem) (s : State) : (clearItems items s).status.masked = s.status.masked := by
  rw [clearItems_settings]
  rfl

theorem clearItems_mode (items : List StatusItem) (s : State) : (clearItems items s).status.mode = s.status.mode := by
  rw [clearItems_settings]
  rfl

theorem maskedItem_of_reports {u t : State} (reports : ReportsOnly u t) (i : StatusItem) :
    t.maskedItem i = u.maskedItem i := by
  rw [State.maskedItem, reports.status]
  rfl

theorem mode_of_reports {u t : State} (reports : ReportsOnly u t) : t.mode = u.mode := by
  rw [State.mode, reports.status]
  rfl

/-- A REPLY and what is held behind it latch RETURN-OVERRUN alone, and not even that while they find room. -/
theorem afterClear_latched {i : StatusItem} (quiet : i ≠ .returnOverrun ∨
      s.port.returnQueue.length + s.status.heldLamps.length + 2 ≤ 32) :
    (s.afterService r (clearItems items s, reply)).latched i = (clearItems items s).latched i := by
  by_cases own : i = .returnOverrun
  · have room := quiet.resolve_left (not_not.2 own)
    have status : (clearItems items s).status.heldLamps = s.status.heldLamps := by
      rw [clearItems_settings]
      rfl
    have few := heldFrames_length_le (clearItems items s)
    have hasRoom : (clearItems items s).hasRoom ((clearItems items s).heldFrames.length + 1) := by
      unfold State.hasRoom
      rw [clearItems_port]
      rw [status] at few
      omega
    obtain ⟨-, kept⟩ := afterService_room (r := r) (reply := reply) (clearItems_lampOutputs items s) hasRoom
    exact latched_of_status (by rw [kept]) i
  · have reports := (finishService_reportsOnly r.tag s (clearItems items s, reply)).trans (transmitAll_reportsOnly _)
    exact reports.flags i own

end Cleared

/-- Settles O43: the service clears the flags of the group, and of every group for SNAPSHOT. -/
theorem statusReadsClearFlags : Obligations.StatusReadsClearFlags := by
  refine ⟨fun s r g head => ⟨fun beyond => ?_, fun inRange => ?_⟩, fun s r head => ?_⟩
  · exact head.answeredUnchanged (exec_statusRead s) (withNumber_beyond beyond _ _ s)
  · have acts : withNumber 3 (fun g rest => withNoMore 1 rest (readGroup g)) [g] s =
        (clearItems (groupItems g.toNat) s, .done (s.groupData g.toNat)) := withNumber_inRange inRange _ _ s
    obtain ⟨ran, answered, reports⟩ := head.answers (exec_statusRead s) acts (clearItems_port _ s)
      (clearItems_strap _ s)
    refine ⟨_, ran, answered, reports, fun i mem quiet => ?_, fun i known outside other => ?_, fun i => ?_⟩
    · rw [afterClear_latched quiet, clearItems_latched]
      simp only [Bool.and_eq_false_iff, Bool.not_eq_false']
      exact .inr (List.any_eq_true.2 ⟨i, mem, by simp⟩)
    · have untouched : ((groupItems g.toNat).any fun j => itemIndex i = itemIndex j) = false := by
        refine List.any_eq_false.2 fun j mem => ?_
        simp only [decide_eq_true_eq]
        intro same
        exact outside (itemIndex_injective known (mem_allItems_of_group inRange mem) same ▸ mem)
      rw [afterClear_latched (.inl other), clearItems_latched, untouched]
      simp
    · rw [maskedItem_of_reports reports, State.maskedItem, clearItems_masked]
      rfl
  · have taken : takeSnapshot s = (clearItems allItems s, .done s.snapshotData) :=
      congrArg (fun u => (u, Reply.done s.snapshotData)) (clearAll_eq s)
    have acts := (withNoMore_nil 0 takeSnapshot s).trans taken
    obtain ⟨ran, answered, reports⟩ := head.answers
      (act := fun fields => withNoMore 0 fields takeSnapshot) (exec_snapshot s) acts (clearItems_port _ s)
      (clearItems_strap _ s)
    have data : s.snapshotData = s.groupData 0 ++ s.groupData 1 ++ s.groupData 2 ++ s.groupData 3 ++
        [byteOf (modeCode s.mode), byteOf (stateCode (s.chamber 0).state), byteOf (stateCode (s.chamber 1).state),
          byteOf (stateCode (s.chamber 2).state), byteOf (stateCode (s.chamber 3).state)] := by
      simp [State.snapshotData, List.range_succ]
    rw [data] at answered ran reports
    refine ⟨_, ran, answered, fun i known quiet => ?_, ?_, fun i => ?_⟩
    · rw [afterClear_latched quiet, clearItems_latched]
      simp only [Bool.and_eq_false_iff, Bool.not_eq_false']
      exact .inr (List.any_eq_true.2 ⟨i, known, by simp⟩)
    · exact (mode_of_reports reports).trans (clearItems_mode _ s)
    · rw [maskedItem_of_reports reports, State.maskedItem, clearItems_masked]
      rfl

end Sys2Proof.Machine
end

section
/-! PROOF. The Expression Unit (R122 to R127): the level of a curve, the goal of a channel, and what a SHOE frame and a
taken CURVE write do with them. -/

namespace Sys2Proof.Machine

/-! ### The level of a segment (R125) -/

section Segment

variable {a b : Nat × Nat} {x : Nat} (from_ : a.1 ≤ x) (before : x < b.1)
include from_ before

/-- On a rising segment the product is not negative, so truncation rounds it down. -/
theorem segmentLevel_rising (rises : a.2 ≤ b.2) :
    (segmentLevel a b x - a.2) * ((b.1 : Int) - a.1) ≤ ((x : Int) - a.1) * ((b.2 : Int) - a.2) ∧
      ((x : Int) - a.1) * ((b.2 : Int) - a.2) < (segmentLevel a b x - a.2 + 1) * ((b.1 : Int) - a.1) ∧
      a.2 ≤ segmentLevel a b x ∧ segmentLevel a b x ≤ b.2 := by
  have width : 0 < (b.1 : Int) - a.1 := by omega
  have height : 0 ≤ (b.2 : Int) - a.2 := by omega
  have reach : 0 ≤ (x : Int) - a.1 := by omega
  have product : 0 ≤ ((x : Int) - a.1) * ((b.2 : Int) - a.2) := Int.mul_nonneg reach height
  have whole : ((x : Int) - a.1) * ((b.2 : Int) - a.2) ≤ ((b.2 : Int) - a.2) * ((b.1 : Int) - a.1) := by
    rw [Int.mul_comm ((b.2 : Int) - a.2)]
    exact Int.mul_le_mul_of_nonneg_right (by omega) height
  have quotient : segmentLevel a b x - a.2 = (((x : Int) - a.1) * ((b.2 : Int) - a.2)) / ((b.1 : Int) - a.1) := by
    rw [segmentLevel, Int.tdiv_eq_ediv_of_nonneg product]
    omega
  have low := Int.ediv_mul_le (((x : Int) - a.1) * ((b.2 : Int) - a.2)) (Int.ne_of_gt width)
  have high := Int.lt_ediv_add_one_mul_self (((x : Int) - a.1) * ((b.2 : Int) - a.2)) width
  have positive := Int.ediv_nonneg product (Int.le_of_lt width)
  have bounded : (((x : Int) - a.1) * ((b.2 : Int) - a.2)) / ((b.1 : Int) - a.1) ≤ (b.2 : Int) - a.2 :=
    Int.ediv_le_of_le_mul width whole
  rw [quotient]
  exact ⟨low, high, by omega, by omega⟩

/-- On a falling segment the product is not positive, so truncation rounds it up. -/
theorem segmentLevel_falling (falls : b.2 < a.2) :
    ((x : Int) - a.1) * ((b.2 : Int) - a.2) ≤ (segmentLevel a b x - a.2) * ((b.1 : Int) - a.1) ∧
      (segmentLevel a b x - a.2 - 1) * ((b.1 : Int) - a.1) < ((x : Int) - a.1) * ((b.2 : Int) - a.2) ∧
      b.2 ≤ segmentLevel a b x ∧ segmentLevel a b x ≤ a.2 := by
  have width : 0 < (b.1 : Int) - a.1 := by omega
  have height : 0 ≤ (a.2 : Int) - b.2 := by omega
  have reach : 0 ≤ (x : Int) - a.1 := by omega
  have negated : ((x : Int) - a.1) * ((b.2 : Int) - a.2) = -(((x : Int) - a.1) * ((a.2 : Int) - b.2)) := by
    rw [← Int.mul_neg]
    congr 1
    omega
  have product : 0 ≤ ((x : Int) - a.1) * ((a.2 : Int) - b.2) := Int.mul_nonneg reach height
  have whole : ((x : Int) - a.1) * ((a.2 : Int) - b.2) ≤ ((a.2 : Int) - b.2) * ((b.1 : Int) - a.1) := by
    rw [Int.mul_comm ((a.2 : Int) - b.2)]
    exact Int.mul_le_mul_of_nonneg_right (by omega) height
  have quotient : segmentLevel a b x - a.2 = -((((x : Int) - a.1) * ((a.2 : Int) - b.2)) / ((b.1 : Int) - a.1)) := by
    rw [segmentLevel, negated, Int.neg_tdiv, Int.tdiv_eq_ediv_of_nonneg product]
    omega
  have low := Int.ediv_mul_le (((x : Int) - a.1) * ((a.2 : Int) - b.2)) (Int.ne_of_gt width)
  have high := Int.lt_ediv_add_one_mul_self (((x : Int) - a.1) * ((a.2 : Int) - b.2)) width
  have positive := Int.ediv_nonneg product (Int.le_of_lt width)
  have bounded : (((x : Int) - a.1) * ((a.2 : Int) - b.2)) / ((b.1 : Int) - a.1) ≤ (a.2 : Int) - b.2 :=
    Int.ediv_le_of_le_mul width whole
  rw [quotient, negated]
  refine ⟨?_, ?_, by omega, by omega⟩
  · rw [Int.neg_mul]
    omega
  · have factor : -((((x : Int) - a.1) * ((a.2 : Int) - b.2)) / ((b.1 : Int) - a.1)) - 1 =
        -((((x : Int) - a.1) * ((a.2 : Int) - b.2)) / ((b.1 : Int) - a.1) + 1) := by omega
    rw [factor, Int.neg_mul]
    omega

theorem segmentLevel_range (low : a.2 ≤ 1000) (high : b.2 ≤ 1000) :
    0 ≤ segmentLevel a b x ∧ segmentLevel a b x ≤ 1000 := by
  obtain rises | falls := Nat.lt_or_ge b.2 a.2 |>.symm
  · obtain ⟨-, -, above, below⟩ := segmentLevel_rising from_ before rises
    omega
  · obtain ⟨-, -, above, below⟩ := segmentLevel_falling from_ before falls
    omega

end Segment

theorem segmentLevel_start (a b : Nat × Nat) : segmentLevel a b a.1 = a.2 := by simp [segmentLevel]

/-! ### The level of a curve (R125) -/

/-- The level, at a sample, of the breakpoints from one at or below it on: the segment the sample lies in gives it, or the
last breakpoint. -/
structure LevelAlong (curve : List (Nat × Nat)) (x : Nat) (y : Int) : Prop where
  last : ∀ a, curve.getLast? = some a → a.1 ≤ x → y = a.2
  segment : ∀ i a b, curve[i]? = some a → curve[i + 1]? = some b → a.1 ≤ x → x < b.1 → y = segmentLevel a b x
  range : 0 ≤ y ∧ y ≤ 1000

theorem levelFrom_along {a : Nat × Nat} {rest : List (Nat × Nat)} {x : Nat} (from_ : a.1 ≤ x)
    (rises : (a :: rest).Pairwise (fun a b => a.1 < b.1)) (bounded : ∀ b ∈ a :: rest, b.2 ≤ 1000) :
    LevelAlong (a :: rest) x (levelFrom x a rest) := by
  induction rest generalizing a with
  | nil =>
    have low := bounded a (by simp)
    refine ⟨fun l only _ => ?_, fun i p q _ next => by simp at next, by simp only [levelFrom]; omega⟩
    obtain rfl : a = l := by simpa using only
    rfl
  | cons b rest ih =>
    have tail := List.Pairwise.of_cons rises
    have above : ∀ c ∈ b :: rest, b.1 ≤ c.1 := by
      intro c mem
      obtain rfl | later := List.mem_cons.1 mem
      · exact le_refl _
      · exact Nat.le_of_lt ((List.pairwise_cons.1 tail).1 c later)
    unfold levelFrom
    split
    case isTrue inside =>
      refine ⟨fun l last reached => ?_, fun i p q at_ next reached short => ?_,
        segmentLevel_range from_ inside (bounded a (by simp)) (bounded b (by simp))⟩
      · have mem : l ∈ b :: rest := List.mem_of_getLast? (by rwa [List.getLast?_cons_cons] at last)
        have := above l mem
        omega
      · cases i with
        | zero =>
          obtain rfl : a = p := by simpa using at_
          obtain rfl : b = q := by simpa using next
          rfl
        | succ i =>
          have := above p (List.mem_of_getElem? (by simpa using at_))
          omega
    case isFalse past =>
      obtain ⟨last, segment, range⟩ := ih (Nat.not_lt.1 past) tail (fun c mem => bounded c (List.mem_cons_of_mem _ mem))
      refine ⟨fun l only => last l (by rwa [List.getLast?_cons_cons] at only), fun i p q at_ next reached short => ?_, range⟩
      cases i with
      | zero =>
        obtain rfl : b = q := by simpa using next
        omega
      | succ i => exact segment i p q (by simpa using at_) (by simpa using next) reached short

theorem curveLevel_taken {curve : List (Nat × Nat)} (many : 2 ≤ curve.length)
    (rises : curve.Pairwise (fun a b => a.1 < b.1)) (bounded : ∀ b ∈ curve, b.2 ≤ 1000) (x : Nat) :
    LevelTaken curve x (curveLevel curve x) := by
  cases curve with
  | nil => simp at many
  | cons a rest =>
    obtain ⟨first, -⟩ := List.pairwise_cons.1 rises
    have along : LevelAlong (a :: rest) x (curveLevel (a :: rest) x) := by
      unfold curveLevel
      dsimp only
      split
      case isTrue before =>
        have low := bounded a (by simp)
        refine ⟨fun l last reached => ?_, fun i p q at_ next reached short => ?_, by omega⟩
        · cases rest with
          | nil => simp at many
          | cons b rest =>
            have := first l (List.mem_of_getLast? (by rwa [List.getLast?_cons_cons] at last))
            omega
        · cases i with
          | zero =>
            obtain rfl : a = p := by simpa using at_
            obtain rfl : x = a.1 := Nat.le_antisymm before reached
            exact (segmentLevel_start a q).symm
          | succ i =>
            have := first p (List.mem_of_getElem? (by simpa using at_))
            omega
      case isFalse past => exact levelFrom_along (by omega) rises bounded
    obtain ⟨last, segment, range⟩ := along
    refine ⟨fun l only reached => ?_, last, fun i p q at_ next reached short rising => ?_,
      fun i p q at_ next reached short falling => ?_, range⟩
    · obtain rfl : a = l := by simpa using only
      exact if_pos reached
    · rw [segment i p q at_ next reached short]
      exact segmentLevel_rising reached short rising
    · rw [segment i p q at_ next reached short]
      exact segmentLevel_falling reached short falling

/-! ### The goal (R126) -/

theorem goalOf_taken {n h : Nat} {y : Int} (range : 0 ≤ y ∧ y ≤ 1000) (c : Nat) : GoalTaken n h c y (goalOf n h y c) := by
  have few : 0 ≤ (n : Int) := Int.natCast_nonneg n
  have low : 0 ≤ (n : Int) * max (y - h) 0 := Int.mul_nonneg few (by omega)
  have ordered : (n : Int) * max (y - h) 0 ≤ n * min (y + h) 1000 := Int.mul_le_mul_of_nonneg_left (by omega) few
  have most : (n : Int) * min (y + h) 1000 ≤ n * 1000 := Int.mul_le_mul_of_nonneg_left (by omega) few
  have up : (raisingThreshold n h y : Int) = (n * max (y - h) 0 + 500) / 1000 := Int.toNat_of_nonneg (by omega)
  have down : (loweringThreshold n h y : Int) = (n * min (y + h) 1000 + 500) / 1000 := Int.toNat_of_nonneg (by omega)
  have upDown : raisingThreshold n h y ≤ loweringThreshold n h y := by omega
  have downMost : loweringThreshold n h y ≤ n := by omega
  refine ⟨raisingThreshold n h y, loweringThreshold n h y, by omega, by omega, upDown, downMost, fun raised => ?_,
    fun lowered => ?_, fun above below => ?_, ?_⟩
  · exact if_pos raised
  · rw [goalOf, if_neg (by omega), if_pos lowered]
  · rw [goalOf, if_neg (by omega), if_neg (by omega)]
  · unfold goalOf
    split
    · omega
    · split <;> omega

theorem CurveRecord.fits.aims {r : CurveRecord} (fits : r.fits) (x c : Nat) :
    r.aims x c (goalOf r.stageCount r.hysteresis (curveLevel r.curve x) c) := by
  obtain ⟨-, -, -, -, -, -, -, many, -, bounded, rises⟩ := fits
  have level := curveLevel_taken many rises (fun b mem => (bounded b mem).2) x
  exact ⟨_, level, goalOf_taken level.range c⟩

/-! ### Channels that take a goal (R126, R127) -/

/-- A channel whose goal has been computed afresh from its working sample, and which has acted on it. -/
def State.aimed (s : State) (c : Nat) : Channel :=
  actOnGoal { s.channel c with
    goal := goalOf (s.channel c).record.stageCount (s.channel c).record.hysteresis
      (curveLevel (s.channel c).record.curve (s.workingSample c)) (s.channel c).stage }

theorem recomputeGoal_eq (c : Nat) (s : State) : recomputeGoal c s = s.setChannel c (s.aimed c) := rfl

theorem channel_setChannel (s : State) (c d : Nat) (x : Channel) :
    (s.setChannel c x).channel d = if d = c then x else s.channel d := Table.get_put _ _ _ _ _

theorem sample_setSample (s : State) (shoe o x : Nat) :
    (s.setSample shoe x).sample o = if o = shoe then x else s.sample o := Table.get_put _ _ _ _ _

theorem aimed_setChannel_other {s : State} {c d : Nat} (other : d ≠ c) (x : Channel) :
    (s.setChannel c x).aimed d = s.aimed d := by
  have same : (s.setChannel c x).channel d = s.channel d := (channel_setChannel s c d x).trans (if_neg other)
  have sample (shoe : Nat) : (s.setChannel c x).sample shoe = s.sample shoe := rfl
  simp only [State.aimed, State.workingSample, same, sample]

/-- Each channel of a list aims once, from its own record and sample. -/
theorem recomputeGoals {cs : List Nat} (once : cs.Nodup) (s : State) :
    (∀ d, (forEach cs recomputeGoal s).channel d = if d ∈ cs then s.aimed d else s.channel d) ∧
      (forEach cs recomputeGoal s).expression.samples = s.expression.samples ∧
      forEach cs recomputeGoal s = s.setExpression (forEach cs recomputeGoal s).expression := by
  induction cs generalizing s with
  | nil => exact ⟨fun d => by simp [forEach], rfl, rfl⟩
  | cons c rest ih =>
    obtain ⟨apart, onceRest⟩ := List.nodup_cons.1 once
    obtain ⟨channels, samples, only⟩ := ih onceRest (recomputeGoal c s)
    have first : forEach (c :: rest) recomputeGoal s = forEach rest recomputeGoal (recomputeGoal c s) := rfl
    rw [first]
    refine ⟨fun d => ?_, samples, only.trans rfl⟩
    rw [channels d, recomputeGoal_eq, channel_setChannel]
    by_cases own : d = c
    · subst own
      rw [if_neg apart, if_pos rfl, if_pos (by simp)]
    · rw [aimed_setChannel_other own, if_neg own]
      simp [own]

theorem stageToward_self (stage : Nat) : stageToward stage stage = stage := by
  rw [stageToward, if_neg (Nat.lt_irrefl _), if_neg (Nat.lt_irrefl _)]

/-- R127: what an aimed channel is, by its timer and its goal. -/
theorem aimed_cases (s : State) (c : Nat) :
    (s.aimed c).record = (s.channel c).record ∧
    (s.aimed c).goal = goalOf (s.channel c).record.stageCount (s.channel c).record.hysteresis
      (curveLevel (s.channel c).record.curve (s.workingSample c)) (s.channel c).stage ∧
    ((s.channel c).timer.isSome → (s.aimed c).stage = (s.channel c).stage ∧ (s.aimed c).timer = (s.channel c).timer) ∧
    ((s.channel c).timer = none → (s.aimed c).goal ≠ (s.channel c).stage →
      (s.aimed c).stage = stageToward (s.channel c).stage (s.aimed c).goal ∧
        (s.aimed c).timer = some (s.channel c).record.slew) ∧
    ((s.channel c).timer = none → (s.aimed c).goal = (s.channel c).stage →
      (s.aimed c).stage = (s.channel c).stage ∧ (s.aimed c).timer = none) := by
  have goal : (s.aimed c).goal = goalOf (s.channel c).record.stageCount (s.channel c).record.hysteresis
      (curveLevel (s.channel c).record.curve (s.workingSample c)) (s.channel c).stage := by
    unfold State.aimed actOnGoal moveChannel
    split
    · split <;> rfl
    · rfl
  refine ⟨actOnGoal_record _, goal, fun running => ?_, fun idle moves => ?_, fun idle rests => ?_⟩
  · have slewing : (s.channel c).timer.isNone = false := Option.isNone_eq_false_iff.2 running
    have held : s.aimed c = _ := if_neg (by simp only [slewing]; decide)
    rw [held]
    exact ⟨rfl, rfl⟩
  · rw [goal] at moves ⊢
    simp [State.aimed, actOnGoal, idle, moveChannel, moves]
  · rw [goal] at rests
    simp [State.aimed, actOnGoal, idle, moveChannel, rests]

/-! ### SHOE and CURVE -/

theorem channel_of_reports {u t : State} (reports : ReportsOnly u t) (c : Nat) : t.channel c = u.channel c := by
  rw [State.channel, reports.expression]
  rfl

theorem sample_of_reports {u t : State} (reports : ReportsOnly u t) (shoe : Nat) : t.sample shoe = u.sample shoe := by
  rw [State.sample, reports.expression]
  rfl

/-- The channels that follow a shoe. -/
def State.followers (s : State) (shoe : Nat) : List Nat :=
  channels.filter fun c => decide ((s.channel c).record.shoe = some shoe)

theorem mem_followers {s : State} {shoe c : Nat} (inRange : c < 4) :
    c ∈ s.followers shoe ↔ (s.channel c).record.shoe = some shoe := by
  simp [State.followers, channels, inRange]

theorem followers_nodup (s : State) (shoe : Nat) : (s.followers shoe).Nodup := List.nodup_range.filter _

theorem takeSample_beyond {shoe : Nat} (beyond : 3 < shoe) (sample : Nat) (s : State) : takeSample shoe sample s = s :=
  if_neg (Nat.not_le.2 beyond)

theorem takeSample_inRange {shoe : Nat} (inRange : shoe ≤ 3) (sample : Nat) (s : State) : takeSample shoe sample s =
    forEach (s.followers shoe) recomputeGoal (s.setSample shoe (min sample 1023)) := if_pos inRange

theorem takeSample_expression (shoe sample : Nat) (s : State) :
    takeSample shoe sample s = s.setExpression (takeSample shoe sample s).expression := by
  by_cases inRange : shoe ≤ 3
  · rw [takeSample_inRange inRange]
    obtain ⟨-, -, only⟩ := recomputeGoals (followers_nodup s shoe) (s.setSample shoe (min sample 1023))
    exact only.trans rfl
  · rw [takeSample_beyond (Nat.not_le.1 inRange)]
    rfl

/-- Settles O28: the frame passes on, the sample is stored, and each channel that follows the shoe aims once. -/
theorem shoeMovesFollowingChannels : Obligations.ShoeMovesFollowingChannels := by
  intro s shoe sample up
  have passed : forwardFrame (.shoe shoe sample) (takeSample shoe.toNat sample.toNat (renewLink s)) =
      (takeSample shoe.toNat sample.toNat (renewLink s)).passing (frameBytes 0x02#8 (shoe :: wordBytes sample.toNat)) :=
    forwardFrame_eq rfl _
  have ran := (exec_shoe shoe sample s).trans (goodFrame_up up _)
  rw [passed] at ran
  have quiet := conclude_quietly s
    ((takeSample shoe.toNat sample.toNat (renewLink s)).passing (frameBytes 0x02#8 (shoe :: wordBytes sample.toNat)))
  have reports := quiet.left
  have channel (c : Nat) := channel_of_reports reports c
  have sampled (o : Nat) := sample_of_reports reports o
  refine ⟨_, ran, ?_, fun beyond => ?_, fun inRange => ?_⟩
  · rw [reports.expression]
    have only := takeSample_expression shoe.toNat sample.toNat (renewLink s)
    rw [only] at quiet ⊢
    exact quiet
  · rw [reports.expression, takeSample_beyond beyond]
    rfl
  · have taken := takeSample_inRange inRange sample.toNat (renewLink s)
    obtain ⟨channels, samples, -⟩ := recomputeGoals (followers_nodup (renewLink s) shoe.toNat)
      ((renewLink s).setSample shoe.toNat (min sample.toNat 1023))
    rw [← taken] at channels samples
    have stored (o : Nat) : (takeSample shoe.toNat sample.toNat (renewLink s)).sample o =
        if o = shoe.toNat then min sample.toNat 1023 else s.sample o := by
      rw [State.sample, samples]
      exact sample_setSample (renewLink s) _ _ _
    refine ⟨?_, fun o other => ?_, fun c few => ⟨fun ignores => ?_, fun follows => ?_⟩⟩
    · exact (sampled _).trans ((stored _).trans (if_pos rfl))
    · exact (sampled _).trans ((stored o).trans (if_neg other))
    · refine (channel c).trans ((channels c).trans (if_neg ?_))
      rw [mem_followers few]
      exact ignores
    · have aims := aimed_cases ((renewLink s).setSample shoe.toNat (min sample.toNat 1023)) c
      have own := (channel c).trans ((channels c).trans (if_pos ((mem_followers (s := renewLink s) few).2 follows)))
      have same : ((renewLink s).setSample shoe.toNat (min sample.toNat 1023)).channel c = s.channel c := rfl
      have working : ((renewLink s).setSample shoe.toNat (min sample.toNat 1023)).workingSample c =
          min sample.toNat 1023 := by
        simp only [State.workingSample, same, follows]
        exact (sample_setSample _ _ _ _).trans (if_pos rfl)
      rw [same, working, ← own] at aims
      obtain ⟨record, goal, running, moves, rests⟩ := aims
      exact ⟨record, goal, fun fits => goal ▸ fits.aims _ _, running, moves, rests⟩

theorem curveRefused_iff {c : Nat} {x : CurveRecord} {s : State} : curveRefused c x s = true ↔
    s.mode ≠ .config ∧ ¬(x.stageCount = (s.channel c).record.stageCount ∧ x.base = (s.channel c).record.base) := by
  simp only [curveRefused, State.frozen, Bool.and_eq_true, decide_eq_true_eq, Bool.not_eq_true', ← Bool.not_eq_true]

/-- The channel under a new record, before it aims. -/
def Channel.rewritten (ch : Channel) (x : CurveRecord) : Channel := { ch with record := x, stage := min ch.stage x.stageCount }

theorem writeCurve_eq (c : Nat) (x : CurveRecord) (s : State) :
    writeCurve c x s = recomputeGoal c (s.setChannel c ((s.channel c).rewritten x)) := rfl

/-- Settles O34: the record is read, the frozen fields are compared, and the channel aims under the new record. -/
theorem curveWriteActsOnChannel : Obligations.CurveWriteActsOnChannel := by
  intro s r hi lo bytes head inRange
  refine ⟨fun n bad => write_bad (exec_tableWriteCurve s) head inRange n bad, fun x ok => ⟨fun frozen differs => ?_,
    fun free => ?_⟩⟩
  · exact write_refused (exec_tableWriteCurve s) head inRange ok (curveRefused_iff.2 ⟨frozen, differs⟩)
  · obtain ⟨fits, -⟩ := readCurve_sent ok
    have taken : curveRefused (wordOf hi lo) x s = false := by
      rw [Bool.eq_false_iff, Ne, curveRefused_iff]
      rintro ⟨frozen, differs⟩
      exact free.elim frozen differs
    obtain ⟨t, ran, answered, reports⟩ := write_answers (exec_tableWriteCurve s) head inRange ok taken rfl rfl
    rw [writeCurve_eq, recomputeGoal_eq] at reports
    have aims := aimed_cases (s.setChannel (wordOf hi lo) ((s.channel (wordOf hi lo)).rewritten x)) (wordOf hi lo)
    have written : (s.setChannel (wordOf hi lo) ((s.channel (wordOf hi lo)).rewritten x)).channel (wordOf hi lo) =
        (s.channel (wordOf hi lo)).rewritten x := (channel_setChannel s _ _ _).trans (if_pos rfl)
    have own := (channel_of_reports reports (wordOf hi lo)).trans ((channel_setChannel _ _ _ _).trans (if_pos rfl))
    have working : (s.setChannel (wordOf hi lo) ((s.channel (wordOf hi lo)).rewritten x)).workingSample (wordOf hi lo) =
        match x.shoe with | some shoe => s.sample shoe | none => 0 := by
      unfold State.workingSample
      rw [written]
      cases shoe : x.shoe with
      | none => simp only [Channel.rewritten, shoe]
      | some n =>
        simp only [Channel.rewritten, shoe]
        rfl
    rw [written, working, ← own] at aims
    obtain ⟨record, goal, running, moves, rests⟩ := aims
    refine ⟨t, ran, answered, ?_, ?_, fun c other => ?_, record, goal, ?_, ?_, ?_⟩
    · have expression := reports.expression
      rw [expression]
      exact reports
    · rw [reports.expression]
      rfl
    · refine (channel_of_reports reports c).trans ((channel_setChannel _ _ _ _).trans ((if_neg other).trans ?_))
      exact (channel_setChannel _ _ _ _).trans (if_neg other)
    · rw [goal]
      exact fits.aims _ _
    · by_cases slewing : (s.channel (wordOf hi lo)).timer.isSome = true
      · rw [if_pos slewing]
        exact (running slewing).1
      · rw [if_neg slewing]
        have idle : (s.channel (wordOf hi lo)).timer = none := by simpa using slewing
        by_cases reached : (t.channel (wordOf hi lo)).goal = ((s.channel (wordOf hi lo)).rewritten x).stage
        · obtain ⟨stage, -⟩ := rests idle reached
          rw [stage, reached]
          exact (stageToward_self _).symm
        · exact (moves idle reached).1
    · by_cases slewing : (s.channel (wordOf hi lo)).timer.isSome = true
      · rw [if_pos slewing]
        exact (running slewing).2
      · rw [if_neg slewing]
        have idle : (s.channel (wordOf hi lo)).timer = none := by simpa using slewing
        by_cases reached : (t.channel (wordOf hi lo)).goal = min (s.channel (wordOf hi lo)).stage x.stageCount
        · rw [if_pos reached]
          exact (rests idle reached).2
        · rw [if_neg reached]
          exact (moves idle reached).2

end Sys2Proof.Machine
end

section
/-! PROOF. The table records stay in their ranges over every step (R3, R18, R19, R26, R74, R89, R108, R109, R123, R135,
R168): a record that is written was read from bytes, and nothing else writes one. -/

namespace Sys2Proof.Machine

/-! ### Chambers written one by one, and tables counted -/

/-- Each chamber of a list rewritten from its own value. -/
def rewriteChambers (f : Nat → Chamber → Chamber) (cs : List Nat) (s : State) : State :=
  cs.foldl (fun t c => t.setChamber c (f c (t.chamber c))) s

theorem rewriteChambers_only (f : Nat → Chamber → Chamber) (cs : List Nat) (s : State) :
    rewriteChambers f cs s = s.setChambers (rewriteChambers f cs s).chambers := by
  induction cs generalizing s with
  | nil => rfl
  | cons c rest ih => exact (ih (s.setChamber c (f c (s.chamber c)))).trans rfl

theorem rewriteChambers_chamber (f : Nat → Chamber → Chamber) {cs : List Nat} (once : cs.Nodup) (s : State) (d : Nat) :
    (rewriteChambers f cs s).chamber d = if d ∈ cs then f d (s.chamber d) else s.chamber d := by
  induction cs generalizing s with
  | nil => simp [rewriteChambers]
  | cons c rest ih =>
    obtain ⟨apart, onceRest⟩ := List.nodup_cons.1 once
    have first : rewriteChambers f (c :: rest) s = rewriteChambers f rest (s.setChamber c (f c (s.chamber c))) := rfl
    rw [first, ih onceRest, chamber_setChamber]
    by_cases own : d = c
    · subst own
      simp [apart]
    · simp [own]

/-- A table whose listed records count shows each record counted. -/
theorem Table.get_mapListed {α : Type} {f : α → α} {reset : α} (still : f reset = reset) (t : Table α) (k : Nat) :
    (t.mapListed f).get reset k = f (t.get reset k) := by
  obtain ⟨entries⟩ := t
  unfold Table.get Table.mapListed
  induction entries with
  | nil => exact still.symm
  | cons e rest ih =>
    obtain ⟨j, v⟩ := e
    simp only [List.map_cons, lookupEntry]
    split
    · rfl
    · exact ih

theorem countDown_chamber (s : State) (c : Nat) :
    (countDown s).chamber c = if c < 4 then countChamber (s.chamber c) else s.chamber c := by
  have same : (countDown s).chambers = (rewriteChambers (fun _ => countChamber) (List.range 4) s).chambers := by
    simp only [countDown, rewriteChambers]
  have counted := rewriteChambers_chamber (fun _ => countChamber) (List.nodup_range (n := 4)) s c
  rw [State.chamber, ← same] at counted
  rw [State.chamber, counted]
  simp only [List.mem_range]

theorem resetBlocks_chamber (s : State) (c : Nat) :
    (resetBlocks s).chamber c = if c < 4 then (s.chamber c).relayReset else resetChamber := by
  have same : (resetBlocks s).chambers =
      (rewriteChambers (fun c _ => (s.chamber c).relayReset) (List.range 4) State.reset).chambers := by
    simp only [resetBlocks, rewriteChambers, forEach]
  have reset := rewriteChambers_chamber (fun c _ => (s.chamber c).relayReset) (List.nodup_range (n := 4)) State.reset c
  rw [State.chamber, ← same] at reset
  rw [State.chamber, reset]
  simp only [List.mem_range]
  rfl

/-- Groups of a chamber aged by 1 ms, one after the other. -/
def Chamber.ageEach (gs : List Nat) (ch : Chamber) : Chamber := gs.foldl (fun x g => ageGroup g x) ch

theorem Chamber.ageEach_groups (gs : List Nat) (ch : Chamber) :
    ch.ageEach gs = { ch with groups := (ch.ageEach gs).groups } := by
  induction gs generalizing ch with
  | nil => rfl
  | cons g rest ih => exact ih (ageGroup g ch)

/-- The chamber 1 ms later, field by field. -/
theorem countChamber_eq (ch : Chamber) : countChamber ch =
    { ch with
      groups := (ch.ageEach (List.range 16)).groups
      windTimer := countTimer ch.windTimer
      settleTimer := countTimer ch.settleTimer
      drainTimer := countTimer ch.drainTimer
      linkTimer := countTimer ch.linkTimer
      controlAge := ch.controlAge + 1
      onTimers := ch.onTimers.mapListed countTimer } := by
  have aged : ((List.range 16).foldl (fun x g => ageGroup g x) ch) = ch.ageEach (List.range 16) := rfl
  simp only [countChamber, aged]
  rw [ch.ageEach_groups]

theorem countChamber_settings (ch : Chamber) :
    (countChamber ch).windTimeout = ch.windTimeout ∧ (countChamber ch).settle = ch.settle := by
  rw [countChamber_eq]
  exact ⟨rfl, rfl⟩

theorem countDown_route (s : State) (i : Nat) :
    (countDown s).route i = { s.route i with timer := countTimer (s.route i).timer } :=
  Table.get_mapListed (f := fun e : RouteEntry => { e with timer := countTimer e.timer }) (reset := resetRoute) rfl
    s.router.entries i

theorem countDown_channel (s : State) (c : Nat) :
    (countDown s).channel c = { s.channel c with timer := countTimer (s.channel c).timer } :=
  Table.get_mapListed (f := fun ch : Channel => { ch with timer := countTimer ch.timer }) (reset := resetChannel) rfl
    s.expression.channels c

/-! ### Two states with the same records -/

/-- The records are the same, the run-time fields of routes, channels and chambers aside. -/
structure SameRecords (s t : State) : Prop where
  ranks : t.engine.ranks = s.engine.ranks := by rfl
  stops : t.engine.stops = s.engine.stops := by rfl
  routes : ∀ i, (t.route i).fields = (s.route i).fields := by exact fun _ => rfl
  tremulants : t.pool.tremulants = s.pool.tremulants := by rfl
  curves : ∀ c, (t.channel c).record = (s.channel c).record := by exact fun _ => rfl
  memory : t.sequencer.memory = s.sequencer.memory := by rfl
  directory : t.sequencer.directory = s.sequencer.directory := by rfl
  keySettings : t.scan.keySettings = s.scan.keySettings := by rfl
  stopConfirm : t.scan.stopConfirm = s.scan.stopConfirm := by rfl
  inputConfirm : t.scan.inputConfirm = s.scan.inputConfirm := by rfl
  chambers : ∀ c, (t.chamber c).windTimeout = (s.chamber c).windTimeout ∧ (t.chamber c).settle = (s.chamber c).settle :=
    by exact fun _ => ⟨rfl, rfl⟩
  lamps : t.status.lamps = s.status.lamps := by rfl

theorem RecordsInRange.congr {s t : State} (sound : RecordsInRange s) (same : SameRecords s t) : RecordsInRange t where
  ranks r := by rw [State.rank, same.ranks]; exact sound.ranks r
  stops n := by rw [State.stop, same.stops]; exact sound.stops n
  routes i := by rw [same.routes]; exact sound.routes i
  tremulants n := by rw [State.tremulant, same.tremulants]; exact sound.tremulants n
  curves c := by rw [same.curves]; exact sound.curves c
  steps i := by rw [State.stepRecord, same.memory]; exact sound.steps i
  sequences q := by rw [State.seqEntry, same.directory]; exact sound.sequences q
  keyRows r := by rw [State.keySetting, same.keySettings]; exact sound.keyRows r
  confirms := by rw [same.stopConfirm, same.inputConfirm]; exact sound.confirms
  chambers c := by
    obtain ⟨wind, settle⟩ := same.chambers c
    rw [wind, settle]
    exact sound.chambers c
  lamps n := by rw [State.lamp, same.lamps]; exact sound.lamps n

/-! ### What every part of a command keeps -/

theorem records_keptByTraffic : KeptByTraffic RecordsInRange where
  ported _ _ sound := sound.congr {}
  extended _ _ sound := sound.congr {}
  freed _ _ sound := sound.congr {}
  flagged _ _ _ lamps sound := sound.congr { lamps := lamps }
  sampled _ _ _ sound := sound.congr {}
  channelled s c x record sound := sound.congr
    { curves := fun d => by
        rw [channel_setChannel]
        split
        case isTrue own => rw [own]; exact record
        case isFalse => rfl }

theorem chamber_settings_kept {s : State} {c : Nat} {x : Chamber} (wind : x.windTimeout = (s.chamber c).windTimeout)
    (settle : x.settle = (s.chamber c).settle) : SameRecords s (s.setChamber c x) where
  chambers d := by
    rw [chamber_setChamber]
    split
    case isTrue own => rw [own]; exact ⟨wind, settle⟩
    case isFalse => exact ⟨rfl, rfl⟩

theorem route_setRoute (s : State) (i j : Nat) (x : RouteEntry) :
    (s.setRoute i x).route j = if j = i then x else s.route j := Table.get_put _ _ _ _ _

theorem records_keptByPlaying : KeptByPlaying RecordsInRange where
  toKeptByLatches := records_keptByTraffic.reports.latches
  counted _ _ _ sound := sound.congr {}
  guarded _ _ _ step sound := sound.congr (chamber_settings_kept (by rw [step.1]) (by rw [step.1]))
  pizzed _ _ _ sound := sound.congr {}
  pooled _ _ same sound := sound.congr { tremulants := same }
  played _ _ _ _ sound := sound.congr {}
  routed s i x fields sound := sound.congr
    { routes := fun j => by
        rw [route_setRoute]
        split
        case isTrue own => rw [own]; exact fields
        case isFalse => rfl }
  demanded _ _ sound := sound.congr {}
  asked _ _ sound := sound.congr {}
  listed _ _ sound := sound.congr {}
  holding _ _ _ sound := sound.congr {}
  rowed _ kind _ _ _ sound := by cases kind <;> exact sound.congr {}

theorem records_keptByChambers : KeptByChambers RecordsInRange where
  toKeptByLatches := records_keptByTraffic.reports.latches
  written _ _ _ step sound := sound.congr (chamber_settings_kept step.1 step.2.1)

theorem records_keptByServing : KeptByServing RecordsInRange where
  reports := records_keptByTraffic.reports
  effects := records_keptByPlaying.toKeptByEffects
  chambers := records_keptByChambers
  moded := records_keptByPlaying.modeSet fun _ _ sound => sound.congr {}
  released := records_keptByPlaying.generalRelease
  unheld := records_keptByPlaying.emptyTuningHolds
  holding _ _ _ _ sound := sound.congr {}
  latched _ _ sound := sound.congr {}
  masked _ _ _ sound := sound.congr {}
  selected _ _ sound := sound.congr {}
  stop s n x _ read _ _ sound :=
    { sound with
      stops := fun m => by
        rw [State.stop, State.setStop, State.setEngine_engine, Table.get_put]
        split
        · exact readStop_fits read
        · exact sound.stops m }
  rank s r x _ read sound :=
    { sound with
      ranks := fun q => by
        rw [rank_setRank]
        split
        · exact (readRank_sent read).1
        · exact sound.ranks q }
  route s i x _ fits sound :=
    { sound with
      routes := fun j => by
        rw [route_setRoute]
        split
        · exact fits (sound.routes i)
        · exact sound.routes j }
  tremulant s n x _ read sound :=
    { sound with
      tremulants := fun m => by
        rw [State.tremulant, State.setTremulant, State.setPool_pool, Table.get_put]
        split
        · exact (readTremulant_sent read).1
        · exact sound.tremulants m }
  curve s c x _ read sound :=
    { sound with
      curves := fun d => by
        rw [writeCurve_eq, recomputeGoal_eq, channel_setChannel]
        split
        · obtain ⟨record, -⟩ := aimed_cases (s.setChannel c ((s.channel c).rewritten x)) c
          rw [record, channel_setChannel, if_pos rfl]
          exact (readCurve_sent read).1
        · rw [channel_setChannel]
          split
          · exact (readCurve_sent read).1
          · exact sound.curves d }
  sequence s q x _ read sound :=
    { sound with
      sequences := fun p => by
        rw [State.seqEntry, State.setSeqEntry, State.setSequencer_sequencer, Table.get_put]
        split
        · exact readSeqEntry_fits read
        · exact sound.sequences p }
  sequenceStep s i x _ read sound :=
    { sound with
      steps := fun j => by
        rw [State.stepRecord, State.setStepRecord, State.setSequencer_sequencer, Table.get_put]
        split
        · exact (readStep_sent read).1
        · exact sound.steps j }
  keyRow s r x _ read sound := by
    have written : RecordsInRange (s.setKeySetting r x) :=
      { sound with
        keyRows := fun q => by
          rw [State.keySetting, State.setKeySetting, State.setScan_scan, Table.get_put]
          split
          · exact (readKeySetting_sent read).1
          · exact sound.keyRows q }
    simp only [writeKeySetting]
    split
    · exact written
    · exact records_keptByPlaying.handRun _ _ _ _ (records_keptByPlaying.rowed _ .key _ _ (by decide) written)
  stopConfirm s n _ read sound := { sound with confirms := ⟨(readConfirm_sent read).1, sound.confirms.2⟩ }
  inputConfirm s n _ read sound := { sound with confirms := ⟨sound.confirms.1, (readConfirm_sent read).1⟩ }
  chamber s c x _ read sound :=
    { sound with
      chambers := fun d => by
        rw [takeChamberRecord, chamber_setChamber]
        split
        · exact (readChamber_sent read).1
        · exact sound.chambers d }
  lamp s n x _ read sound :=
    { sound with
      lamps := fun m => by
        rw [State.lamp, State.setLamp, State.setStatus_status, Table.get_put]
        split
        · exact (readLamp_sent read).1
        · exact sound.lamps m }

theorem records_scan (kind r : Nat) (image : Image) (s : State) (sound : RecordsInRange s) :
    RecordsInRange (takeScan kind r image s) :=
  records_keptByPlaying.anyScan (fun _ _ _ sound => sound.congr {}) kind r image s sound

theorem records_loss (s : State) (sound : RecordsInRange s) : RecordsInRange (scanLinkLoss s) :=
  records_keptByPlaying.linkLoss (fun _ _ _ sound => sound.congr {}) s sound

theorem relayReset_settings (ch : Chamber) : ch.relayReset.windTimeout = 15 ∧ ch.relayReset.settle = 300 := ⟨rfl, rfl⟩

theorem records_resetBlocks (s : State) : RecordsInRange (resetBlocks s) := by
  refine recordsInRange_reset.congr { chambers := fun c => ?_ }
  rw [resetBlocks_chamber]
  split
  · exact relayReset_settings _
  · exact ⟨rfl, rfl⟩

theorem RecordsInRange.countDown {s : State} (sound : RecordsInRange s) : RecordsInRange (countDown s) := by
  refine sound.congr {
    routes := fun i => (congrArg RouteEntry.fields (countDown_route s i)).trans rfl
    curves := fun c => (congrArg Channel.record (countDown_channel s c)).trans rfl
    chambers := fun c => ?_ }
  rw [countDown_chamber]
  split
  · exact countChamber_settings _
  · exact ⟨rfl, rfl⟩

theorem exec_keeps_records (i : Instr) (s t : State) (ran : exec i s = .next t) (sound : RecordsInRange s) :
    RecordsInRange t :=
  exec_keeps records_keptByTraffic.reports records_keptByChambers
    (fun _ _ _ act sound => act_keeps records_keptByTraffic records_keptByPlaying.toKeptByEffects records_keptByChambers
      records_scan records_loss act sound)
    (fun _ _ serves sound => records_keptByServing.serves serves sound) (fun _ sound => sound.congr {})
    (fun _ _ _ => recordsInRange_reset.congr {}) (fun s _ => records_resetBlocks s) i s t ran sound

/-- Settles O6: every command, and the counting of a tick, keeps the records in their ranges. -/
theorem recordsStayInRange : Obligations.RecordsStayInRange := fun _ _ sound stepped =>
  step_keeps exec_keeps_records (fun _ sound => sound.countDown) records_keptByChambers.transmitAll
    (fun _ _ sound => sound.congr {}) sound stepped

end Sys2Proof.Machine
end

section
/-! PROOF. What playing touches. Each operation that plays is given with the parts of the state that it can touch; everything
else stands, and what every one of them keeps, whatever it touches, is said once. -/

namespace Sys2Proof.Machine

/-! ### The parts -/

/-- The parts of the state that playing can touch. -/
inductive Part where
  | report (i : StatusItem)
  | count
  | guard
  | pizz
  | hold
  | strike
  | generator
  | demand
  | tremDemand
  | waiting
  | player
  | route
  | maskDemand
  | ask
  | active
  | mode
  | row (kind : RowKind)
  deriving DecidableEq

/-! ### What a latch puts out (R167) -/

/-- From `s` to `t` flags have been latched and what that puts out has been put out: while a request is being served the NOTICE
is held, and otherwise one NOTICE is queued where attention has risen. -/
structure Announces (s t : State) : Prop where
  requests : t.port.requests = s.port.requests
  masked : t.status.masked = s.status.masked
  strap : t.status.strap = s.status.strap
  rises : ∀ i, s.latched i = true → t.latched i = true
  level : s.port.requests = [] → (s.attention = true ∨ s.port.returnQueue.length < Config.returnCapacity) →
    t.attention = s.attention → t.outgoing = s.outgoing ∧ t.port.returnQueue.length ≤ s.port.returnQueue.length
  risen : s.port.requests = [] → s.attention = false → s.port.returnQueue.length < Config.returnCapacity →
    t.attention = true → ∃ f : UpFrame, f.isNotice = true ∧ f.isLamp = false ∧ t.outgoing = s.outgoing ++ [f] ∧
      t.port.returnQueue.length ≤ s.port.returnQueue.length + 1
  serving : s.port.requests ≠ [] → t.port = s.port ∧
    t.status.heldNotice = (s.status.heldNotice || (!s.attention && t.attention))

theorem attention_eq_any {s t : State} (masked : t.status.masked = s.status.masked)
    (rises : ∀ i, s.latched i = true → t.latched i = true) (raised : s.attention = true) : t.attention = true := by
  obtain ⟨i, known, up⟩ := List.any_eq_true.1 raised
  refine List.any_eq_true.2 ⟨i, known, ?_⟩
  simp only [State.raised, Bool.and_eq_true, Bool.not_eq_true'] at up ⊢
  exact ⟨rises i up.1, (congrArg (fun m => Table.get m false (itemIndex i)) masked).trans up.2⟩

theorem attention_congr {s t : State} (latched : t.status.latched = s.status.latched)
    (masked : t.status.masked = s.status.masked) : t.attention = s.attention := by
  have raised : t.raised = s.raised := by
    funext i
    simp only [State.raised, State.latched, State.maskedItem, latched, masked]
  unfold State.attention
  rw [raised]

namespace Announces

theorem of_same {s t : State} (port : t.port = s.port) (latched : t.status.latched = s.status.latched)
    (masked : t.status.masked = s.status.masked) (strap : t.status.strap = s.status.strap)
    (held : t.status.heldNotice = s.status.heldNotice) : Announces s t where
  requests := by rw [port]
  masked := masked
  strap := strap
  rises i set := (latched_of_status latched i).trans set
  level _ _ _ := by simp [State.outgoing, port]
  risen _ low _ high := by
    rw [attention_congr latched masked, low] at high
    exact absurd high (by decide)
  serving _ := by
    refine ⟨port, ?_⟩
    rw [held, attention_congr latched masked]
    cases s.attention <;> simp

theorem refl (s : State) : Announces s s := of_same rfl rfl rfl rfl rfl

theorem attention {s t : State} (a : Announces s t) (raised : s.attention = true) : t.attention = true :=
  attention_eq_any a.masked a.rises raised

theorem trans {s t u : State} (a : Announces s t) (b : Announces t u) : Announces s u where
  requests := b.requests.trans a.requests
  masked := b.masked.trans a.masked
  strap := b.strap.trans a.strap
  rises i set := b.rises i (a.rises i set)
  level none room same := by
    have none' : t.port.requests = [] := a.requests.trans none
    have between : t.attention = s.attention := by
      cases low : s.attention with
      | true => exact a.attention low
      | false =>
        cases mid : t.attention with
        | true => exact absurd ((b.attention mid).symm.trans (same.trans low)) (by decide)
        | false => rfl
    obtain ⟨out, queue⟩ := a.level none room between
    have room' : t.attention = true ∨ t.port.returnQueue.length < Config.returnCapacity :=
      room.imp (fun high => between.trans high) (fun few => lt_of_le_of_lt queue few)
    obtain ⟨out', queue'⟩ := b.level none' room' (same.trans between.symm)
    exact ⟨out'.trans out, queue'.trans queue⟩
  risen none low room high := by
    have none' : t.port.requests = [] := a.requests.trans none
    cases mid : t.attention with
    | true =>
      obtain ⟨f, notice, dark, out, queue⟩ := a.risen none low room mid
      obtain ⟨out', queue'⟩ := b.level none' (.inl mid) (high.trans mid.symm)
      exact ⟨f, notice, dark, out'.trans out, queue'.trans queue⟩
    | false =>
      obtain ⟨out, queue⟩ := a.level none (.inr room) (mid.trans low.symm)
      obtain ⟨f, notice, dark, out', queue'⟩ := b.risen none' mid (lt_of_le_of_lt queue room) high
      exact ⟨f, notice, dark, by rw [out', out], queue'.trans (Nat.add_le_add_right queue 1)⟩
  serving some := by
    obtain ⟨port, held⟩ := a.serving some
    obtain ⟨port', held'⟩ := b.serving (by rw [a.requests]; exact some)
    refine ⟨port'.trans port, ?_⟩
    rw [held', held]
    have up := a.attention
    have up' := b.attention
    revert up up'
    cases s.attention <;> cases t.attention <;> cases u.attention <;> simp

end Announces

theorem setFlag_rises (i : StatusItem) (s : State) (j : StatusItem) (set : s.latched j = true) :
    (setFlag i s).latched j = true := by rw [setFlag_latched, set, ite_self]

theorem latch_rises (i : StatusItem) (s : State) (j : StatusItem) (set : s.latched j = true) :
    (latch i s).latched j = true := by
  have kept : KeptByReports (fun t => t.latched j = true) :=
    { offered := fun f t set => by
        by_cases room : t.port.returnQueue.length < Config.returnCapacity
        · rw [latched_of_status (congrArg Status.latched (offer_status_of_room room f))]
          exact set
        · rw [offer_full f t room]
          simp only [overrun]
          split <;> exact setFlag_rises _ t j set
      flagged := fun i t set => setFlag_rises i t j set
      held := fun _ _ _ set => set }
  exact kept.latch i s set

theorem latch_announces (i : StatusItem) (s : State) : Announces s (latch i s) := by
  have settings := latch_status i s
  have flagPort : (setFlag i s).port = s.port := setFlag_port i s
  have masked : (latch i s).status.masked = s.status.masked := by rw [settings]
  have up : s.attention = true → (setFlag i s).attention = true :=
    attention_eq_any (by rw [setFlag_status i s]) (setFlag_rises i s)
  constructor
  case requests => exact latch_requests i s
  case masked => exact masked
  case strap => rw [settings]
  case rises => exact latch_rises i s
  case level =>
    intro none room same
    by_cases rise : (setFlag i s).attention && !s.attention
    · have high : (latch i s).attention = true := by
        refine attention_eq_any (s := setFlag i s) (by rw [masked, setFlag_status i s]) ?_ (by simp_all)
        intro j set
        unfold latch announce
        rw [if_pos rise]
        split
        · exact set
        · by_cases few : (setFlag i s).port.returnQueue.length < Config.returnCapacity
          · rw [latched_of_status (congrArg Status.latched (offer_status_of_room few _))]
            exact set
          · rw [offer_full _ _ few]
            simp only [overrun]
            split <;> exact setFlag_rises _ _ j set
      rw [high] at same
      simp [← same] at rise
    · have quiet : latch i s = setFlag i s := by
        unfold latch announce
        rw [if_neg rise]
      rw [quiet]
      simp [State.outgoing, flagPort]
  case risen =>
    intro none low room high
    have rise : (setFlag i s).attention = true := by
      by_contra down
      have quiet : latch i s = setFlag i s := by
        unfold latch announce
        rw [if_neg (by simp [down])]
      exact down (quiet ▸ high)
    have idle : (setFlag i s).serving = false := by simp [State.serving, flagPort, none]
    have few : (setFlag i s).port.returnQueue.length < Config.returnCapacity := by rw [flagPort]; exact room
    have offered : latch i s = offer (setFlag i s).noticeFrame (setFlag i s) := by
      simp [latch, announce, rise, low, idle]
    refine ⟨(setFlag i s).noticeFrame, rfl, rfl, ?_, ?_⟩
    · rw [offered, offer_outgoing _ _ few]
      simp [State.outgoing, flagPort]
    · have length := congrArg List.length (offer_outgoing (setFlag i s).noticeFrame _ few)
      rw [← offered] at length
      have line : s.port.line.toList.length ≤ (latch i s).port.line.toList.length := by
        rw [offered, offer, if_pos few]
        unfold startLine
        split
        next f rest free queue => simp_all
        next => simp [flagPort]
      simp only [State.outgoing, List.length_append, List.length_map, flagPort, List.length_singleton] at length
      omega
  case serving =>
    intro some
    have busy : (setFlag i s).serving = true := by simp [State.serving, flagPort, some]
    refine ⟨?_, ?_⟩
    · exact (port_keptByLatches some).latch i s rfl
    · unfold latch announce
      by_cases rise : (setFlag i s).attention && !s.attention
      · rw [if_pos rise, if_pos busy]
        have same : ((setFlag i s).setStatus { (setFlag i s).status with heldNotice := true }).attention =
            (setFlag i s).attention := attention_congr rfl rfl
        simp only [Bool.and_eq_true, Bool.not_eq_true'] at rise
        rw [same, rise.1, rise.2]
        simp
      · rw [if_neg rise]
        have held : (setFlag i s).status.heldNotice = s.status.heldNotice := by
          simp only [setFlag]; split <;> rfl
        rw [held]
        revert rise
        cases s.attention <;> cases (setFlag i s).attention <;> simp

end Sys2Proof.Machine
end

section
/-! PROOF. What playing touches, operation by operation: the claims and the pool, couplings, players, routes, rows and modes. -/

namespace Sys2Proof.Machine

/-! ### The relation -/

/-- `t` comes from `s` by playing that touches no parts but those of `A`. -/
structure Touches (A : List Part) (s t : State) : Prop where
  pending : t.pending = s.pending
  ext : t.ext = s.ext
  expression : t.expression = s.expression
  freeCount : t.freeCount = s.freeCount
  port : t.port = { s.port with returnQueue := t.port.returnQueue, line := t.port.line }
  announces : Announces s t
  scan : t.scan = { s.scan with
    keyRows := t.scan.keyRows
    stopRows := t.scan.stopRows
    inputRows := t.scan.inputRows
    releaseDue := t.scan.releaseDue }
  rows : ∀ kind, .row kind ∉ A → ∀ r, t.row kind r = s.row kind r
  scanned : (∀ kind, .row kind ∉ A) → .ask ∉ A → t.scan = s.scan
  asked : .ask ∉ A → t.scan.releaseDue = s.scan.releaseDue
  engine : t.engine = { s.engine with active := t.engine.active }
  active : .active ∉ A → t.engine.active = s.engine.active
  counts : .count ∉ A → t.claims.counts = s.claims.counts
  pizz : .pizz ∉ A → t.claims.pizz = s.claims.pizz
  holds : .hold ∉ A → t.claims.holds = s.claims.holds
  strikes : .strike ∉ A → t.pool.strikes = s.pool.strikes
  demand : .demand ∉ A → t.pool.demand = s.pool.demand
  generators : .generator ∉ A → t.pool.generators = s.pool.generators
  tremulants : t.pool.tremulants = s.pool.tremulants
  tremDemand : .tremDemand ∉ A → t.pool.tremDemand = s.pool.tremDemand
  waiting : .waiting ∉ A → t.pool.waiting = s.pool.waiting
  routes : .route ∉ A → t.router.entries = s.router.entries
  fields : ∀ i, (t.route i).fields = (s.route i).fields
  maskDemand : .maskDemand ∉ A → t.router.maskDemand = s.router.maskDemand
  memory : t.sequencer.memory = s.sequencer.memory
  directory : t.sequencer.directory = s.sequencer.directory
  players : .player ∉ A → t.sequencer.players = s.sequencer.players
  chambers : .guard ∉ A → t.chambers = s.chambers
  chamber : ∀ c, (s.chamber c).guardStep (t.chamber c)
  mode : .mode ∉ A → t.status.mode = s.status.mode
  status : t.status = { s.status with
    mode := t.status.mode
    latched := t.status.latched
    stretch := t.status.stretch
    heldNotice := t.status.heldNotice }
  flags : ∀ j, itemIndex j ≠ itemIndex .returnOverrun → (∀ i, .report i ∈ A → itemIndex i ≠ itemIndex j) →
    t.latched j = s.latched j
  bounded : ListsBounded s → ListsBounded t

theorem latch_heldLamps (i : StatusItem) (s : State) : (latch i s).status.heldLamps = s.status.heldLamps := by
  have flag : ∀ (j : StatusItem) (t : State), (setFlag j t).status.heldLamps = t.status.heldLamps := by
    intro j t
    simp only [setFlag]
    split <;> rfl
  unfold latch announce
  split
  · split
    · exact flag i s
    · refine Eq.trans ?_ (flag i s)
      unfold offer
      split
      · rw [startLine_status]
        rfl
      · simp only [overrun]
        split <;> exact flag _ _
  · exact flag i s

theorem latch_latched_other {i j : StatusItem} (own : itemIndex j ≠ itemIndex .returnOverrun)
    (apart : itemIndex i ≠ itemIndex j) (s : State) : (latch i s).latched j = s.latched j := by
  have flag : (setFlag i s).latched j = s.latched j := by rw [setFlag_latched, if_neg (Ne.symm apart)]
  unfold latch announce
  split
  · split
    · exact flag
    · refine Eq.trans ?_ flag
      unfold offer
      split
      · exact latched_of_status (by rw [startLine_status]; rfl) j
      · have full : (setFlag .returnOverrun (setFlag i s)).latched j = (setFlag i s).latched j := by
          rw [setFlag_latched, if_neg own]
        simp only [overrun]
        split <;> exact full
  · exact flag

/-- The bounds, where the lists have not grown and the waiting set stands. -/
theorem ListsBounded.of_shorter {s t : State} (pizz : t.claims.pizz.length ≤ s.claims.pizz.length)
    (holds : t.claims.holds.length ≤ s.claims.holds.length) (players : t.sequencer.players = s.sequencer.players)
    (ciphers : ∀ c, (t.chamber c).ciphers.length ≤ (s.chamber c).ciphers.length)
    (waiting : t.pool.waiting = s.pool.waiting) (bounded : ListsBounded s) : ListsBounded t where
  pizz := pizz.trans bounded.pizz
  holds := holds.trans bounded.holds
  players n run playing := bounded.players n run ((congrArg (fun p => Table.get p none n) players).symm.trans playing)
  ciphers c := (ciphers c).trans (bounded.ciphers c)
  waiting := by rw [waiting]; exact bounded.waiting

theorem Chamber.guardStep.refl (a : Chamber) : a.guardStep a := ⟨rfl, le_refl _⟩

theorem Chamber.guardStep.trans {a b c : Chamber} (first : a.guardStep b) (second : b.guardStep c) : a.guardStep c := by
  obtain ⟨only, shorter⟩ := first
  obtain ⟨only', shorter'⟩ := second
  exact ⟨by rw [only', only], shorter'.trans shorter⟩

theorem row_setRow (kind other : RowKind) (r q : Nat) (x : Row) (s : State) :
    (s.setRow kind r x).row other q = if other = kind ∧ q = r then x else s.row other q := by
  cases kind <;> cases other <;> simp [State.setRow, State.row, Table.get_put]

namespace Touches

variable {A B : List Part} {s t u : State}

theorem refl (s : State) : Touches A s s where
  pending := rfl
  ext := rfl
  expression := rfl
  freeCount := rfl
  port := rfl
  announces := .refl s
  scan := rfl
  rows _ _ _ := rfl
  scanned _ _ := rfl
  asked _ := rfl
  engine := rfl
  active _ := rfl
  counts _ := rfl
  pizz _ := rfl
  holds _ := rfl
  strikes _ := rfl
  demand _ := rfl
  generators _ := rfl
  tremulants := rfl
  tremDemand _ := rfl
  waiting _ := rfl
  routes _ := rfl
  fields _ := rfl
  maskDemand _ := rfl
  memory := rfl
  directory := rfl
  players _ := rfl
  chambers _ := rfl
  chamber _ := .refl _
  mode _ := rfl
  status := rfl
  flags _ _ _ := rfl
  bounded hs := hs

theorem trans (a : Touches A s t) (b : Touches A t u) : Touches A s u where
  pending := b.pending.trans a.pending
  ext := b.ext.trans a.ext
  expression := b.expression.trans a.expression
  freeCount := b.freeCount.trans a.freeCount
  port := by rw [b.port, a.port]
  announces := a.announces.trans b.announces
  scan := by rw [b.scan, a.scan]
  rows kind apart r := (b.rows kind apart r).trans (a.rows kind apart r)
  scanned rows ask := (b.scanned rows ask).trans (a.scanned rows ask)
  asked apart := (b.asked apart).trans (a.asked apart)
  engine := by rw [b.engine, a.engine]
  active apart := (b.active apart).trans (a.active apart)
  counts apart := (b.counts apart).trans (a.counts apart)
  pizz apart := (b.pizz apart).trans (a.pizz apart)
  holds apart := (b.holds apart).trans (a.holds apart)
  strikes apart := (b.strikes apart).trans (a.strikes apart)
  demand apart := (b.demand apart).trans (a.demand apart)
  generators apart := (b.generators apart).trans (a.generators apart)
  tremulants := b.tremulants.trans a.tremulants
  tremDemand apart := (b.tremDemand apart).trans (a.tremDemand apart)
  waiting apart := (b.waiting apart).trans (a.waiting apart)
  routes apart := (b.routes apart).trans (a.routes apart)
  fields i := (b.fields i).trans (a.fields i)
  maskDemand apart := (b.maskDemand apart).trans (a.maskDemand apart)
  memory := b.memory.trans a.memory
  directory := b.directory.trans a.directory
  players apart := (b.players apart).trans (a.players apart)
  chambers apart := (b.chambers apart).trans (a.chambers apart)
  chamber c := (a.chamber c).trans (b.chamber c)
  mode apart := (b.mode apart).trans (a.mode apart)
  status := by rw [b.status, a.status]
  flags j own apart := (b.flags j own apart).trans (a.flags j own apart)
  bounded hs := b.bounded (a.bounded hs)

theorem mono (a : Touches A s t) (sub : A ⊆ B) : Touches B s t :=
  { a with
    rows := fun kind apart => a.rows kind (fun h => apart (sub h))
    scanned := fun rows ask => a.scanned (fun kind h => rows kind (sub h)) (fun h => ask (sub h))
    asked := fun apart => a.asked (fun h => apart (sub h))
    active := fun apart => a.active (fun h => apart (sub h))
    counts := fun apart => a.counts (fun h => apart (sub h))
    pizz := fun apart => a.pizz (fun h => apart (sub h))
    holds := fun apart => a.holds (fun h => apart (sub h))
    strikes := fun apart => a.strikes (fun h => apart (sub h))
    demand := fun apart => a.demand (fun h => apart (sub h))
    generators := fun apart => a.generators (fun h => apart (sub h))
    tremDemand := fun apart => a.tremDemand (fun h => apart (sub h))
    waiting := fun apart => a.waiting (fun h => apart (sub h))
    routes := fun apart => a.routes (fun h => apart (sub h))
    maskDemand := fun apart => a.maskDemand (fun h => apart (sub h))
    players := fun apart => a.players (fun h => apart (sub h))
    chambers := fun apart => a.chambers (fun h => apart (sub h))
    mode := fun apart => a.mode (fun h => apart (sub h))
    flags := fun j own apart => a.flags j own (fun i h => apart i (sub h)) }

/-- Operations of a list, one after the other. -/
theorem forEach {α : Type} {f : α → State → State} (each : ∀ x s, Touches A s (f x s)) (xs : List α) (s : State) :
    Touches A s (Machine.forEach xs f s) :=
  forEach_keeps (P := fun t => Touches A s t) (fun x _ touched => touched.trans (each x _)) xs s (.refl s)

/-! ### Single writes -/

theorem latch {i : StatusItem} (mem : .report i ∈ A) (s : State) : Touches A s (Machine.latch i s) :=
  have settings := latch_status i s
  have kept : KeptByReports (fun t => t.port =
      { s.port with returnQueue := t.port.returnQueue, line := t.port.line }) :=
    { offered := fun f t same => by rw [offer_port, same]
      flagged := fun i t same => by rw [setFlag_port]; exact same
      held := fun _ _ _ same => same }
  { (refl s : Touches A s s) with
    pending := latch_pending i s
    ext := latch_ext i s
    expression := latch_expression i s
    freeCount := latch_freeCount i s
    port := kept.latch i s rfl
    announces := latch_announces i s
    scan := by rw [latch_scan]
    rows := fun kind _ r => by cases kind <;> simp [State.row]
    scanned := fun _ _ => latch_scan i s
    asked := fun _ => by rw [latch_scan]
    engine := by rw [latch_engine]
    active := fun _ => by rw [latch_engine]
    counts := fun _ => by rw [latch_claims]
    pizz := fun _ => by rw [latch_claims]
    holds := fun _ => by rw [latch_claims]
    strikes := fun _ => by rw [latch_pool]
    demand := fun _ => by rw [latch_pool]
    generators := fun _ => by rw [latch_pool]
    tremulants := by rw [latch_pool]
    tremDemand := fun _ => by rw [latch_pool]
    waiting := fun _ => by rw [latch_pool]
    routes := fun _ => by rw [latch_router]
    fields := fun j => by simp [State.route]
    maskDemand := fun _ => by rw [latch_router]
    memory := by rw [latch_sequencer]
    directory := by rw [latch_sequencer]
    players := fun _ => by rw [latch_sequencer]
    chambers := fun _ => latch_chambers i s
    chamber := fun c => by
      have same : (Machine.latch i s).chamber c = s.chamber c := by simp [State.chamber]
      rw [same]
      exact .refl _
    mode := fun _ => by rw [settings]
    status := by rw [settings, latch_heldLamps, settings]
    flags := fun j own apart => latch_latched_other own (apart i mem) s
    bounded := .of_shorter (by rw [latch_claims]) (by rw [latch_claims]) (by rw [latch_sequencer])
      (fun c => by simp [State.chamber]) (by rw [latch_pool]) }

/-- The bounds, where the chambers stand. -/
theorem bounded_of {s t : State} (pizz : t.claims.pizz.length ≤ s.claims.pizz.length)
    (holds : t.claims.holds.length ≤ s.claims.holds.length) (players : t.sequencer.players = s.sequencer.players)
    (chambers : t.chambers = s.chambers) (waiting : t.pool.waiting = s.pool.waiting) : ListsBounded s → ListsBounded t :=
  .of_shorter pizz holds players (fun c => by unfold State.chamber; rw [chambers]) waiting

theorem setClaimCount (mem : .count ∈ A) (p : Point) (n : Nat) (s : State) : Touches A s (s.setClaimCount p n) :=
  { (refl s : Touches A s s) with
    announces := .of_same rfl rfl rfl rfl rfl
    counts := fun apart => absurd mem apart
    bounded := bounded_of (le_refl _) (le_refl _) rfl rfl rfl }

theorem setPizz (mem : .pizz ∈ A) (l : List PizzEntry) (s : State)
    (few : l.length ≤ max s.claims.pizz.length Config.pizzCapacity) :
    Touches A s (s.setClaims { s.claims with pizz := l }) :=
  { (refl s : Touches A s s) with
    announces := .of_same rfl rfl rfl rfl rfl
    pizz := fun apart => absurd mem apart
    bounded := fun bounded => { bounded with pizz := few.trans (max_le bounded.pizz (le_refl _)) } }

theorem setHolds (mem : .hold ∈ A) (l : List Point) (s : State) (few : l.length ≤ s.claims.holds.length) :
    Touches A s (s.setClaims { s.claims with holds := l }) :=
  { (refl s : Touches A s s) with
    announces := .of_same rfl rfl rfl rfl rfl
    holds := fun apart => absurd mem apart
    bounded := bounded_of (le_refl _) few rfl rfl rfl }

theorem setStrikes (mem : .strike ∈ A) (x : Table (Option Nat)) (s : State) :
    Touches A s (s.setPool { s.pool with strikes := x }) :=
  { (refl s : Touches A s s) with
    announces := .of_same rfl rfl rfl rfl rfl
    strikes := fun apart => absurd mem apart
    bounded := bounded_of (le_refl _) (le_refl _) rfl rfl rfl }

theorem setStrikeTimer (mem : .strike ∈ A) (p : Point) (x : Option Nat) (s : State) :
    Touches A s (s.setStrikeTimer p x) := setStrikes mem _ s

theorem setGenerator (mem : .generator ∈ A) (g : Nat) (x : Option Service) (s : State) :
    Touches A s (s.setGenerator g x) :=
  { (refl s : Touches A s s) with
    announces := .of_same rfl rfl rfl rfl rfl
    generators := fun apart => absurd mem apart
    bounded := bounded_of (le_refl _) (le_refl _) rfl rfl rfl }

theorem setDemand (mem : .demand ∈ A) (p : Point) (n : Nat) (s : State) : Touches A s (s.setDemand p n) :=
  { (refl s : Touches A s s) with
    announces := .of_same rfl rfl rfl rfl rfl
    demand := fun apart => absurd mem apart
    bounded := bounded_of (le_refl _) (le_refl _) rfl rfl rfl }

theorem setTremulantDemand (mem : .tremDemand ∈ A) (k n : Nat) (s : State) :
    Touches A s (s.setTremulantDemand k n) :=
  { (refl s : Touches A s s) with
    announces := .of_same rfl rfl rfl rfl rfl
    tremDemand := fun apart => absurd mem apart
    bounded := bounded_of (le_refl _) (le_refl _) rfl rfl rfl }

theorem putWaiting (mem : .waiting ∈ A) (k : Nat) (b : Bool) (s : State) :
    Touches A s (s.setPool { s.pool with waiting := s.pool.waiting.put false k b }) :=
  { (refl s : Touches A s s) with
    announces := .of_same rfl rfl rfl rfl rfl
    waiting := fun apart => absurd mem apart
    bounded := fun bounded => { bounded with waiting := Table.wf_put bounded.waiting k b } }

theorem setPlayer (mem : .player ∈ A) (n : Nat) (x : Option Run) (s : State) (step : holdsStep (s.player n) x) :
    Touches A s (s.setPlayer n x) :=
  { (refl s : Touches A s s) with
    announces := .of_same rfl rfl rfl rfl rfl
    players := fun apart => absurd mem apart
    bounded := fun bounded => { bounded with
      players := fun m run playing => by
        by_cases same : m = n
        · subst same
          have playing' : x = some run := (Table.get_put_same _ _ _ _).symm.trans playing
          obtain few | ⟨old, was, fewer⟩ := step run playing'
          · exact few
          · exact fewer.trans (bounded.players m old was)
        · exact bounded.players m run ((Table.get_put_other _ _ _ same).symm.trans playing) } }

theorem setRoute (mem : .route ∈ A) (i : Nat) (x : RouteEntry) (s : State) (same : x.fields = (s.route i).fields) :
    Touches A s (s.setRoute i x) :=
  { (refl s : Touches A s s) with
    announces := .of_same rfl rfl rfl rfl rfl
    routes := fun apart => absurd mem apart
    fields := fun j => by
      rw [route_setRoute]
      split
      · subst_vars
        exact same
      · rfl
    bounded := bounded_of (le_refl _) (le_refl _) rfl rfl rfl }

theorem setMaskDemands (mem : .maskDemand ∈ A) (x : Table Nat) (s : State) :
    Touches A s (s.setRouter { s.router with maskDemand := x }) :=
  { (refl s : Touches A s s) with
    announces := .of_same rfl rfl rfl rfl rfl
    maskDemand := fun apart => absurd mem apart
    bounded := bounded_of (le_refl _) (le_refl _) rfl rfl rfl }

theorem setAsked (mem : .ask ∈ A) (b : Bool) (s : State) : Touches A s (s.setScan { s.scan with releaseDue := b }) :=
  { (refl s : Touches A s s) with
    scan := rfl
    announces := .of_same rfl rfl rfl rfl rfl
    scanned := fun _ apart => absurd mem apart
    asked := fun apart => absurd mem apart
    bounded := bounded_of (le_refl _) (le_refl _) rfl rfl rfl }

theorem setLists (mem : .active ∈ A) (x : Table (List Nat)) (s : State) :
    Touches A s (s.setEngine { s.engine with active := x }) :=
  { (refl s : Touches A s s) with
    engine := rfl
    announces := .of_same rfl rfl rfl rfl rfl
    active := fun apart => absurd mem apart
    bounded := bounded_of (le_refl _) (le_refl _) rfl rfl rfl }

theorem setModeValue (mem : .mode ∈ A) (m : Mode) (s : State) :
    Touches A s (s.setStatus { s.status with mode := m }) :=
  { (refl s : Touches A s s) with
    status := rfl
    announces := .of_same rfl rfl rfl rfl rfl
    mode := fun apart => absurd mem apart
    bounded := bounded_of (le_refl _) (le_refl _) rfl rfl rfl }

theorem setRow {kind : RowKind} (mem : .row kind ∈ A) (r : Nat) (x : Row) (s : State) :
    Touches A s (s.setRow kind r x) := by
  have rows : ∀ other, .row other ∉ A → ∀ q, (s.setRow kind r x).row other q = s.row other q := fun other apart q => by
    rw [row_setRow, if_neg]
    rintro ⟨rfl, -⟩
    exact apart mem
  cases kind
  all_goals exact
    { (refl s : Touches A s s) with
      announces := .of_same rfl rfl rfl rfl rfl
      scan := rfl
      rows := rows
      scanned := fun apart _ => absurd mem (apart _)
      bounded := bounded_of (le_refl _) (le_refl _) rfl rfl rfl }

theorem setChamber (mem : .guard ∈ A) (c : Nat) (x : Chamber) (s : State) (step : (s.chamber c).guardStep x) :
    Touches A s (s.setChamber c x) :=
  have one : ∀ d, (s.chamber d).guardStep ((s.setChamber c x).chamber d) := fun d => by
    rw [chamber_setChamber]
    split
    · subst_vars
      exact step
    · exact .refl _
  { (refl s : Touches A s s) with
    announces := .of_same rfl rfl rfl rfl rfl
    chambers := fun apart => absurd mem apart
    chamber := one
    bounded := .of_shorter (le_refl _) (le_refl _) rfl (fun d => (one d).2) rfl }

end Touches
end Sys2Proof.Machine
end

section
/-! PROOF. What each operation that plays touches. -/

namespace Sys2Proof.Machine

/-! ### The parts of the units -/

/-- What a claim touches: its count, the cipher guard of its point, and the report of CIPHER. -/
def claimParts : List Part := [.count, .guard, .report .cipher]

/-- What a change of a demand touches: strike timers, generators, the waiting set, and its reports. -/
def poolParts : List Part := [.strike, .generator, .waiting, .report .waiting, .report .genSteal]

/-- What a coupling touches. -/
def couplingParts : List Part := claimParts ++ poolParts ++ [.demand, .pizz, .report .pizzFull]

/-- What a player touches. -/
def playerParts : List Part := claimParts ++ [.strike, .player, .report .seqNoPlayer, .report .seqHoldFull]

/-- What the service of a route entry touches. -/
def serviceParts : List Part := claimParts ++ poolParts ++ [.demand, .player, .report .seqNoPlayer, .report .seqHoldFull]

/-- What a route entry touches. -/
def routeParts : List Part := serviceParts ++ [.route, .ask]

/-- What a transition of a stop touches. -/
def stopParts : List Part := routeParts ++ [.pizz, .report .pizzFull, .tremDemand, .maskDemand, .active]

/-- What a transition run touches. -/
def runParts : List Part := stopParts

/-- What a general release touches. -/
def releaseParts : List Part := stopParts ++ [.hold, .row .key, .row .input]

/-- What a change of mode touches. -/
def modeParts : List Part := stopParts ++ [.hold, .mode, .report .mode]

namespace Touches

variable {s : State}

/-! ### Claims and the cipher guard -/

theorem latchCipherChange (before s : State) : Touches [.report .cipher] s (Machine.latchCipherChange before s) := by
  unfold Machine.latchCipherChange
  split
  · exact .refl s
  · exact .latch (by decide) s

theorem clearGuard (p : Point) (s : State) : Touches claimParts s (Machine.clearGuard p s) :=
  (setChamber (by decide) _ _ s ⟨rfl, List.length_filter_le _ _⟩).trans ((latchCipherChange s _).mono (by decide))

theorem startOnTimer (p : Point) (s : State) : Touches [.guard] s (Machine.startOnTimer p s) := by
  unfold Machine.startOnTimer
  split
  · split
    · split
      · exact setChamber (by decide) _ _ s ⟨rfl, le_refl _⟩
      · exact .refl s
    · exact .refl s
  · exact .refl s

theorem addClaim (p : Point) (s : State) : Touches [.count, .guard] s (Machine.addClaim p s) := by
  have counted := setClaimCount (A := [.count, .guard]) (by decide) p (s.claimCount p + 1) s
  simp only [Machine.addClaim]
  split
  · exact counted.trans ((startOnTimer p _).mono (by decide))
  · exact counted

theorem removeClaim (p : Point) (s : State) : Touches claimParts s (Machine.removeClaim p s) := by
  have counted := setClaimCount (A := claimParts) (by decide) p (s.claimCount p - 1) s
  simp only [Machine.removeClaim]
  split
  · exact counted.trans (clearGuard p _)
  · exact counted

/-! ### The pool -/

theorem strike (p : Point) (s : State) : Touches [.strike] s (Machine.strike p s) := by
  unfold Machine.strike
  split
  · exact .refl s
  · split
    · split
      · exact .refl s
      · exact setStrikeTimer (by decide) p _ s
    · exact .refl s

theorem grant (g : Nat) (c : Client) (s : State) : Touches [.strike, .generator] s (Machine.grant g c s) := by
  cases c with
  | struck p => exact (setGenerator (by decide) g _ s).trans (setStrikeTimer (by decide) p none _)
  | tremulant k => exact setGenerator (by decide) g _ s

theorem setWaiting (p : Point) (b : Bool) (s : State) :
    Touches [.waiting, .report .waiting] s (Machine.setWaiting p b s) := by
  have put := putWaiting (A := [.waiting, .report .waiting]) (by decide) p.index b s
  simp only [Machine.setWaiting]
  split
  · exact put
  · exact put.trans (.latch (by decide) _)

theorem steal (v : Nat × Point) (c : Client) (s : State) : Touches poolParts s (Machine.steal v c s) :=
  (((setWaiting v.2 true s).mono (by decide)).trans (.latch (by decide) _)).trans ((grant _ _ _).mono (by decide))

theorem freeGenerator (g : Nat) (s : State) : Touches poolParts s (Machine.freeGenerator g s) := by
  unfold Machine.freeGenerator
  split
  · exact ((setWaiting _ _ s).mono (by decide)).trans ((grant _ _ _).mono (by decide))
  · exact setGenerator (by decide) g none s

theorem demandRise (p : Point) (s : State) : Touches poolParts s (Machine.demandRise p s) := by
  unfold Machine.demandRise
  split
  · exact (grant _ _ s).mono (by decide)
  · split
    · exact steal _ _ s
    · exact ((setWaiting p true s).mono (by decide)).trans ((strike p _).mono (by decide))

theorem tremulantRise (k : Nat) (s : State) : Touches poolParts s (Machine.tremulantRise k s) := by
  unfold Machine.tremulantRise
  split
  · exact (grant _ _ s).mono (by decide)
  · split
    · exact steal _ _ s
    · exact .refl s

theorem demandFall (p : Point) (s : State) : Touches poolParts s (Machine.demandFall p s) := by
  unfold Machine.demandFall
  split
  · exact freeGenerator _ s
  · exact (setWaiting p false s).mono (by decide)

theorem tremulantFall (k : Nat) (s : State) : Touches poolParts s (Machine.tremulantFall k s) := by
  unfold Machine.tremulantFall
  split
  · exact freeGenerator _ s
  · exact .refl s

theorem raiseDemand (p : Point) (s : State) : Touches (.demand :: poolParts) s (Machine.raiseDemand p s) := by
  have counted := setDemand (A := .demand :: poolParts) (by decide) p (s.demandOf p + 1) s
  simp only [Machine.raiseDemand]
  split
  · exact counted.trans ((demandRise p _).mono (by decide))
  · exact counted

theorem lowerDemand (p : Point) (s : State) : Touches (.demand :: poolParts) s (Machine.lowerDemand p s) := by
  have counted := setDemand (A := .demand :: poolParts) (by decide) p (s.demandOf p - 1) s
  simp only [Machine.lowerDemand]
  split
  · exact counted.trans ((demandFall p _).mono (by decide))
  · exact counted

theorem raiseTremulant (k : Nat) (s : State) : Touches (.tremDemand :: poolParts) s (Machine.raiseTremulant k s) := by
  have counted := setTremulantDemand (A := .tremDemand :: poolParts) (by decide) k (s.tremulantDemand k + 1) s
  simp only [Machine.raiseTremulant]
  split
  · exact counted.trans ((tremulantRise k _).mono (by decide))
  · exact counted

theorem lowerTremulant (k : Nat) (s : State) : Touches (.tremDemand :: poolParts) s (Machine.lowerTremulant k s) := by
  have counted := setTremulantDemand (A := .tremDemand :: poolParts) (by decide) k (s.tremulantDemand k - 1) s
  simp only [Machine.lowerTremulant]
  split
  · exact counted.trans ((tremulantFall k _).mono (by decide))
  · exact counted

theorem cancelStrikes (s : State) : Touches [.strike] s (Machine.cancelStrikes s) := setStrikes (by decide) _ s

/-! ### Couplings -/

theorem addPizz (e : PizzEntry) (s : State) : Touches [.pizz, .report .pizzFull] s (Machine.addPizz e s) := by
  unfold Machine.addPizz
  split
  · refine setPizz (by decide) _ s ?_
    rw [List.length_append, List.length_singleton]
    omega
  · exact .latch (by decide) s

theorem deletePizz (r k n : Nat) (s : State) : Touches [.pizz] s (Machine.deletePizz r k n s) :=
  setPizz (by decide) _ s (le_max_of_le_left (List.length_filter_le _ _))

theorem startCoupling (r k n : Nat) (s : State) : Touches couplingParts s (Machine.startCoupling r k n s) := by
  simp only [Machine.startCoupling]
  split
  · exact .refl s
  · split
    · split
      · exact (addClaim _ s).mono (by decide)
      · exact ((addClaim _ s).mono (by decide)).trans ((addPizz _ _).mono (by decide))
    · exact (strike _ s).mono (by decide)
    · exact (raiseDemand _ s).mono (by decide)
    all_goals exact .refl s

theorem endTonal (r k n : Nat) (p : Point) (s : State) :
    Touches (.pizz :: claimParts) s (Machine.endTonal r k n p s) := by
  unfold Machine.endTonal
  split
  · exact (removeClaim p s).mono (by decide)
  · split
    · exact (deletePizz _ _ _ s).mono (by decide)
    · exact ((removeClaim _ s).mono (by decide)).trans ((deletePizz _ _ _ _).mono (by decide))

theorem endCoupling (r k n : Nat) (s : State) : Touches couplingParts s (Machine.endCoupling r k n s) := by
  simp only [Machine.endCoupling]
  split
  · exact .refl s
  · split
    · exact (endTonal _ _ _ _ s).mono (by decide)
    · exact (lowerDemand _ s).mono (by decide)
    all_goals exact .refl s

theorem startKey (r k : Nat) (s : State) : Touches couplingParts s (Machine.startKey r k s) :=
  forEach (fun n t => startCoupling r k n t) _ s

theorem endKey (r k : Nat) (s : State) : Touches couplingParts s (Machine.endKey r k s) :=
  forEach (fun n t => endCoupling r k n t) _ s

/-- What a tuning coupling touches. -/
theorem startTuning (sel : TuningSelection) (k : Nat) (s : State) :
    Touches [.count, .guard, .strike] s (Machine.startTuning sel k s) := by
  unfold Machine.startTuning
  split
  · exact .refl s
  · split
    · exact (addClaim _ s).mono (by decide)
    · exact (strike _ s).mono (by decide)
    · exact .refl s

theorem endTuning (sel : TuningSelection) (k : Nat) (s : State) : Touches claimParts s (Machine.endTuning sel k s) := by
  unfold Machine.endTuning
  split
  · exact .refl s
  · split
    · exact removeClaim _ s
    · exact .refl s

theorem startTuningRow (sel : TuningSelection) (s : State) :
    Touches [.count, .guard, .strike] s (Machine.startTuningRow sel s) := forEach (fun k t => startTuning sel k t) _ s

theorem endTuningRow (sel : TuningSelection) (s : State) : Touches claimParts s (Machine.endTuningRow sel s) :=
  forEach (fun k t => endTuning sel k t) _ s

theorem keyTransition (r k : Nat) (press : Bool) (s : State) :
    Touches couplingParts s (Machine.keyTransition r k press s) := by
  unfold Machine.keyTransition
  split
  · exact .refl s
  · split
    · exact startKey r k s
    · exact endKey r k s
  · split
    · exact .refl s
    · split
      · split
        · exact (startTuning _ k s).mono (by decide)
        · exact (endTuning _ k s).mono (by decide)
      · exact .refl s

/-! ### Players -/

theorem stopPlayer (n : Nat) (s : State) : Touches (.player :: claimParts) s (Machine.stopPlayer n s) := by
  unfold Machine.stopPlayer
  split
  · exact .refl s
  · exact (setPlayer (by decide) n none s (fun _ none => nomatch none)).trans
      ((forEach (fun p t => removeClaim p t) _ _).mono (by decide))

theorem stopPlayers (ns : List Nat) (s : State) :
    Touches (.player :: claimParts) s (Machine.forEach ns Machine.stopPlayer s) := forEach (fun n t => stopPlayer n t) _ s

/-- A player whose hold set is kept. -/
theorem replay {A : List Part} (mem : .player ∈ A) (n : Nat) {run new : Run} {s : State}
    (playing : s.player n = some run) (same : new.holds = run.holds) : Touches A s (s.setPlayer n (some new)) :=
  setPlayer mem n _ s (fun r is => .inr ⟨run, playing, by rw [← Option.some.inj is, same]⟩)

theorem applyAction (n : Nat) (a : Action) (s : State) : Touches playerParts s (Machine.applyAction n a s) := by
  unfold Machine.applyAction
  split
  · exact .refl s
  case h_2 run playing =>
    dsimp only
    split
    · exact (strike _ s).mono (by decide)
    · split
      · exact .refl s
      · split
        · exact .latch (by decide) s
        case isFalse room =>
          refine (setPlayer (by decide) n _ s (fun r is => .inl ?_)).trans ((addClaim _ _).mono (by decide))
          rw [← Option.some.inj is, List.length_append, List.length_singleton]
          omega
    · split
      · refine (setPlayer (by decide) n _ s (fun r is => .inr ⟨run, playing, ?_⟩)).trans
          ((removeClaim _ _).mono (by decide))
        rw [← Option.some.inj is]
        exact List.length_filter_le _ _
      · exact .refl s

theorem applyStep (n i : Nat) (s : State) : Touches playerParts s (Machine.applyStep n i s) := by
  unfold Machine.applyStep
  dsimp only
  have moved : Touches playerParts s (match s.player n with
      | none => s
      | some run => s.setPlayer n (some { run with step := i })) := by
    split
    · exact .refl s
    case h_2 run playing => exact replay (by decide) n playing rfl
  have acted := moved.trans (forEach (fun a t => applyAction n a t) (s.stepRecord i).actions _)
  split
  · exact acted
  case h_2 run playing => exact acted.trans (replay (by decide) n playing rfl)

theorem takeFirstStep (n : Nat) (s : State) : Touches playerParts s (Machine.takeFirstStep n s) := by
  unfold Machine.takeFirstStep
  split
  · exact .refl s
  · split
    · exact (stopPlayer n s).mono (by decide)
    · split
      · exact applyStep n _ s
      · exact (stopPlayer n s).mono (by decide)

theorem moveOn (n : Nat) (s : State) : Touches playerParts s (Machine.moveOn n s) := by
  simp only [Machine.moveOn]
  split
  · exact .refl s
  · split
    · exact applyStep n _ s
    · split
      · exact takeFirstStep n s
      · exact (stopPlayer n s).mono (by decide)

theorem assignPlayers (level : Bool) (input : Nat) (qs : List Nat) (s : State) :
    Touches [.player, .report .seqNoPlayer] s (Machine.assignPlayers level input qs s).2 := by
  induction qs generalizing s with
  | nil => exact .refl s
  | cons q rest ih =>
    simp only [Machine.assignPlayers]
    split
    · exact (Touches.latch (by decide) s).trans (ih _)
    · exact (setPlayer (by decide) _ _ s (fun r is => .inl (by rw [← Option.some.inj is]; exact Nat.zero_le _))).trans
        (ih _)

theorem startDelivery (level : Bool) (input : Nat) (qs : List Nat) (s : State) :
    Touches playerParts s (Machine.startDelivery level input qs s) :=
  ((assignPlayers level input qs s).mono (by decide)).trans (forEach (fun n t => takeFirstStep n t) _ _)

theorem finishPlayer (n : Nat) (s : State) : Touches [.player] s (Machine.finishPlayer n s) := by
  unfold Machine.finishPlayer
  split
  · exact .refl s
  case h_2 run playing => exact replay (by decide) n playing rfl

theorem finishRunningOf (i : Nat) (s : State) : Touches [.player] s (Machine.finishRunningOf i s) :=
  forEach (fun n t => finishPlayer n t) _ s

/-! ### Route entries -/

theorem setRouteState (i : Nat) (x : RouteState) (timer : Option Nat) (s : State) :
    Touches [.route] s (Machine.setRouteState i x timer s) := setRoute (by decide) i _ s rfl

theorem toggleSequences (i : Nat) (qs : List Nat) (s : State) :
    Touches playerParts s (Machine.toggleSequences i qs s) := by
  unfold Machine.toggleSequences
  split
  · exact (stopPlayers _ s).mono (by decide)
  · exact startDelivery _ _ _ s

theorem askRelease (s : State) : Touches [.ask] s (Machine.askRelease s) := setAsked (by decide) true s

theorem deliver (i : Nat) (s : State) : Touches (.ask :: playerParts) s (Machine.deliver i s) := by
  simp only [Machine.deliver]
  split
  · exact (strike _ s).mono (by decide)
  · exact (toggleSequences _ _ s).mono (by decide)
  · exact (askRelease s).mono (by decide)
  all_goals exact .refl s

theorem startHold (kind : HoldKind) (p : Point) (s : State) : Touches serviceParts s (Machine.startHold kind p s) := by
  cases kind
  · exact (addClaim p s).mono (by decide)
  · exact (raiseDemand p s).mono (by decide)

theorem endHold (kind : HoldKind) (p : Point) (s : State) : Touches serviceParts s (Machine.endHold kind p s) := by
  cases kind
  · exact (removeClaim p s).mono (by decide)
  · exact (lowerDemand p s).mono (by decide)

theorem startService (i : Nat) (s : State) : Touches serviceParts s (Machine.startService i s) := by
  simp only [Machine.startService]
  split
  · exact startHold _ _ s
  all_goals
    split
    · exact startHold _ _ s
    · exact startHold _ _ s
    · exact (startDelivery _ _ _ s).mono (by decide)
    all_goals exact .refl s

theorem endSequences (cause : EndCause) (i : Nat) (s : State) :
    Touches (.player :: claimParts) s (Machine.endSequences cause i s) := by
  cases cause
  · exact (finishRunningOf i s).mono (by decide)
  · exact stopPlayers _ s
  · exact .refl s

theorem endService (cause : EndCause) (i : Nat) (s : State) : Touches serviceParts s (Machine.endService cause i s) := by
  simp only [Machine.endService]
  split
  · exact endHold _ _ s
  all_goals
    split
    · exact endHold _ _ s
    · exact endHold _ _ s
    · exact (endSequences cause i s).mono (by decide)
    all_goals exact .refl s

/-- The state of an entry written, and its service ended. -/
theorem endWritten (cause : EndCause) (i : Nat) (x : RouteState) (timer : Option Nat) (s : State) :
    Touches routeParts s (Machine.endService cause i (Machine.setRouteState i x timer s)) :=
  ((setRouteState i x timer s).mono (by decide)).trans ((endService cause i _).mono (by decide))

theorem beginLevel (i : Nat) (s : State) : Touches routeParts s (Machine.beginLevel i s) := by
  unfold Machine.beginLevel
  split
  · exact .refl s
  · exact ((setRouteState i _ _ s).mono (by decide)).trans ((startService i _).mono (by decide))

theorem activate (i : Nat) (s : State) : Touches routeParts s (Machine.activate i s) := by
  simp only [Machine.activate]
  split
  · simp only [Machine.activateEdge]
    split
    · exact .refl s
    · split
      · split
        · exact (setRouteState i _ _ s).mono (by decide)
        · exact .refl s
      · exact (deliver i s).mono (by decide)
  · split
    · exact beginLevel i s
    · exact .refl s
  · split
    · exact (setRouteState i _ _ s).mono (by decide)
    · exact .refl s

theorem deactivate (i : Nat) (s : State) : Touches routeParts s (Machine.deactivate i s) := by
  simp only [Machine.deactivate]
  split
  · exact endWritten _ i _ _ s
  · exact ((setRouteState i _ _ s).mono (by decide)).trans ((strike _ _).mono (by decide))
  · exact endWritten _ i _ _ s
  · exact .refl s

theorem becomeMasked (i : Nat) (s : State) : Touches routeParts s (Machine.becomeMasked i s) := by
  simp only [Machine.becomeMasked]
  split
  · exact endWritten _ i _ _ s
  · exact (setRouteState i _ _ s).mono (by decide)
  all_goals exact .refl s

theorem becomeUnmasked (i : Nat) (s : State) : Touches routeParts s (Machine.becomeUnmasked i s) := by
  simp only [Machine.becomeUnmasked]
  split
  · exact ((setRouteState i _ _ s).mono (by decide)).trans ((deliver i _).mono (by decide))
  · split
    · exact beginLevel i s
    · exact .refl s
  · split
    · exact (setRouteState i _ _ s).mono (by decide)
    · exact .refl s
  · exact .refl s

theorem setLevel (i : Nat) (active : Bool) (s : State) : Touches routeParts s (Machine.setLevel i active s) := by
  have level := setRoute (A := routeParts) (by decide) i { s.route i with active := active } s rfl
  simp only [Machine.setLevel]
  split
  · exact .refl s
  · split
    · exact level.trans (activate i _)
    · exact level.trans (deactivate i _)

theorem routerLinkLoss (s : State) : Touches routeParts s (Machine.routerLinkLoss s) :=
  forEach (fun i t => setLevel i false t) _ s

theorem raiseMask (g : Nat) (s : State) : Touches (.maskDemand :: routeParts) s (Machine.raiseMask g s) := by
  have raised := setMaskDemands (A := .maskDemand :: routeParts) (by decide)
    (s.router.maskDemand.put 0 g (s.maskDemand g + 1)) s
  simp only [Machine.raiseMask]
  split
  · exact raised.trans ((forEach (fun i t => becomeMasked i t) _ _).mono (by decide))
  · exact raised

theorem lowerMask (g : Nat) (s : State) : Touches (.maskDemand :: routeParts) s (Machine.lowerMask g s) := by
  have lowered := setMaskDemands (A := .maskDemand :: routeParts) (by decide)
    (s.router.maskDemand.put 0 g (s.maskDemand g - 1)) s
  simp only [Machine.lowerMask]
  split
  · exact lowered.trans ((forEach (fun i t => becomeUnmasked i t) _ _).mono (by decide))
  · exact lowered

theorem routeReleased (i : Nat) (s : State) : Touches routeParts s (Machine.routeReleased i s) := by
  unfold Machine.routeReleased
  split
  · exact endWritten _ i _ _ s
  · exact (setRouteState i _ _ s).mono (by decide)
  · exact (setRouteState i _ _ s).mono (by decide)
  · exact .refl s

theorem routerReleased (s : State) : Touches routeParts s (Machine.routerReleased s) :=
  forEach (fun i t => routeReleased i t) _ s

theorem routeEnterPlay (i : Nat) (s : State) : Touches routeParts s (Machine.routeEnterPlay i s) := by
  simp only [Machine.routeEnterPlay]
  split
  · exact .refl s
  · split
    · exact .refl s
    · exact beginLevel i s
    · exact (setRouteState i _ _ s).mono (by decide)

theorem routerEnterPlay (s : State) : Touches routeParts s (Machine.routerEnterPlay s) :=
  forEach (fun i t => routeEnterPlay i t) _ s

theorem routeLeavePlay (i : Nat) (s : State) : Touches routeParts s (Machine.routeLeavePlay i s) := by
  unfold Machine.routeLeavePlay
  split
  · exact endWritten _ i _ _ s
  · exact (setRouteState i _ _ s).mono (by decide)
  · exact (setRouteState i _ _ s).mono (by decide)
  · exact .refl s

theorem routerLeavePlay (s : State) : Touches (.maskDemand :: routeParts) s (Machine.routerLeavePlay s) :=
  ((forEach (fun i t => routeLeavePlay i t) _ s).mono (by decide)).trans (setMaskDemands (by decide) _ _)

/-! ### Stops, rows and releases -/

theorem joinList (n : Nat) (s : State) : Touches [.active] s (Machine.joinList n s) := setLists (by decide) _ s

theorem leaveList (n : Nat) (s : State) : Touches [.active] s (Machine.leaveList n s) := setLists (by decide) _ s

theorem drawStop (n : Nat) (s : State) : Touches stopParts s (Machine.drawStop n s) := by
  have joined : Touches stopParts s (Machine.forEach (s.heldKeys (s.stop n).row)
      (fun k => Machine.startCoupling (s.stop n).row k n) (Machine.joinList n s)) :=
    ((joinList n s).mono (by decide)).trans ((forEach (fun k t => startCoupling _ k n t) _ _).mono (by decide))
  simp only [Machine.drawStop]
  split
  case h_1 | h_2 | h_3 => exact joined
  · exact (raiseTremulant _ s).mono (by decide)
  · exact (raiseMask _ s).mono (by decide)
  · exact .refl s

theorem cancelStop (n : Nat) (s : State) : Touches stopParts s (Machine.cancelStop n s) := by
  have ended : Touches stopParts s (Machine.leaveList n (Machine.forEach (s.heldKeys (s.stop n).row)
      (fun k => Machine.endCoupling (s.stop n).row k n) s)) :=
    ((forEach (fun k t => endCoupling _ k n t) _ s).mono (by decide)).trans ((leaveList n _).mono (by decide))
  simp only [Machine.cancelStop]
  split
  case h_1 | h_2 | h_3 => exact ended
  · exact (lowerTremulant _ s).mono (by decide)
  · exact (lowerMask _ s).mono (by decide)
  · exact .refl s

theorem stopTransition (n : Nat) (press : Bool) (s : State) :
    Touches stopParts s (Machine.stopTransition n press s) := by
  unfold Machine.stopTransition
  split
  · split
    · exact drawStop n s
    · exact cancelStop n s
  · exact .refl s

theorem keyRun (r : Nat) (run : List (Nat × Bool)) (s : State) :
    Touches couplingParts s (Machine.handRun .key r run s) :=
  forEach (f := handOn .key r) (fun x t => keyTransition r x.1 x.2 t) run s

theorem inputRun (r : Nat) (run : List (Nat × Bool)) (s : State) :
    Touches routeParts s (Machine.handRun .input r run s) :=
  forEach (f := handOn .input r) (fun _ t => setLevel _ _ t) run s

theorem handRun (kind : RowKind) (r : Nat) (run : List (Nat × Bool)) (s : State) :
    Touches stopParts s (Machine.handRun kind r run s) := by
  cases kind
  · exact (keyRun r run s).mono (by decide)
  · exact forEach (f := handOn .stop r) (fun x t => stopTransition _ x.2 t) run s
  · exact (inputRun r run s).mono (by decide)

theorem emptyTuningHolds (s : State) : Touches (.hold :: claimParts) s (Machine.emptyTuningHolds s) :=
  (setHolds (by decide) [] s (Nat.zero_le _)).trans ((forEach (fun p t => removeClaim p t) _ _).mono (by decide))

theorem releaseKeys (r : Nat) (s : State) : Touches (.row .key :: couplingParts) s (Machine.releaseRow .key r s) :=
  (setRow (by decide) r _ s).trans ((keyRun r _ _).mono (by decide))

theorem releaseInputs (r : Nat) (s : State) : Touches (.row .input :: routeParts) s (Machine.releaseRow .input r s) :=
  (setRow (by decide) r _ s).trans ((inputRun r _ _).mono (by decide))

theorem stopAllPlayers (s : State) : Touches (.player :: claimParts) s (Machine.stopAllPlayers s) := stopPlayers _ s

theorem generalRelease (s : State) : Touches releaseParts s (Machine.generalRelease s) := by
  have keys : ∀ rs t, Touches releaseParts t (Machine.forEach rs (Machine.releaseRow .key) t) := fun rs t =>
    (forEach (fun r u => releaseKeys r u) rs t).mono (by decide)
  have inputs : ∀ rs t, Touches releaseParts t (Machine.forEach rs (Machine.releaseRow .input) t) := fun rs t =>
    (forEach (fun r u => releaseInputs r u) rs t).mono (by decide)
  have routes : ∀ t, Touches releaseParts t (Machine.routerReleased t) := fun t => (routerReleased t).mono (by decide)
  have players : ∀ t, Touches releaseParts t (Machine.stopAllPlayers t) := fun t => (stopAllPlayers t).mono (by decide)
  have holds : ∀ t, Touches releaseParts t (Machine.emptyTuningHolds t) := fun t =>
    (emptyTuningHolds t).mono (by decide)
  simp only [Machine.generalRelease]
  exact ((((keys _ s).trans (inputs _ _)).trans (routes _)).trans (players _)).trans (holds _)

theorem drainReleases (s : State) : Touches releaseParts s (Machine.drainReleases s) := by
  have once : ∀ t, Touches releaseParts t (releaseOnce t) := by
    intro t
    unfold releaseOnce
    split
    · exact (setAsked (by decide) false t).trans (generalRelease _)
    · exact .refl t
  exact (once s).trans (once _)

/-! ### Modes -/

theorem drawAtEntry (n : Nat) (s : State) :
    Touches (.maskDemand :: .active :: .tremDemand :: poolParts) s (Machine.drawAtEntry n s) := by
  have joined : Touches (.maskDemand :: .active :: .tremDemand :: poolParts) s (Machine.joinList n s) :=
    (joinList n s).mono (by decide)
  simp only [Machine.drawAtEntry]
  split
  case h_1 | h_2 | h_3 => exact joined
  · exact (raiseTremulant _ s).mono (by decide)
  · exact setMaskDemands (by decide) _ s
  · exact .refl s

theorem engineEnterPlay (s : State) : Touches stopParts s (Machine.engineEnterPlay s) :=
  ((forEach (fun n t => drawAtEntry n t) _ s).mono (by decide)).trans
    ((forEach (fun r t => forEach (fun k u => startKey r k u) _ t) _ _).mono (by decide))

theorem engineLeavePlay (s : State) : Touches stopParts s (Machine.engineLeavePlay s) := by
  have cancelled : ∀ n t, Touches stopParts t (cancelAtLeaving n t) := by
    intro n t
    unfold cancelAtLeaving
    split
    · exact (lowerTremulant _ t).mono (by decide)
    · exact .refl t
  exact ((((forEach (fun r t => forEach (fun k u => endKey r k u) _ t) keyRows s).mono (by decide)).trans
    (setLists (by decide) _ _)).trans (setPizz (by decide) [] _ (Nat.zero_le _))).trans (forEach cancelled _ _)

theorem setMode (m : Mode) (s : State) : Touches [.mode, .report .mode] s (Machine.setMode m s) := by
  unfold Machine.setMode
  split
  · exact .refl s
  · exact (setModeValue (by decide) m s).trans (.latch (by decide) _)

theorem leavePlay (s : State) : Touches stopParts s (Machine.leavePlay s) :=
  (((engineLeavePlay s).trans ((routerLeavePlay _).mono (by decide))).trans
    ((stopPlayers _ _).mono (by decide))).trans ((cancelStrikes _).mono (by decide))

theorem leaveTune (s : State) : Touches (.hold :: .strike :: claimParts) s (Machine.leaveTune s) := by
  have ended : Touches (.hold :: .strike :: claimParts) s (match s.engine.tuning with
      | none => s
      | some sel => Machine.endTuningRow sel s) := by
    split
    · exact .refl s
    · exact (endTuningRow _ s).mono (by decide)
  exact (ended.trans ((emptyTuningHolds _).mono (by decide))).trans ((cancelStrikes _).mono (by decide))

theorem enterPlay (s : State) : Touches stopParts s (Machine.enterPlay s) :=
  (engineEnterPlay s).trans ((routerEnterPlay _).mono (by decide))

theorem liftAllGuards (s : State) : Touches claimParts s (Machine.liftAllGuards s) :=
  ((forEach (fun c t => setChamber (by decide) c _ t ⟨rfl, Nat.zero_le _⟩) _ s)).trans ((latchCipherChange s _).mono (by decide))

theorem enterTune (s : State) : Touches (.strike :: claimParts) s (Machine.enterTune s) := by
  have lifted : Touches (.strike :: claimParts) s (Machine.liftAllGuards s) := (liftAllGuards s).mono (by decide)
  simp only [Machine.enterTune, Machine.engineEnterTune]
  split
  · exact lifted
  · exact lifted.trans ((startTuningRow _ _).mono (by decide))

theorem leaveMode (s : State) : Touches modeParts s (Machine.leaveMode s) := by
  have left : Touches modeParts s (Machine.setMode .config s) := (setMode .config s).mono (by decide)
  simp only [Machine.leaveMode]
  split
  · exact left
  · exact left.trans ((leavePlay _).mono (by decide))
  · exact left.trans ((leaveTune _).mono (by decide))

theorem enterMode (m : Mode) (s : State) : Touches modeParts s (Machine.enterMode m s) := by
  have entered : Touches modeParts s (Machine.setMode m s) := (setMode m s).mono (by decide)
  simp only [Machine.enterMode]
  split
  · exact entered
  · exact entered.trans ((enterPlay _).mono (by decide))
  · exact entered.trans ((enterTune _).mono (by decide))

theorem modeSet (m : Mode) (s : State) : Touches modeParts s (Machine.modeSet m s).1 := by
  unfold Machine.modeSet
  split
  · exact .refl s
  · split
    · exact .refl s
    · split
      · exact leaveMode s
      · split
        · exact .refl s
        · exact (leaveMode s).trans (enterMode m _)

end Touches
end Sys2Proof.Machine
end

section
/-! PROOF. The bounded lists stay within their capacities (R50, R58, R111, R147), and the waiting set in the canonical form of a
table (log 31). -/

namespace Sys2Proof.Machine

/-! ### Acts that play -/

namespace Touches

/-- What an event of the relay's own that plays can touch. -/
theorem levelOff (g : Nat) (s : State) : Touches [.generator] s (Machine.levelOff g s) := by
  unfold Machine.levelOff
  split
  · split
    · exact setGenerator (by decide) g _ s
    · exact .refl s
  · exact .refl s

theorem returnToZero (g : Nat) (s : State) : Touches [.generator] s (Machine.returnToZero g s) := by
  unfold Machine.returnToZero
  split
  · exact setGenerator (by decide) g _ s
  · exact .refl s

theorem pizzExpires (r k n : Nat) (s : State) : Touches (.pizz :: claimParts) s (Machine.pizzExpires r k n s) := by
  have spent : Touches (.pizz :: claimParts) s (spendPizz r k n s) :=
    setPizz (by decide) _ s (by rw [List.length_map]; exact le_max_left _ _)
  unfold Machine.pizzExpires
  split
  · split
    · exact .refl s
    · exact spent.trans ((removeClaim _ _).mono (by decide))
  · exact .refl s

theorem splitExpires (i : Nat) (s : State) : Touches routeParts s (Machine.splitExpires i s) := by
  simp only [Machine.splitExpires]
  split
  · exact ((setRouteState i _ _ s).mono (by decide)).trans ((startService i _).mono (by decide))
  · exact .refl s

theorem stepExpires (n : Nat) (s : State) : Touches playerParts s (Machine.stepExpires n s) := by
  unfold Machine.stepExpires
  split
  · split
    · exact (stopPlayer _ s).mono (by decide)
    · exact moveOn _ s
  · exact .refl s

theorem takeRow (kind : RowKind) (r : Nat) (image : Image) (s : State) :
    Touches (.row kind :: stopParts) s (Machine.takeRow kind r image s) := by
  have run : ∀ run t, Touches (.row kind :: stopParts) t (Machine.handRun kind r run t) := fun run t =>
    (handRun kind r run t).mono (List.subset_cons_self _ _)
  exact (setRow List.mem_cons_self r _ s).trans (run _ _)

theorem takeScan (kind r : Nat) (image : Image) (s : State) :
    Touches (.row .stop :: releaseParts) s (Machine.takeScan kind r image s) := by
  have row : ∀ kind, Touches (.row .stop :: releaseParts) s (Machine.takeRow kind r image s) := by
    intro kind
    refine (takeRow kind r image s).mono ?_
    cases kind <;> decide
  unfold Machine.takeScan
  split
  · exact .refl s
  · split
    · exact (row _).trans ((drainReleases _).mono (by decide))
    · exact .refl s

theorem loseRow (kind : RowKind) (r : Nat) (s : State) :
    Touches (.row kind :: stopParts) s (Machine.loseRow kind r s) := by
  have run : ∀ run t, Touches (.row kind :: stopParts) t (Machine.handRun kind r run t) := fun run t =>
    (handRun kind r run t).mono (List.subset_cons_self _ _)
  exact (setRow List.mem_cons_self r _ s).trans (run _ _)

theorem scanLinkLoss (s : State) : Touches (.row .stop :: releaseParts) s (Machine.scanLinkLoss s) := by
  have lose : ∀ kind rs t, Touches (.row .stop :: releaseParts) t (Machine.forEach rs (Machine.loseRow kind) t) := by
    intro kind rs t
    refine (forEach (fun r u => loseRow kind r u) rs t).mono ?_
    cases kind <;> decide
  have clear : ∀ kind rs t, Touches (.row .stop :: releaseParts) t (Machine.forEach rs (clearRow kind) t) := by
    intro kind rs t
    refine (forEach (A := [.row kind]) (fun r u => setRow (by simp) r _ u) rs t).mono ?_
    cases kind <;> decide
  simp only [Machine.scanLinkLoss]
  exact ((((lose _ _ s).trans (lose _ _ _)).trans (clear _ _ _)).trans (clear _ _ _)).trans (clear _ _ _)

end Touches

variable {P : State → Prop}

/-- R155: the report of a link loss, but for the count of free values. -/
theorem reportLoss_touched (s : State) : ∃ t, Touches (.row .stop :: releaseParts) s t ∧
    (reportLoss s = t ∨ reportLoss s = t.setFreeCount (s.freeCount + 1)) := by
  have routes : ∀ t, Touches (.row .stop :: releaseParts) t (routerLinkLoss t) := fun t =>
    (Touches.routerLinkLoss t).mono (by decide)
  have scanFirst := (Touches.scanLinkLoss s).trans (routes _)
  have routerFirst := (routes s).trans (Touches.scanLinkLoss _)
  obtain same | chosen | chosen := reportLoss_cases s
  · exact ⟨_, scanFirst, .inl same⟩
  · exact ⟨_, scanFirst, .inr chosen⟩
  · exact ⟨_, routerFirst, .inr chosen⟩

/-- Every act keeps a property that traffic, the controllers' work, the pool's timers and each playing act keep. -/
theorem act_keeps_playing (t : KeptByTraffic P) (c : KeptByChambers P)
    (pool : ∀ s u, Touches [.strike, .generator] s u → P s → P u)
    (plucked : ∀ r k n s, P s → P (pizzExpires r k n s)) (split : ∀ (i : Fin 96) s, P s → P (splitExpires i s))
    (stepped : ∀ (n : Fin 8) s, P s → P (stepExpires n s))
    (scan : ∀ kind r image s, P s → P (takeScan kind r image s)) (loss : ∀ s, P s → P (reportLoss s))
    {s u : State} {i : Instr} (act : Act s i u) (hs : P s) : P u := by
  have down : P (enterDown s) := loss _ (t.enterLink _ _ (t.ported s _ hs))
  cases act with
  | trained training => exact t.train _ (t.renewLink s hs)
  | scanned kind row image up => exact t.forwardFrame _ _ (scan _ _ _ _ (t.renewLink s hs))
  | sampled shoe sample up => exact t.forwardFrame _ _ (t.takeSample _ _ _ (t.renewLink s hs))
  | greeted => exact t.startTraining _ (t.forwardFrame _ _ (t.offer _ s hs))
  | queued address tag code fields up => exact t.queueRequest _ _ (t.renewLink s hs)
  | passedOn address tag code fields up => exact t.forwardFrame _ _ (t.renewLink s hs)
  | idled sender up => exact t.renewLink s hs
  | spoiled live =>
    unfold countBad
    split
    · exact t.ported s _ hs
    · exact down
  | lost running => exact down
  | received bytes => exact t.offer _ _ (t.setExtUp _ _ (t.extended s _ hs))
  | heard => exact t.setExtUp _ _ (t.extended s _ hs)
  | extLost => exact t.setExtUp _ _ (t.extended s _ hs)
  | reported n wind supply boards => exact c.takeStatus n wind supply boards s hs
  | chamberLost n => exact c.chamberLinkExpires n s hs
  | windless n => exact c.windExpires n s hs
  | settled n => exact c.settleExpires n s hs
  | drained n => exact c.drainExpires n s hs
  | driven n => exact c.driveEnds n s hs
  | controlled n => exact c.controlEnds n s hs
  | groupAged n g => exact c.groupAges n g s hs
  | controlAged n => exact c.controlAges n s hs
  | guarded n p => exact c.onTimerExpires _ s hs
  | struck n p => exact pool _ _ (.setStrikeTimer (by decide) _ _ s) hs
  | levelled g => exact pool _ _ ((Touches.levelOff _ s).mono (by decide)) hs
  | returned g => exact pool _ _ ((Touches.returnToZero _ s).mono (by decide)) hs
  | plucked row key stop => exact plucked _ _ _ s hs
  | split input => exact split input s hs
  | stepped player => exact stepped player s hs
  | slewed channel =>
    simp only [slewExpires]
    split
    · exact hs
    · exact t.channelled s _ _ (moveChannel_record _) hs
  | sent busy => exact t.startLine _ (t.ported s _ hs)
  | silent quiet => exact t.offer _ s hs
  | turned => exact t.flagged s _ rfl rfl hs
  | unstretched item => exact t.flagged s _ rfl rfl hs
  | still => exact hs

/-- Every act keeps a property that traffic, playing and the controllers' work keep. -/
theorem act_keeps_touched (t : KeptByTraffic P) (c : KeptByChambers P)
    (plays : ∀ s u, Touches (.pizz :: routeParts) s u → P s → P u)
    (scan : ∀ kind r image s, P s → P (takeScan kind r image s)) (loss : ∀ s, P s → P (reportLoss s))
    {s u : State} {i : Instr} (act : Act s i u) (hs : P s) : P u :=
  act_keeps_playing t c (fun _ _ touched => plays _ _ (touched.mono (by decide)))
    (fun r k n s => plays _ _ ((Touches.pizzExpires r k n s).mono (by decide)))
    (fun i s => plays _ _ ((Touches.splitExpires i s).mono (by decide)))
    (fun n s => plays _ _ ((Touches.stepExpires n s).mono (by decide))) scan loss act hs

/-! ### The bounds -/

theorem listsBounded_keptByTraffic : KeptByTraffic ListsBounded where
  ported _ _ b := ⟨b.pizz, b.holds, b.players, b.ciphers, b.waiting⟩
  extended _ _ b := ⟨b.pizz, b.holds, b.players, b.ciphers, b.waiting⟩
  freed _ _ b := ⟨b.pizz, b.holds, b.players, b.ciphers, b.waiting⟩
  flagged _ _ _ _ b := ⟨b.pizz, b.holds, b.players, b.ciphers, b.waiting⟩
  sampled _ _ _ b := ⟨b.pizz, b.holds, b.players, b.ciphers, b.waiting⟩
  channelled _ _ _ _ b := ⟨b.pizz, b.holds, b.players, b.ciphers, b.waiting⟩

theorem listsBounded_written {s : State} {c : Nat} {x : Chamber}
    (few : x.ciphers.length ≤ max (s.chamber c).ciphers.length Config.cipherCapacity) (b : ListsBounded s) :
    ListsBounded (s.setChamber c x) :=
  { b with
    ciphers := fun d => by
      rw [chamber_setChamber]
      split
      · exact few.trans (max_le (b.ciphers c) (le_refl _))
      · exact b.ciphers d }

theorem listsBounded_keptByChambers : KeptByChambers ListsBounded where
  latch := listsBounded_keptByTraffic.reports.latch
  written _ _ _ work b := listsBounded_written work.2.2 b

/-- A part of a table in canonical form is in canonical form. -/
theorem wf_filter {α : Type} [DecidableEq α] {entries : List (Nat × α)} {reset : α} (keep : Nat × α → Bool)
    (canonical : (Table.mk entries).wf reset = true) : (Table.mk (entries.filter keep)).wf reset = true := by
  unfold Table.wf at canonical ⊢
  rw [Bool.and_eq_true, indicesRise_iff] at canonical ⊢
  obtain ⟨rise, listed⟩ := canonical
  exact ⟨List.Pairwise.sublist List.filter_sublist rise, List.all_eq_true.2 fun e mem =>
    List.all_eq_true.1 listed e (List.mem_of_mem_filter mem)⟩

theorem dropUnstruck_bounded {s : State} (b : ListsBounded s) : ListsBounded (dropUnstruck s) :=
  { b with waiting := wf_filter _ b.waiting }

theorem writeMask_bounded (i : Nat) (m : Bool) {s : State} (b : ListsBounded s) : ListsBounded (writeMask i m s) := by
  have written : ListsBounded (s.setRoute i { s.route i with fields := { (s.route i).fields with masked := m } }) :=
    ⟨b.pizz, b.holds, b.players, b.ciphers, b.waiting⟩
  simp only [writeMask]
  split
  · exact (Touches.becomeMasked i _).bounded written
  · exact (Touches.becomeUnmasked i _).bounded written
  · exact written

theorem takeRoute_bounded (i : Nat) (x : RouteFields) {s : State} (b : ListsBounded s) : ListsBounded (takeRoute i x s) := by
  unfold takeRoute
  split
  · have dropped : ListsBounded (dropPending i x.defer s) := by
      unfold dropPending
      split
      · exact (Touches.setRouteState i _ _ s).bounded b
      · exact b
    refine (Touches.drainReleases _).bounded (writeMask_bounded i _ ?_)
    exact ⟨dropped.pizz, dropped.holds, dropped.players, dropped.ciphers, dropped.waiting⟩
  · exact ⟨b.pizz, b.holds, b.players, b.ciphers, b.waiting⟩

theorem select_bounded (sel : TuningSelection) {s : State} (b : ListsBounded s) : ListsBounded (select sel s) := by
  have chosen : ∀ {t : State}, ListsBounded t → ListsBounded (setSelection sel t) := fun b =>
    ⟨b.pizz, b.holds, b.players, b.ciphers, b.waiting⟩
  unfold select
  split
  · split
    · exact b
    · refine (Touches.startTuningRow sel _).bounded (chosen ?_)
      unfold endPresentTuning
      split
      · exact (Touches.endTuningRow _ s).bounded b
      · exact b
  · exact chosen b

theorem writeKeySetting_bounded (r : Nat) (x : KeySetting) {s : State} (b : ListsBounded s) :
    ListsBounded (writeKeySetting r x s) := by
  have written : ListsBounded (s.setKeySetting r x) := ⟨b.pizz, b.holds, b.players, b.ciphers, b.waiting⟩
  simp only [writeKeySetting]
  split
  · exact written
  · exact (Touches.keyRun r _ _).bounded ((Touches.setRow (A := [.row .key]) (by decide) r _ _).bounded written)

theorem holding_bounded {s : State} {l : List Point} (few : l.length ≤ Config.tuningHoldCapacity)
    (b : ListsBounded s) : ListsBounded (setHolds l s) := { b with holds := few }

theorem serves_bounded {s : State} {acted : Served} (serves : Serves s acted) (b : ListsBounded s) :
    ListsBounded acted.1 := by
  have same : ∀ {t : State}, t.claims = s.claims → t.sequencer.players = s.sequencer.players →
      t.chambers = s.chambers → t.pool.waiting = s.pool.waiting → ListsBounded t := fun claims players chambers waiting =>
    Touches.bounded_of (by rw [claims]) (by rw [claims]) players chambers waiting b
  cases serves with
  | unchanged reply => exact b
  | mode m => exact (Touches.modeSet m s).bounded b
  | rank read inTable taken => exact dropUnstruck_bounded (same rfl rfl rfl rfl)
  | route read inTable taken => exact takeRoute_bounded _ _ b
  | keyRow read inTable => exact writeKeySetting_bounded _ _ b
  | chamber read inTable => exact listsBounded_written (le_max_left _ _) b
  | mask i m => exact (Touches.drainReleases _).bounded (writeMask_bounded i m b)
  | raise inTable => exact listsBounded_keptByChambers.enterBlower _ s b
  | lower inTable => exact listsBounded_keptByChambers.enterLowering _ s b
  | select sel => exact select_bounded sel b
  | addHold p tune =>
    unfold addHold
    split
    · exact b
    · split
      · exact b
      · split
        · exact b
        case isFalse room =>
          refine (Touches.addClaim p _).bounded (holding_bounded ?_ b)
          rw [List.length_append, List.length_singleton]
          omega
  | removeHold p tune =>
    unfold removeHold
    split
    · exact (Touches.removeClaim p _).bounded (holding_bounded ((List.length_filter_le _ _).trans b.holds) b)
    · exact b
  | clearHolds tune => exact (Touches.emptyTuningHolds s).bounded b
  | readGroup g => exact same (clearGroup_claims g s) (by simp [readGroup]) (clearGroup_chambers g s) (by simp [readGroup])
  | snapshot =>
    have each : ∀ g t, ListsBounded t → ListsBounded (clearGroup g t) := fun g t => Touches.bounded_of
      (by simp) (by simp) (by simp) (by simp) (by simp)
    exact forEach_keeps each (List.range 4) s b
  | maskItem x =>
    have masked : ListsBounded (s.setMasked x.1 x.2) := same rfl rfl rfl rfl
    exact listsBounded_keptByTraffic.reports.announce _ _ masked
  | ciphers x => exact listsBounded_keptByChambers.clearCiphers x s b
  | releaseAll =>
    have asked : ListsBounded (askRelease s) := (Touches.askRelease s).bounded b
    have drained : ListsBounded (drainReleases (askRelease s)) := (Touches.drainReleases _).bounded asked
    simp only [releaseAll]
    exact drained
  | curve read inTable taken => exact same rfl rfl rfl rfl
  | _ => exact same rfl rfl rfl rfl

theorem countDown_bounded {s : State} (b : ListsBounded s) : ListsBounded (countDown s) where
  pizz := by
    have counted : (countDown s).claims.pizz = s.claims.pizz.map countPizz := rfl
    rw [counted, List.length_map]
    exact b.pizz
  holds := b.holds
  players n run playing := by
    have counted : (countDown s).player n = countPlayer (s.player n) := Table.get_mapListed rfl s.sequencer.players n
    rw [counted] at playing
    cases was : s.player n with
    | none => rw [was] at playing; exact absurd playing (by simp [countPlayer])
    | some old =>
      rw [was] at playing
      have counted : { old with timer := old.timer - 1 } = run := Option.some.inj playing
      rw [← counted]
      exact b.players n old was
  ciphers c := by
    rw [countDown_chamber]
    split
    · rw [countChamber_eq]
      exact b.ciphers c
    · exact b.ciphers c
  waiting := b.waiting

/-- Settles O5: playing, the chambers and the traffic keep the bounds, each list growing only within its capacity, and the
waiting set is written only by `Table.put`. -/
theorem listsStayBounded : Obligations.ListsStayBounded := by
  unfold Obligations.ListsStayBounded
  intro s t bounded stepped
  have reports := listsBounded_keptByTraffic.reports
  have chambers := listsBounded_keptByChambers
  have leaves : ∀ s, ListsBounded s → ListsBounded (leaveQueue s) := fun _ b =>
    ⟨b.pizz, b.holds, b.players, b.ciphers, b.waiting⟩
  have loses : ∀ s, ListsBounded s → ListsBounded (reportLoss s) := by
    intro s b
    obtain ⟨t, touched, same | same⟩ := reportLoss_touched s
    · rw [same]
      exact touched.bounded b
    · rw [same]
      exact listsBounded_keptByTraffic.freed _ _ (touched.bounded b)
  refine step_keeps (P := ListsBounded) ?_ (fun s b => countDown_bounded b) chambers.transmitAll
    (fun _ _ b => ⟨b.pizz, b.holds, b.players, b.ciphers, b.waiting⟩) bounded stepped
  refine exec_keeps reports chambers (fun s i u act b => ?_) (fun s acted serves b => serves_bounded serves b) leaves
    (fun s strap b => ?_) (fun s b => ?_)
  · exact act_keeps_touched listsBounded_keptByTraffic chambers (fun _ _ touched b => touched.bounded b)
      (fun kind r image s b => (Touches.takeScan kind r image s).bounded b) loses act b
  · exact ⟨listsBounded_reset.pizz, listsBounded_reset.holds, listsBounded_reset.players, listsBounded_reset.ciphers,
      listsBounded_reset.waiting⟩
  · refine ⟨Nat.zero_le _, Nat.zero_le _, listsBounded_reset.players, fun c => ?_, listsBounded_reset.waiting⟩
    rw [resetBlocks_chamber]
    split
    · have empty : (s.chamber c).relayReset.ciphers = [] := rfl
      rw [empty]
      exact Nat.zero_le _
    · exact listsBounded_reset.ciphers c

end Sys2Proof.Machine
end

section
/-! PROOF. Claims, the cipher guard and the couplings: what a claim added or removed, a strike and a change of demand come to
(R40, R47, R48, R67, R69, R146, R147). -/

namespace Sys2Proof.Machine

/-! ### Counts -/

theorem claimCount_congr (s : State) {p q : Point} (same : q.index = p.index) : s.claimCount q = s.claimCount p := by
  unfold State.claimCount
  rw [same]

theorem claimCount_of_counts {s t : State} (same : t.claims.counts = s.claims.counts) (q : Point) :
    t.claimCount q = s.claimCount q := congrArg (fun c => Table.get c 0 q.index) same

theorem claimCount_setClaimCount (p q : Point) (n : Nat) (s : State) :
    (s.setClaimCount p n).claimCount q = if q.index = p.index then n else s.claimCount q := Table.get_put _ _ _ _ _

theorem demandOf_congr (s : State) {p q : Point} (same : q.index = p.index) : s.demandOf q = s.demandOf p := by
  unfold State.demandOf
  rw [same]

theorem demandOf_of_demand {s t : State} (same : t.pool.demand = s.pool.demand) (q : Point) :
    t.demandOf q = s.demandOf q := congrArg (fun c => Table.get c 0 q.index) same

theorem demandOf_setDemand (p q : Point) (n : Nat) (s : State) :
    (s.setDemand p n).demandOf q = if q.index = p.index then n else s.demandOf q := Table.get_put _ _ _ _ _

theorem addClaim_moves (p : Point) (s : State) : ClaimsMove (· + 1) p s (addClaim p s) := by
  intro q
  have counted : (addClaim p s).claimCount q = (s.setClaimCount p (s.claimCount p + 1)).claimCount q := by
    simp only [addClaim]
    split
    · exact claimCount_of_counts ((Touches.startOnTimer p _).counts (by decide)) q
    · rfl
  rw [counted, claimCount_setClaimCount]
  split
  case isTrue same => rw [claimCount_congr s same]
  · rfl

theorem removeClaim_moves (p : Point) (s : State) : ClaimsMove (· - 1) p s (removeClaim p s) := by
  intro q
  have cleared : ∀ t, (clearGuard p t).claims.counts = t.claims.counts := fun t =>
    congrArg ClaimStore.counts (by
      unfold clearGuard latchCipherChange
      dsimp only
      split
      · rfl
      · exact latch_claims _ _)
  have counted : (removeClaim p s).claimCount q = (s.setClaimCount p (s.claimCount p - 1)).claimCount q := by
    simp only [removeClaim]
    split
    · exact claimCount_of_counts (cleared _) q
    · rfl
  rw [counted, claimCount_setClaimCount]
  split
  case isTrue same => rw [claimCount_congr s same]
  · rfl

theorem raiseDemand_moves (p : Point) (s : State) : DemandMoves (· + 1) p s (raiseDemand p s) := by
  intro q
  have counted : (raiseDemand p s).demandOf q = (s.setDemand p (s.demandOf p + 1)).demandOf q := by
    simp only [raiseDemand]
    split
    · exact demandOf_of_demand ((Touches.demandRise p _).demand (by decide)) q
    · rfl
  rw [counted, demandOf_setDemand]
  split
  case isTrue same => rw [demandOf_congr s same]
  · rfl

theorem lowerDemand_moves (p : Point) (s : State) : DemandMoves (· - 1) p s (lowerDemand p s) := by
  intro q
  have counted : (lowerDemand p s).demandOf q = (s.setDemand p (s.demandOf p - 1)).demandOf q := by
    simp only [lowerDemand]
    split
    · exact demandOf_of_demand ((Touches.demandFall p _).demand (by decide)) q
    · rfl
  rw [counted, demandOf_setDemand]
  split
  case isTrue same => rw [demandOf_congr s same]
  · rfl

/-! ### The cipher guard -/

theorem Chamber.guarded_setGuard (ch : Chamber) (p q : Nat) (g : Bool) (x : Option Nat) :
    (ch.setGuard p g x).guarded q = if q = p then g else ch.guarded q := Table.get_put _ _ _ _ _

theorem Chamber.onTimer_setGuard (ch : Chamber) (p q : Nat) (g : Bool) (x : Option Nat) :
    (ch.setGuard p g x).onTimer q = if q = p then x else ch.onTimer q := Table.get_put _ _ _ _ _

/-- R146: a pipe point under a limit above 0 has its on-timer started in PLAY; nothing else starts one. -/
theorem startOnTimer_cases (p : Point) (s : State) :
    (∃ k, s.mode = .play ∧ s.rankOf p = some k ∧ (s.rank k).kind = .pipe ∧ 0 < (s.rank k).cipherLimit ∧
      startOnTimer p s = s.setChamber p.chamber ((s.chamber p.chamber).setGuard p.point
        ((s.chamber p.chamber).guarded p.point) (some (1000 * (s.rank k).cipherLimit)))) ∨
    ((s.mode ≠ .play ∨ s.isPipe p = false ∨ ∃ k, s.rankOf p = some k ∧ (s.rank k).cipherLimit = 0) ∧
      startOnTimer p s = s) := by
  unfold startOnTimer
  split
  case isTrue playing =>
    obtain ⟨play, pipe⟩ := playing
    cases ranked : s.rankOf p with
    | none => simp [State.isPipe, ranked] at pipe
    | some k =>
      simp only [State.isPipe, ranked, decide_eq_true_eq] at pipe
      by_cases limited : 0 < (s.rank k).cipherLimit
      · exact .inl ⟨k, play, rfl, pipe, limited, by simp only [if_pos limited]⟩
      · exact .inr ⟨.inr (.inr ⟨k, rfl, by omega⟩), by simp only [if_neg limited]⟩
  case isFalse silent =>
    refine .inr ⟨?_, rfl⟩
    by_cases play : s.mode = .play
    · exact .inr (.inl (by simpa using fun pipe => silent ⟨play, pipe⟩))
    · exact .inl play

/-- R146: what the start of an on-timer leaves. -/
theorem startOnTimer_timer (p : Point) (s : State) :
    (∀ c q, ¬(c = p.chamber ∧ q = p.point) → ((startOnTimer p s).chamber c).onTimer q = (s.chamber c).onTimer q) ∧
    (∀ c q, ((startOnTimer p s).chamber c).guarded q = (s.chamber c).guarded q) ∧
    (∀ c, ((startOnTimer p s).chamber c).ciphers = (s.chamber c).ciphers) ∧
    (startOnTimer p s).status = s.status := by
  obtain ⟨k, -, -, -, -, started⟩ | ⟨-, still⟩ := startOnTimer_cases p s
  · rw [started]
    refine ⟨fun c q apart => ?_, fun c q => ?_, fun c => ?_, rfl⟩
    · rw [chamber_setChamber]
      split
      case isTrue same =>
        rw [Chamber.onTimer_setGuard, if_neg (fun at_point => apart ⟨same, at_point⟩), same]
      · rfl
    · rw [chamber_setChamber]
      split
      case isTrue same =>
        rw [Chamber.guarded_setGuard, same]
        split <;> simp_all
      · rfl
    · rw [chamber_setChamber]
      split
      case isTrue same => rw [same]; rfl
      · rfl
  · rw [still]
    exact ⟨fun _ _ _ => rfl, fun _ _ => rfl, fun _ => rfl, rfl⟩

/-- R47, R48, R146: a claim added. -/
theorem addClaim_rises (p : Point) (s : State) : ClaimRises p s (addClaim p s) := by
  have counted := addClaim_moves p s
  obtain ⟨timers, guards, lists, status⟩ := startOnTimer_timer p (s.setClaimCount p (s.claimCount p + 1))
  by_cases rise : s.claimCount p = 0
  · have added : addClaim p s = startOnTimer p (s.setClaimCount p (s.claimCount p + 1)) := by
      simp only [addClaim]
      rw [if_pos rise]
    rw [added] at counted ⊢
    refine ⟨counted, ?_, ?_, timers, guards, lists, latched_of_status (congrArg Status.latched status) _⟩
    · intro _ play k ranked pipe limited
      obtain ⟨k', -, ranked', -, -, started⟩ | ⟨still, -⟩ := startOnTimer_cases p (s.setClaimCount p (s.claimCount p + 1))
      · have same : k' = k := Option.some.inj (ranked'.symm.trans ranked)
        subst same
        rw [started, chamber_setChamber_same, Chamber.onTimer_setGuard, if_pos rfl]
        rfl
      · obtain quiet | unpiped | ⟨k', ranked', unlimited⟩ := still
        · exact absurd play quiet
        · have unpiped' : s.isPipe p = false := unpiped
          simp [State.isPipe, ranked, pipe] at unpiped'
        · have same : k' = k := Option.some.inj (ranked'.symm.trans ranked)
          subst same
          exact absurd limited (by rw [show (s.rank k').cipherLimit = 0 from unlimited]; decide)
    · intro quiet
      obtain ⟨k', play, ranked', pipe, limited, -⟩ | ⟨-, still⟩ :=
        startOnTimer_cases p (s.setClaimCount p (s.claimCount p + 1))
      · obtain claimed | silent | unpiped | ⟨k, ranked, unlimited⟩ := quiet
        · omega
        · exact absurd play silent
        · have pipe' : (s.rank k').kind = .pipe := pipe
          have ranked'' : s.rankOf p = some k' := ranked'
          simp [State.isPipe, ranked'', pipe'] at unpiped
        · have same : k = k' := Option.some.inj (ranked.symm.trans ranked')
          subst same
          have limited' : 0 < (s.rank k).cipherLimit := limited
          omega
      · rw [still]
        rfl
  · have added : addClaim p s = s.setClaimCount p (s.claimCount p + 1) := by
      simp only [addClaim]
      rw [if_neg rise]
    rw [added] at counted ⊢
    exact ⟨counted, fun none => absurd none rise, fun _ => rfl, fun _ _ _ => rfl, fun _ _ => rfl, fun _ => rfl, rfl⟩

theorem cipherAny_of_chambers {s t : State} (same : t.chambers = s.chambers) : t.cipherAny = s.cipherAny := by
  unfold State.cipherAny State.chamber
  rw [same]

theorem latchCipherChange_latched (before s : State) : (latchCipherChange before s).latched .cipher =
    (s.latched .cipher || decide ((latchCipherChange before s).cipherAny ≠ before.cipherAny)) := by
  rw [cipherAny_of_chambers ((Touches.latchCipherChange before s).chambers (by decide))]
  unfold latchCipherChange
  split
  case isTrue same => simp [same]
  case isFalse changed => rw [latch_latched_same]; simp [changed]

/-- The chamber of a point whose guard has been cleared. -/
def Chamber.cleared (ch : Chamber) (p : Nat) : Chamber :=
  { ch.setGuard p false none with ciphers := ch.ciphers.filter (fun e => e.point ≠ p) }

theorem clearGuard_chamber (p : Point) (s : State) (c : Nat) : (clearGuard p s).chamber c =
    if c = p.chamber then (s.chamber p.chamber).cleared p.point else s.chamber c := by
  have same : (clearGuard p s).chambers = (s.setChamber p.chamber ((s.chamber p.chamber).cleared p.point)).chambers :=
    (Touches.latchCipherChange s _).chambers (by decide)
  exact (congrArg (fun t => Table.get t resetChamber c) same).trans (chamber_setChamber s _ c _)

theorem clearGuard_latched (p : Point) (s : State) : (clearGuard p s).latched .cipher =
    (s.latched .cipher || decide ((clearGuard p s).cipherAny ≠ s.cipherAny)) := latchCipherChange_latched s _

theorem Chamber.cleared_guarded (ch : Chamber) (p q : Nat) :
    (ch.cleared p).guarded q = if q = p then false else ch.guarded q := ch.guarded_setGuard p q false none

theorem Chamber.cleared_onTimer (ch : Chamber) (p q : Nat) :
    (ch.cleared p).onTimer q = if q = p then none else ch.onTimer q := ch.onTimer_setGuard p q false none

/-- R146, R148: what the clearing of a guard leaves. -/
theorem clearGuard_unguarded (p : Point) (s : State) : (clearGuard p s).Unguarded p where
  guard := by rw [clearGuard_chamber, if_pos rfl, Chamber.cleared_guarded, if_pos rfl]
  timer := by rw [clearGuard_chamber, if_pos rfl, Chamber.cleared_onTimer, if_pos rfl]
  entry e mem := by
    rw [clearGuard_chamber, if_pos rfl] at mem
    exact of_decide_eq_true (List.mem_filter.1 mem).2

theorem clearGuard_others (p : Point) (s : State) : ∀ c q, ¬(c = p.chamber ∧ q = p.point) →
    ((clearGuard p s).chamber c).guarded q = (s.chamber c).guarded q ∧
      ((clearGuard p s).chamber c).onTimer q = (s.chamber c).onTimer q := by
  intro c q apart
  rw [clearGuard_chamber]
  split
  case isTrue same =>
    have other : q ≠ p.point := fun at_point => apart ⟨same, at_point⟩
    rw [Chamber.cleared_guarded, Chamber.cleared_onTimer, if_neg other, if_neg other, same]
    exact ⟨rfl, rfl⟩
  · exact ⟨rfl, rfl⟩

/-- R47, R48, R146, R147: a claim removed. -/
theorem removeClaim_falls (p : Point) (s : State) : ClaimFalls p s (removeClaim p s) := by
  have counted := removeClaim_moves p s
  by_cases fall : s.claimCount p = 1
  · have removed : removeClaim p s = clearGuard p (s.setClaimCount p (s.claimCount p - 1)) := by
      simp only [removeClaim]
      rw [if_pos fall]
    rw [removed] at counted ⊢
    refine ⟨counted, fun _ => ⟨clearGuard_unguarded p _, ?_⟩, fun claimed => absurd fall claimed,
      clearGuard_others p _, fun c apart => ?_, clearGuard_latched p _⟩
    · rw [clearGuard_chamber, if_pos rfl]
      rfl
    · rw [clearGuard_chamber, if_neg apart]
      rfl
  · have removed : removeClaim p s = s.setClaimCount p (s.claimCount p - 1) := by
      simp only [removeClaim]
      rw [if_neg fall]
    rw [removed] at counted ⊢
    have same : (s.setClaimCount p (s.claimCount p - 1)).cipherAny = s.cipherAny := cipherAny_of_chambers rfl
    exact ⟨counted, fun one => absurd one fall, fun _ => ⟨rfl, rfl, rfl⟩, fun _ _ _ => ⟨rfl, rfl⟩, fun _ _ => rfl,
      by rw [same]; simp only [ne_eq, not_true_eq_false, decide_false, Bool.or_false]; rfl⟩

end Sys2Proof.Machine
end

section
/-! PROOF. The expiry of an on-timer, the couplings of a stop, the pizzicato list, and the hold service of a split entry (R40,
R50 to R53, R94, R99, R147). -/

namespace Sys2Proof.Machine

/-! ### What reports leave -/

section Reports

variable {u t : State} (reports : ReportsOnly u t)

include reports

theorem claimCount_of_reports (q : Point) : t.claimCount q = u.claimCount q := by
  unfold State.claimCount
  rw [reports.claims]

theorem demandOf_of_reports (q : Point) : t.demandOf q = u.demandOf q := by
  unfold State.demandOf
  rw [reports.pool]

theorem strikeTimer_of_reports (q : Point) : t.strikeTimer q = u.strikeTimer q := by
  unfold State.strikeTimer
  rw [reports.pool]

theorem route_of_reports (i : Nat) : t.route i = u.route i := by
  unfold State.route
  rw [reports.router]

theorem player_of_reports (n : Nat) : t.player n = u.player n := by
  unfold State.player
  rw [reports.sequencer]

theorem row_of_reports (kind : RowKind) (r : Nat) : t.row kind r = u.row kind r := by
  cases kind <;> simp only [State.row, reports.scan]

theorem guarded_of_reports (c q : Nat) : (t.chamber c).guarded q = (u.chamber c).guarded q := by
  rw [reports.chambers c]
  rfl

theorem onTimer_of_reports (c q : Nat) : (t.chamber c).onTimer q = (u.chamber c).onTimer q := by
  rw [reports.chambers c]
  rfl

theorem ciphers_of_reports (c : Nat) : (t.chamber c).ciphers = (u.chamber c).ciphers := by rw [reports.chambers c]

theorem chamberState_of_reports (c : Nat) : (t.chamber c).state = (u.chamber c).state := by rw [reports.chambers c]

theorem cipherAny_of_reports : t.cipherAny = u.cipherAny := by
  unfold State.cipherAny
  simp only [ciphers_of_reports reports]

end Reports

/-! ### What playing leaves whole -/

section Touched

variable {A : List Part} {s t : State} (touched : Touches A s t)

include touched

theorem pool_of_touches (strike : .strike ∉ A) (demand : .demand ∉ A) (generator : .generator ∉ A)
    (tremDemand : .tremDemand ∉ A) (waiting : .waiting ∉ A) : t.pool = s.pool := by
  have strikes := touched.strikes strike
  have demands := touched.demand demand
  have generators := touched.generators generator
  have tremulants := touched.tremulants
  have tremDemands := touched.tremDemand tremDemand
  have waits := touched.waiting waiting
  revert strikes demands generators tremulants tremDemands waits
  obtain ⟨_, _, _, _, _, _⟩ := t.pool
  rintro rfl rfl rfl rfl rfl rfl
  rfl

theorem scan_of_touches (key : .row .key ∉ A) (stop : .row .stop ∉ A) (input : .row .input ∉ A) (ask : .ask ∉ A) :
    t.scan = s.scan :=
  touched.scanned (fun kind => by cases kind <;> assumption) ask

theorem claims_of_touches (count : .count ∉ A) (pizz : .pizz ∉ A) (hold : .hold ∉ A) : t.claims = s.claims := by
  have counts := touched.counts count
  have list := touched.pizz pizz
  have holds := touched.holds hold
  revert counts list holds
  obtain ⟨_, _, _⟩ := t.claims
  rintro rfl rfl rfl
  rfl

theorem engine_of_touches (active : .active ∉ A) : t.engine = s.engine := by
  rw [touched.engine, touched.active active]

theorem router_of_touches (route : .route ∉ A) (maskDemand : .maskDemand ∉ A) : t.router = s.router := by
  have entries := touched.routes route
  have demands := touched.maskDemand maskDemand
  revert entries demands
  obtain ⟨_, _⟩ := t.router
  rintro rfl rfl
  rfl

theorem sequencer_of_touches (player : .player ∉ A) : t.sequencer = s.sequencer := by
  have memory := touched.memory
  have directory := touched.directory
  have players := touched.players player
  revert memory directory players
  obtain ⟨_, _, _⟩ := t.sequencer
  rintro rfl rfl rfl
  rfl

/-- The mapping of a stop, and the ranks it names, stand. -/
theorem stop_of_touches (n : Nat) : t.stop n = s.stop n := by
  unfold State.stop
  rw [touched.engine]

theorem rank_of_touches (r : Nat) : t.rank r = s.rank r := by
  unfold State.rank
  rw [touched.engine]

theorem target_of_touches (m : MappingFields) (k : Nat) : t.target m k = s.target m k := by
  have ranks : t.rank = s.rank := funext (rank_of_touches touched)
  unfold State.target
  rw [ranks]

theorem rankOf_of_touches (p : Point) : t.rankOf p = s.rankOf p := by
  unfold State.rankOf
  simp only [rank_of_touches touched]

theorem route_of_touches (route : .route ∉ A) (i : Nat) : t.route i = s.route i := by
  unfold State.route
  rw [touched.routes route]

theorem player_of_touches (player : .player ∉ A) (n : Nat) : t.player n = s.player n := by
  unfold State.player
  rw [touched.players player]

end Touched

/-- The part is no report of the item. -/
def Part.spares (j : StatusItem) : Part → Bool
  | .report i => decide (itemIndex i ≠ itemIndex j)
  | _ => true

theorem Touches.latched_same {A : List Part} {s t : State} (touched : Touches A s t) {j : StatusItem}
    (own : itemIndex j ≠ itemIndex .returnOverrun) (apart : A.all (Part.spares j) = true) : t.latched j = s.latched j :=
  touched.flags j own fun i mem => of_decide_eq_true (List.all_eq_true.1 apart (.report i) mem)

/-! ### The expiry of an on-timer -/

/-- R147: a chamber whose point has become guarded, with what it lists then. -/
def Chamber.guardSet (ch : Chamber) (p : Nat) (list : List CipherEntry) : Chamber :=
  { ch.setGuard p true none with ciphers := list }

theorem onTimerExpires_chambers {s : State} {p : Point} (running : ((s.chamber p.chamber).onTimer p.point).isSome = true) :
    ∃ list, (onTimerExpires p s).chambers =
        (s.setChamber p.chamber ((s.chamber p.chamber).guardSet p.point list)).chambers ∧
      (onTimerExpires p s).latched .cipher = true ∧
      ((s.chamber p.chamber).ciphers.length < Config.cipherCapacity → list = (s.chamber p.chamber).ciphers ++
        [⟨p.point, (s.rankOf p).getD 0, s.claimCount p⟩]) ∧
      (¬(s.chamber p.chamber).ciphers.length < Config.cipherCapacity → list = (s.chamber p.chamber).ciphers ∧
        (onTimerExpires p s).latched .cipherOverflow = true) := by
  have started : ((s.chamber p.chamber).onTimer p.point).isNone = false := by
    rw [Option.isNone_eq_false_iff]
    exact running
  by_cases room : (s.chamber p.chamber).ciphers.length < Config.cipherCapacity
  · refine ⟨_, ?_, ?_, fun _ => rfl, fun full => absurd room full⟩
    · simp only [onTimerExpires, started, room, if_true]
      exact latch_chambers _ _
    · simp only [onTimerExpires, started, room, if_true]
      exact latch_latched_same _ _
  · refine ⟨(s.chamber p.chamber).ciphers, ?_, ?_, fun few => absurd few room, fun _ => ⟨rfl, ?_⟩⟩
    · simp only [onTimerExpires, started, room, if_false]
      exact (latch_chambers _ _).trans (latch_chambers _ _)
    · simp only [onTimerExpires, started, room, if_false]
      exact latch_latched_same _ _
    · simp only [onTimerExpires, started, room, if_false]
      exact latch_rises _ _ _ (latch_latched_same _ _)

theorem onTimerExpires_units (p : Point) (s : State) :
    (onTimerExpires p s).claims = s.claims ∧ (onTimerExpires p s).pool = s.pool ∧
    (onTimerExpires p s).engine = s.engine ∧ (onTimerExpires p s).scan = s.scan ∧
    (onTimerExpires p s).router = s.router ∧ (onTimerExpires p s).sequencer = s.sequencer ∧
    (onTimerExpires p s).expression = s.expression := by
  simp only [onTimerExpires]
  split
  · exact ⟨rfl, rfl, rfl, rfl, rfl, rfl, rfl⟩
  · split
    · exact ⟨latch_claims _ _, latch_pool _ _, latch_engine _ _, latch_scan _ _, latch_router _ _, latch_sequencer _ _,
        latch_expression _ _⟩
    · exact ⟨(latch_claims _ _).trans (latch_claims _ _), (latch_pool _ _).trans (latch_pool _ _),
        (latch_engine _ _).trans (latch_engine _ _), (latch_scan _ _).trans (latch_scan _ _),
        (latch_router _ _).trans (latch_router _ _), (latch_sequencer _ _).trans (latch_sequencer _ _),
        (latch_expression _ _).trans (latch_expression _ _)⟩

/-- Settles O53, by what a claim added, a claim removed and an on-timer's expiry come to. -/
theorem onTimerGuardsPoint : Obligations.OnTimerGuardsPoint := by
  refine ⟨fun s p => ⟨addClaim_rises p s, removeClaim_falls p s⟩, fun s c p running => ?_⟩
  obtain ⟨reports, -⟩ := conclude_quietly s (onTimerExpires ⟨c, p⟩ s)
  obtain ⟨claims, pool, engine, scan, router, sequencer, expression⟩ := onTimerExpires_units ⟨c, p⟩ s
  obtain ⟨list, chambers, cipher, listed, full⟩ := onTimerExpires_chambers (s := s) (p := ⟨c, p⟩) running
  have guarded : (onTimerExpires ⟨c, p⟩ s).chamber c = (s.chamber c).guardSet p list :=
    (congrArg (fun t => Table.get t resetChamber c) chambers).trans (chamber_setChamber_same s c _)
  have lists : ((onTimerExpires ⟨c, p⟩ s).chamber c).ciphers = list := by rw [guarded]; rfl
  have flag : ∀ i, i ≠ StatusItem.returnOverrun → (onTimerExpires ⟨c, p⟩ s).latched i = true →
      (conclude s (onTimerExpires ⟨c, p⟩ s)).latched i = true := fun i own set => (reports.flags i own).trans set
  refine ⟨_, rfl, ?_, ?_, flag _ (by decide) cipher, ?_, ?_, ?_, ?_, reports.claims.trans claims,
    reports.pool.trans pool, reports.engine.trans engine, reports.scan.trans scan, reports.router.trans router,
    reports.sequencer.trans sequencer, reports.expression.trans expression⟩
  · rw [guarded_of_reports reports, guarded]
    exact ((s.chamber c).guarded_setGuard p p true none).trans (if_pos rfl)
  · rw [onTimer_of_reports reports, guarded]
    exact ((s.chamber c).onTimer_setGuard p p true none).trans (if_pos rfl)
  · intro few r ranked
    rw [ciphers_of_reports reports, lists, listed few, ranked]
    rfl
  · intro many
    obtain ⟨same, overflow⟩ := full (by simpa [Config.cipherCapacity] using many)
    exact ⟨by rw [ciphers_of_reports reports, lists, same], flag _ (by decide) overflow⟩
  · intro q apart
    rw [guarded_of_reports reports, onTimer_of_reports reports, guarded]
    exact ⟨((s.chamber c).guarded_setGuard p q true none).trans (if_neg apart),
      ((s.chamber c).onTimer_setGuard p q true none).trans (if_neg apart)⟩
  · rw [chamberState_of_reports reports, guarded]
    rfl

/-! ### Strikes -/

theorem strikeTimer_congr (s : State) {p q : Point} (same : q.index = p.index) : s.strikeTimer q = s.strikeTimer p := by
  unfold State.strikeTimer
  rw [same]

theorem strikeTimer_setStrikeTimer (p q : Point) (x : Option Nat) (s : State) :
    (s.setStrikeTimer p x).strikeTimer q = if q.index = p.index then x else s.strikeTimer q := Table.get_put _ _ _ _ _

/-- R67: a strike that is absorbed, or misses the struck points, leaves the state alone; any other starts the timer. -/
theorem strike_cases (p : Point) (s : State) :
    (s.isStruck p = false ∧ strike p s = s) ∨ ∃ r, s.rankOf p = some r ∧ (s.rank r).kind = .struck ∧
      (((s.servedBy (.struck p)).isSome ∨ (s.strikeTimer p).isSome) ∧ strike p s = s ∨
        ¬((s.servedBy (.struck p)).isSome ∨ (s.strikeTimer p).isSome) ∧
          strike p s = s.setStrikeTimer p (some (s.rank r).strikeLength)) := by
  unfold strike
  split
  case h_1 none => exact .inl ⟨by simp [State.isStruck, none], rfl⟩
  case h_2 r ranked =>
    split
    case isTrue struck =>
      refine .inr ⟨r, ranked, struck, ?_⟩
      split
      case isTrue absorbed => exact .inl ⟨by simpa using absorbed, rfl⟩
      case isFalse free => exact .inr ⟨by simpa using free, rfl⟩
    case isFalse other => exact .inl ⟨by simp [State.isStruck, ranked, other], rfl⟩

theorem strike_taken (p : Point) (s : State) : StrikeTaken p s (strike p s) := by
  obtain ⟨unstruck, still⟩ | ⟨r, ranked, struck, ⟨absorbed, still⟩ | ⟨free, started⟩⟩ := strike_cases p s
  · rw [still]
    refine ⟨rfl, fun r ranked struck => ?_, fun _ => rfl, fun _ _ => rfl⟩
    simp [State.isStruck, ranked, struck] at unstruck
  · rw [still]
    exact ⟨rfl, fun _ _ _ => (if_pos absorbed).symm, fun _ => rfl, fun _ _ => rfl⟩
  · rw [started]
    refine ⟨rfl, fun r' ranked' _ => ?_, fun unstruck => ?_, fun q apart => ?_⟩
    · have same : r = r' := Option.some.inj (ranked.symm.trans ranked')
      rw [strikeTimer_setStrikeTimer, if_pos rfl, if_neg free, same]
    · simp [State.isStruck, ranked, struck] at unstruck
    · rw [strikeTimer_setStrikeTimer, if_neg apart]

/-- R67: a strike changes the pool alone. -/
theorem strike_pool (p : Point) (s : State) : strike p s = s.setPool (strike p s).pool := by
  obtain ⟨-, still⟩ | ⟨r, -, -, ⟨-, still⟩ | ⟨-, started⟩⟩ := strike_cases p s
  · rw [still]; rfl
  · rw [still]; rfl
  · rw [started]; rfl

/-! ### Couplings -/

section Coupling

variable {s : State} {r k n : Nat}

theorem startCoupling_silent (silent : s.target (s.stop n).mapping k = none) : startCoupling r k n s = s := by
  simp only [startCoupling, silent]

theorem endCoupling_silent (silent : s.target (s.stop n).mapping k = none) : endCoupling r k n s = s := by
  simp only [endCoupling, silent]

variable {p : Point} (sounds : s.target (s.stop n).mapping k = some p)

include sounds

theorem startCoupling_struck (kind : (s.stop n).kind = .struck) : startCoupling r k n s = strike p s := by
  simp only [startCoupling, sounds, kind]

theorem startCoupling_reiterate (kind : (s.stop n).kind = .reiterate) : startCoupling r k n s = raiseDemand p s := by
  simp only [startCoupling, sounds, kind]

theorem endCoupling_reiterate (kind : (s.stop n).kind = .reiterate) : endCoupling r k n s = lowerDemand p s := by
  simp only [endCoupling, sounds, kind]

theorem startCoupling_tonal (kind : (s.stop n).kind = .tonal) (held : (s.stop n).pizz = none) :
    startCoupling r k n s = addClaim p s := by
  simp only [startCoupling, sounds, kind, held]

theorem startCoupling_pizzicato (kind : (s.stop n).kind = .tonal) {length : Nat} (short : (s.stop n).pizz = some length) :
    startCoupling r k n s = addPizz ⟨r, k, n, p, length, false⟩ (addClaim p s) := by
  simp only [startCoupling, sounds, kind, short]

theorem endCoupling_tonal (kind : (s.stop n).kind = .tonal) : endCoupling r k n s = endTonal r k n p s := by
  simp only [endCoupling, sounds, kind]

end Coupling

/-- R40: a STRUCK coupling ends with nothing. -/
theorem endCoupling_struck {s : State} {r k n : Nat} (kind : (s.stop n).kind = .struck) : endCoupling r k n s = s := by
  simp only [endCoupling, kind]
  split <;> rfl

/-- R40: a kind without mapping couples nothing. -/
theorem startCoupling_unmapped {s : State} {r k n : Nat} (kind : (s.stop n).kind.hasMapping = false) :
    startCoupling r k n s = s := by
  simp only [startCoupling]
  split
  · rfl
  · split <;> simp_all [StopKind.hasMapping]

theorem endCoupling_unmapped {s : State} {r k n : Nat} (kind : (s.stop n).kind.hasMapping = false) :
    endCoupling r k n s = s := by
  simp only [endCoupling]
  split
  · rfl
  · split <;> simp_all [StopKind.hasMapping]

/-- A claim added with a change that leaves counts, chambers and CIPHER alone. -/
theorem ClaimRises.then {p : Point} {s t u : State} (rises : ClaimRises p s t)
    (counts : u.claims.counts = t.claims.counts) (chambers : u.chambers = t.chambers)
    (cipher : u.latched .cipher = t.latched .cipher) : ClaimRises p s u := by
  have same : ∀ c, u.chamber c = t.chamber c := fun c => congrArg (fun x => Table.get x resetChamber c) chambers
  exact
    { count := fun q => (claimCount_of_counts counts q).trans (rises.count q)
      timed := fun none play r ranked pipe limited => by rw [same]; exact rises.timed none play r ranked pipe limited
      untimed := fun quiet => by rw [same]; exact rises.untimed quiet
      timers := fun c q apart => by rw [same]; exact rises.timers c q apart
      guards := fun c q => by rw [same]; exact rises.guards c q
      lists := fun c => by rw [same]; exact rises.lists c
      cipher := cipher.trans rises.cipher }

/-- A claim removed with a change that leaves counts, chambers and CIPHER alone. -/
theorem ClaimFalls.then {p : Point} {s t u : State} (falls : ClaimFalls p s t)
    (counts : u.claims.counts = t.claims.counts) (chambers : u.chambers = t.chambers)
    (cipher : u.latched .cipher = t.latched .cipher) : ClaimFalls p s u := by
  have same : ∀ c, u.chamber c = t.chamber c := fun c => congrArg (fun x => Table.get x resetChamber c) chambers
  exact
    { count := fun q => (claimCount_of_counts counts q).trans (falls.count q)
      fallen := fun one => by
        obtain ⟨unguarded, list⟩ := falls.fallen one
        refine ⟨⟨?_, ?_, ?_⟩, ?_⟩
        · rw [same]; exact unguarded.guard
        · rw [same]; exact unguarded.timer
        · rw [same]; exact unguarded.entry
        · rw [same]; exact list
      kept := fun many => by rw [same]; exact falls.kept many
      others := fun c q apart => by rw [same]; exact falls.others c q apart
      lists := fun c apart => by rw [same]; exact falls.lists c apart
      cipher := by rw [cipher, falls.cipher, cipherAny_of_chambers chambers] }

theorem addPizz_room {e : PizzEntry} {s : State} (room : s.claims.pizz.length < Config.pizzCapacity) :
    addPizz e s = s.setClaims { s.claims with pizz := s.claims.pizz ++ [e] } := if_pos room

theorem addPizz_full {e : PizzEntry} {s : State} (full : ¬s.claims.pizz.length < Config.pizzCapacity) :
    addPizz e s = latch .pizzFull s := if_neg full

theorem addPizz_keeps (e : PizzEntry) (s : State) : (addPizz e s).claims.counts = s.claims.counts ∧
    (addPizz e s).chambers = s.chambers ∧ (addPizz e s).latched .cipher = s.latched .cipher :=
  have touched := Touches.addPizz e s
  ⟨touched.counts (by decide), touched.chambers (by decide), touched.latched_same (by decide) (by decide)⟩

section Tonal

variable {s : State} {r k n : Nat} {p : Point}

theorem startTonal_touches (kind : (s.stop n).kind = .tonal) (sounds : s.target (s.stop n).mapping k = some p) :
    Touches [.count, .guard, .pizz, .report .pizzFull] s (startCoupling r k n s) := by
  cases short : (s.stop n).pizz with
  | none =>
    rw [startCoupling_tonal sounds kind short]
    exact (Touches.addClaim p s).mono (by decide)
  | some length =>
    rw [startCoupling_pizzicato sounds kind short]
    exact ((Touches.addClaim p s).mono (by decide)).trans ((Touches.addPizz _ _).mono (by decide))

theorem startTonal_rises (kind : (s.stop n).kind = .tonal) (sounds : s.target (s.stop n).mapping k = some p) :
    ClaimRises p s (startCoupling r k n s) := by
  cases short : (s.stop n).pizz with
  | none =>
    rw [startCoupling_tonal sounds kind short]
    exact addClaim_rises p s
  | some length =>
    rw [startCoupling_pizzicato sounds kind short]
    obtain ⟨counts, chambers, cipher⟩ := addPizz_keeps ⟨r, k, n, p, length, false⟩ (addClaim p s)
    exact (addClaim_rises p s).then counts chambers cipher

theorem endTonal_none (free : s.pizzEntry r k n = none) : endTonal r k n p s = removeClaim p s := by
  simp only [endTonal, free]

theorem endTonal_spent {e : PizzEntry} (entry : s.pizzEntry r k n = some e) (spent : e.spent = true) :
    endTonal r k n p s = deletePizz r k n s := by
  simp only [endTonal, entry, spent, if_true]

theorem endTonal_running {e : PizzEntry} (entry : s.pizzEntry r k n = some e) (running : e.spent = false) :
    endTonal r k n p s = deletePizz r k n (removeClaim e.target s) := by
  simp only [endTonal, entry, running, Bool.false_eq_true, if_false]

end Tonal

theorem removeClaim_pizz (p : Point) (s : State) : (removeClaim p s).claims.pizz = s.claims.pizz :=
  (Touches.removeClaim p s).pizz (by decide)

theorem addClaim_pizz (p : Point) (s : State) : (addClaim p s).claims.pizz = s.claims.pizz :=
  (Touches.addClaim p s).pizz (by decide)

theorem pizzEntry_of_pizz {s t : State} (same : t.claims.pizz = s.claims.pizz) (r k n : Nat) :
    t.pizzEntry r k n = s.pizzEntry r k n := by
  unfold State.pizzEntry
  rw [same]

/-- Settles O13, kind by kind: a strike, a demand moved, or a claim with its pizzicato entry. -/
theorem tonalCouplingClaimsBalance : Obligations.TonalCouplingClaimsBalance := by
  refine ⟨fun s r k n kind => ⟨endCoupling_struck kind, startCoupling_silent, fun p sounds => ?_⟩,
    fun s r k n kind => ⟨fun silent => ⟨startCoupling_silent silent, endCoupling_silent silent⟩, fun p sounds => ?_⟩,
    fun s r k n kind => ⟨fun silent => ⟨startCoupling_silent silent, endCoupling_silent silent⟩, fun p sounds => ?_⟩⟩
  · rw [startCoupling_struck sounds kind]
    exact ⟨strike_taken p s, strike_pool p s⟩
  · rw [startCoupling_reiterate sounds kind, endCoupling_reiterate sounds kind]
    exact ⟨rfl, rfl, raiseDemand_moves p s,
      claims_of_touches (Touches.raiseDemand p s) (by decide) (by decide) (by decide), lowerDemand_moves p s,
      claims_of_touches (Touches.lowerDemand p s) (by decide) (by decide) (by decide)⟩
  · have started := startTonal_touches (r := r) kind sounds
    have ended : Touches (.pizz :: claimParts) s (endCoupling r k n s) := by
      rw [endCoupling_tonal sounds kind]
      exact Touches.endTonal r k n p s
    refine ⟨startTonal_rises kind sounds, pool_of_touches started (by decide) (by decide) (by decide) (by decide)
      (by decide), fun held => ?_, fun length short => ?_, pool_of_touches ended (by decide) (by decide) (by decide)
      (by decide) (by decide), fun free => ?_, fun e entry => ?_⟩
    · rw [startCoupling_tonal sounds kind held]
      refine ⟨addClaim_pizz p s, fun free q => ?_⟩
      have touched := Touches.addClaim p s
      have again : (addClaim p s).target ((addClaim p s).stop n).mapping k = some p := by
        rw [stop_of_touches touched, target_of_touches touched]
        exact sounds
      rw [endCoupling_tonal again (by rw [stop_of_touches touched]; exact kind),
        endTonal_none (by rw [pizzEntry_of_pizz (addClaim_pizz p s)]; exact free), removeClaim_moves p _ q,
        addClaim_moves p s q]
      split
      · exact Nat.add_sub_cancel _ _
      · rfl
    · rw [startCoupling_pizzicato sounds kind short]
      have same : (addClaim p s).claims.pizz = s.claims.pizz := addClaim_pizz p s
      refine ⟨fun few => ?_, fun many => ?_⟩
      · rw [addPizz_room (by rw [same]; exact few)]
        simp only [State.setClaims_claims, same]
      · rw [addPizz_full (by rw [same]; simpa [Config.pizzCapacity] using many), latch_claims]
        exact ⟨same, latch_latched_same _ _⟩
    · rw [endCoupling_tonal sounds kind, endTonal_none free]
      exact ⟨removeClaim_falls p s, removeClaim_pizz p s⟩
    · rw [endCoupling_tonal sounds kind]
      cases spent : e.spent with
      | true =>
        rw [endTonal_spent entry spent]
        exact ⟨rfl, fun live => absurd live (by decide), fun _ => ⟨rfl, fun _ => rfl⟩⟩
      | false =>
        rw [endTonal_running entry spent]
        refine ⟨?_, fun _ => (removeClaim_falls e.target s).then rfl rfl rfl, fun dead => absurd dead (by decide)⟩
        simp only [deletePizz, State.setClaims_claims, removeClaim_pizz]
        rfl

/-! ### The pizzicato list -/

/-- R52: an entry of the coupling with no time left. -/
def PizzEntry.spend (r k n : Nat) (e : PizzEntry) : PizzEntry :=
  if e.row = r ∧ e.key = k ∧ e.stop = n then { e with remaining := 0, spent := true } else e

theorem PizzEntry.names_iff (e : PizzEntry) (r k n : Nat) : e.names r k n = true ↔ e.row = r ∧ e.key = k ∧ e.stop = n := by
  simp [PizzEntry.names, and_assoc]

theorem spendPizz_pizz (r k n : Nat) (s : State) :
    (spendPizz r k n s).claims.pizz = s.claims.pizz.map (PizzEntry.spend r k n) := by
  simp only [spendPizz, State.setClaims_claims]
  refine List.map_congr_left fun e _ => ?_
  unfold PizzEntry.spend
  simp only [PizzEntry.names_iff]

theorem spend_names (e : PizzEntry) (r k n : Nat) : (e.spend r k n).names r k n = e.names r k n := by
  unfold PizzEntry.spend
  split <;> rfl

theorem find_map_spend {r k n : Nat} {e : PizzEntry} {l : List PizzEntry}
    (found : l.find? (fun x => x.names r k n) = some e) :
    (l.map (PizzEntry.spend r k n)).find? (fun x => x.names r k n) = some { e with remaining := 0, spent := true } := by
  have names : ((fun x : PizzEntry => x.names r k n) ∘ PizzEntry.spend r k n) = fun x => x.names r k n :=
    funext fun x => spend_names x r k n
  have named := (PizzEntry.names_iff e r k n).1 (by simpa using List.find?_some found)
  rw [List.find?_map, names, found, Option.map_some, PizzEntry.spend, if_pos named]

theorem spendPizz_units (r k n : Nat) (s : State) :
    (spendPizz r k n s).engine = s.engine ∧ (spendPizz r k n s).pool = s.pool ∧ (spendPizz r k n s).scan = s.scan ∧
      (spendPizz r k n s).router = s.router ∧ (spendPizz r k n s).sequencer = s.sequencer ∧
      (spendPizz r k n s).claims.holds = s.claims.holds ∧ ∀ q, (spendPizz r k n s).claimCount q = s.claimCount q :=
  ⟨rfl, rfl, rfl, rfl, rfl, rfl, fun _ => rfl⟩

theorem map_spend_of_others {r k n : Nat} {l : List PizzEntry}
    (apart : ∀ x ∈ l, ¬(x.row = r ∧ x.key = k ∧ x.stop = n)) : l.map (PizzEntry.spend r k n) = l :=
  (List.map_congr_left fun x mem => if_neg (apart x mem)).trans (List.map_id l)

theorem pizzExpires_running {s : State} {r k n : Nat} {e : PizzEntry} (entry : s.pizzEntry r k n = some e)
    (running : e.spent = false) : pizzExpires r k n s = removeClaim e.target (spendPizz r k n s) := by
  simp only [pizzExpires, entry, running, Bool.false_eq_true, if_false]

/-- What the claim removed from a spent list leaves, for any other change that keeps the units. -/
theorem removeClaim_units (p : Point) (s : State) :
    (removeClaim p s).engine = s.engine ∧ (removeClaim p s).pool = s.pool ∧ (removeClaim p s).scan = s.scan ∧
      (removeClaim p s).router = s.router ∧ (removeClaim p s).sequencer = s.sequencer ∧
      (removeClaim p s).claims.holds = s.claims.holds := by
  have touched := Touches.removeClaim p s
  exact ⟨engine_of_touches touched (by decide),
    pool_of_touches touched (by decide) (by decide) (by decide) (by decide) (by decide),
    scan_of_touches touched (by decide) (by decide) (by decide) (by decide),
    router_of_touches touched (by decide) (by decide), sequencer_of_touches touched (by decide),
    touched.holds (by decide)⟩

/-- Settles O55, by the claim removed and the entry spent in its place. -/
theorem pizzicatoExpirySpendsEntry : Obligations.PizzicatoExpirySpendsEntry := by
  intro s row key stop e entry running
  obtain ⟨engine, pool, scan, router, sequencer, holds, counts⟩ := spendPizz_units row key stop s
  have spent := spendPizz_pizz row key stop s
  have ran : exec (.pizzicatoExpiry row key stop) s =
      .next (conclude s (removeClaim e.target (spendPizz row key stop s))) :=
    congrArg (fun u => Host.Outcome.next (conclude s u)) (pizzExpires_running entry running)
  generalize spendPizz row key stop s = u at *
  obtain ⟨reports, -⟩ := conclude_quietly s (removeClaim e.target u)
  obtain ⟨engine', pool', scan', router', sequencer', holds'⟩ := removeClaim_units e.target u
  have moves := removeClaim_moves e.target u
  have list := ((congrArg ClaimStore.pizz reports.claims).trans (removeClaim_pizz e.target u)).trans spent
  generalize conclude s (removeClaim e.target u) = t at *
  refine ⟨t, ran, ?_, fun q apart => ?_, ?_, list, fun before later split apart => ?_, ?_, ?_, ?_, ?_, ?_, ?_, ?_⟩
  · rw [claimCount_of_reports reports, moves, if_pos rfl, counts]
  · rw [claimCount_of_reports reports, moves, if_neg apart, counts]
  · unfold State.pizzEntry
    rw [list]
    exact find_map_spend entry
  · have named := (PizzEntry.names_iff e row key stop).1 (by simpa using List.find?_some entry)
    rw [list, split, List.map_append, List.map_cons,
      map_spend_of_others fun x mem => apart x (List.mem_append_left _ mem),
      map_spend_of_others fun x mem => apart x (List.mem_append_right _ mem), PizzEntry.spend, if_pos named]
  · rw [list, List.length_map]
  · exact (congrArg ClaimStore.holds reports.claims).trans (holds'.trans holds)
  · exact reports.engine.trans (engine'.trans engine)
  · exact reports.pool.trans (pool'.trans pool)
  · exact reports.scan.trans (scan'.trans scan)
  · exact reports.router.trans (router'.trans router)
  · exact reports.sequencer.trans (sequencer'.trans sequencer)

/-! ### The split timer -/

/-- Settles O56, by the kind of the hold. -/
theorem splitTimerStartsHold : Obligations.SplitTimerStartsHold := by
  intro s i measuring running split
  have started : splitExpires i s = startHold (s.route i).fields.holdKind
      (s.notePoint (s.route i).fields.holdRank (s.route i).fields.holdNote) (setRouteState i .inService none s) := by
    have route : (setRouteState i .inService none s).route i = { s.route i with state := .inService, timer := none } :=
      (route_setRoute s i i _).trans (if_pos rfl)
    simp only [splitExpires, measuring, running, and_self, if_true, startService, route, split]
    rfl
  have ran : exec (.splitTimerExpiry i) s = .next (conclude s (splitExpires i s)) := rfl
  rw [started] at ran
  obtain ⟨reports, -⟩ := conclude_quietly s (startHold (s.route i).fields.holdKind
    (s.notePoint (s.route i).fields.holdRank (s.route i).fields.holdNote) (setRouteState i .inService none s))
  generalize s.notePoint (s.route i).fields.holdRank (s.route i).fields.holdNote = p at ran reports ⊢
  have written : ∀ j, (setRouteState i .inService none s).route j =
      if j = i.val then { s.route i with state := .inService, timer := none } else s.route j :=
    fun j => route_setRoute s i j _
  refine ⟨_, ran, ?_⟩
  cases kind : (s.route i).fields.holdKind with
  | hold =>
    rw [kind] at reports
    have touched := Touches.addClaim p (setRouteState i .inService none s)
    have engine := engine_of_touches touched (by decide)
    have scan := scan_of_touches touched (by decide) (by decide) (by decide) (by decide)
    have sequencer := sequencer_of_touches touched (by decide)
    have pool := pool_of_touches touched (by decide) (by decide) (by decide) (by decide) (by decide)
    have entries := route_of_touches touched (by decide)
    have routes := fun j => (route_of_reports reports j).trans
      ((entries j).trans (written j))
    refine ⟨(routes i).trans (if_pos rfl), fun j apart => (routes j).trans (if_neg apart), fun _ => ⟨?_, ?_⟩,
      fun roll => (nomatch roll), ?_, ?_, ?_, ?_⟩
    · exact (claimCount_of_reports reports p).trans ((addClaim_moves p _ p).trans (if_pos rfl))
    · exact reports.pool.trans pool
    · exact reports.scan.trans scan
    · exact reports.engine.trans engine
    · exact reports.sequencer.trans sequencer
    · exact reports.expression.trans touched.expression
  | roll =>
    rw [kind] at reports
    have touched := Touches.raiseDemand p (setRouteState i .inService none s)
    have engine := engine_of_touches touched (by decide)
    have scan := scan_of_touches touched (by decide) (by decide) (by decide) (by decide)
    have sequencer := sequencer_of_touches touched (by decide)
    have claims := claims_of_touches touched (by decide) (by decide) (by decide)
    have entries := route_of_touches touched (by decide)
    have routes := fun j => (route_of_reports reports j).trans
      ((entries j).trans (written j))
    refine ⟨(routes i).trans (if_pos rfl), fun j apart => (routes j).trans (if_neg apart), fun hold => (nomatch hold),
      fun _ => ⟨?_, ?_⟩, ?_, ?_, ?_, ?_⟩
    · exact (demandOf_of_reports reports p).trans ((raiseDemand_moves p _ p).trans (if_pos rfl))
    · exact reports.claims.trans claims
    · exact reports.scan.trans scan
    · exact reports.engine.trans engine
    · exact reports.sequencer.trans sequencer
    · exact reports.expression.trans touched.expression

end Sys2Proof.Machine
end

section
/-! PROOF. The pool: grants, steals, the waiting set, and what a change of demand comes to (R69, R70, R73, R76 to R80). -/

namespace Sys2Proof.Machine

/-! ### The first of the least and of the greatest -/

section Choice

variable {α : Type} {value key : α → Nat}

theorem leastBy_mem {l : List α} {x : α} (least : leastBy value l = some x) : x ∈ l := by
  induction l generalizing x with
  | nil => exact absurd least (by simp [leastBy])
  | cons y rest ih =>
    simp only [leastBy] at least
    split at least
    · exact Option.some.inj least ▸ List.mem_cons_self
    next z later =>
      split at least
      · exact Option.some.inj least ▸ List.mem_cons_self
      · exact Option.some.inj least ▸ List.mem_cons_of_mem _ (ih later)

theorem leastBy_eq_none {l : List α} : leastBy value l = none ↔ l = [] := by
  cases l with
  | nil => simp [leastBy]
  | cons y rest =>
    simp only [leastBy, reduceCtorEq, iff_false]
    split
    · simp
    · split <;> simp

theorem leastBy_eq {l : List α} {x : α} (sorted : l.Pairwise (fun a b => key a < key b)) (mem : x ∈ l)
    (least : ∀ w ∈ l, value x < value w ∨ (value x = value w ∧ key x ≤ key w)) : leastBy value l = some x := by
  induction l with
  | nil => exact absurd mem (by simp)
  | cons y rest ih =>
    obtain ⟨before, sorted'⟩ := List.pairwise_cons.1 sorted
    obtain rfl | later := List.mem_cons.1 mem
    · simp only [leastBy]
      cases found : leastBy value rest with
      | none => rfl
      | some z =>
        have after := least z (List.mem_cons_of_mem _ (leastBy_mem found))
        exact if_pos (by omega)
    · have found := ih sorted' later fun w inRest => least w (List.mem_cons_of_mem _ inRest)
      have smaller := least y List.mem_cons_self
      have rises := before x later
      simp only [leastBy, found]
      exact if_neg (by omega)

theorem greatestBy_mem {l : List α} {x : α} (greatest : greatestBy value l = some x) : x ∈ l := by
  induction l generalizing x with
  | nil => exact absurd greatest (by simp [greatestBy])
  | cons y rest ih =>
    simp only [greatestBy] at greatest
    split at greatest
    · exact Option.some.inj greatest ▸ List.mem_cons_self
    next z later =>
      split at greatest
      · exact Option.some.inj greatest ▸ List.mem_cons_self
      · exact Option.some.inj greatest ▸ List.mem_cons_of_mem _ (ih later)

theorem greatestBy_eq_none {l : List α} : greatestBy value l = none ↔ l = [] := by
  cases l with
  | nil => simp [greatestBy]
  | cons y rest =>
    simp only [greatestBy, reduceCtorEq, iff_false]
    split
    · simp
    · split <;> simp

theorem greatestBy_eq {l : List α} {x : α} (sorted : l.Pairwise (fun a b => key a < key b)) (mem : x ∈ l)
    (greatest : ∀ w ∈ l, value w < value x ∨ (value w = value x ∧ key x ≤ key w)) : greatestBy value l = some x := by
  induction l with
  | nil => exact absurd mem (by simp)
  | cons y rest ih =>
    obtain ⟨before, sorted'⟩ := List.pairwise_cons.1 sorted
    obtain rfl | later := List.mem_cons.1 mem
    · simp only [greatestBy]
      cases found : greatestBy value rest with
      | none => rfl
      | some z =>
        have after := greatest z (List.mem_cons_of_mem _ (greatestBy_mem found))
        exact if_pos (by omega)
    · have found := ih sorted' later fun w inRest => greatest w (List.mem_cons_of_mem _ inRest)
      have smaller := greatest y List.mem_cons_self
      have rises := before x later
      simp only [greatestBy, found]
      exact if_neg (by omega)

end Choice

/-! ### Grants -/

theorem generator_setGenerator (s : State) (g h : Nat) (x : Option Service) :
    (s.setGenerator g x).generator h = if h = g then x else s.generator h := Table.get_put _ _ _ _ _

/-- R73: what a grant hands to the generator. -/
def State.served (s : State) (c : Client) : Service := ⟨c, 0, true, (s.clientTimes c).1, (s.clientTimes c).2⟩

theorem grant_generator (g : Nat) (c : Client) (s : State) (h : Nat) :
    (grant g c s).generator h = if h = g then some (s.served c) else s.generator h := by
  cases c <;> exact generator_setGenerator s g h _

theorem grant_strikeTimer (g : Nat) (p q : Point) (s : State) :
    (grant g (.struck p) s).strikeTimer q = if q.index = p.index then none else s.strikeTimer q :=
  strikeTimer_setStrikeTimer p q none (s.setGenerator g (some (s.served (.struck p))))

/-- R73: a grant changes generators and strike timers alone. -/
theorem grant_eq (g : Nat) (c : Client) (s : State) : grant g c s = s.setPool { s.pool with
    generators := (grant g c s).pool.generators, strikes := (grant g c s).pool.strikes } := by
  cases c <;> rfl

theorem grant_isWaiting (g : Nat) (c : Client) (s : State) (q : Point) :
    (grant g c s).isWaiting q = s.isWaiting q := by
  cases c <;> rfl

theorem grant_latched (g : Nat) (c : Client) (s : State) (i : StatusItem) :
    (grant g c s).latched i = s.latched i := by
  cases c <;> rfl

theorem served_struck {s : State} {p : Point} {r : Nat} (ranked : s.rankOf p = some r) :
    s.served (.struck p) = ⟨.struck p, 0, true, (s.rank r).period, (s.rank r).strikeTime⟩ := by
  simp only [State.served, State.clientTimes, ranked]

/-! ### The waiting set -/

theorem setWaiting_pool (p : Point) (b : Bool) (s : State) :
    (setWaiting p b s).pool = { s.pool with waiting := s.pool.waiting.put false p.index b } := by
  simp only [setWaiting]
  split
  · rfl
  · exact latch_pool _ _

theorem setWaiting_generator (p : Point) (b : Bool) (s : State) (g : Nat) :
    (setWaiting p b s).generator g = s.generator g := by
  unfold State.generator
  rw [setWaiting_pool]

theorem setWaiting_strikeTimer (p q : Point) (b : Bool) (s : State) :
    (setWaiting p b s).strikeTimer q = s.strikeTimer q := by
  unfold State.strikeTimer
  rw [setWaiting_pool]

theorem setWaiting_isWaiting (p q : Point) (b : Bool) (s : State) :
    (setWaiting p b s).isWaiting q = if q.index = p.index then b else s.isWaiting q := by
  unfold State.isWaiting
  rw [setWaiting_pool]
  exact Table.get_put _ _ _ _ _

theorem lookupEntry_of_none {α : Type} {f : α → Bool} {reset : α} (quiet : f reset = false) {l : List (Nat × α)}
    (empty : l.any (fun e => f e.2) = false) (k : Nat) : f (lookupEntry reset k l) = false := by
  induction l with
  | nil => exact quiet
  | cons e rest ih =>
    simp only [List.any_cons, Bool.or_eq_false_iff] at empty
    obtain ⟨here, later⟩ := empty
    simp only [lookupEntry]
    split
    · exact here
    · exact ih later

theorem isWaiting_of_none {s : State} (empty : s.waitingAny = false) (p : Point) : s.isWaiting p = false :=
  lookupEntry_of_none (f := id) rfl empty p.index

/-- R80: WAITING is latched when the set turns non-empty. -/
theorem setWaiting_latched {p : Point} {s : State} (empty : s.waitingAny = false) :
    (setWaiting p true s).latched .waiting = true := by
  have joined : (s.setPool { s.pool with waiting := s.pool.waiting.put false p.index true }).waitingAny ≠ s.waitingAny := by
    intro same
    have out := isWaiting_of_none (same.trans empty) p
    exact absurd ((Table.get_put_same s.pool.waiting false p.index true).symm.trans out) (by decide)
  simp only [setWaiting]
  rw [if_neg joined]
  exact latch_latched_same _ _

theorem firstWaiting_none {s : State} (empty : s.waitingAny = false) : s.firstWaiting = none := by
  refine greatestBy_eq_none.2 (List.map_eq_nil_iff.2 (List.filter_eq_nil_iff.2 fun e mem => ?_))
  simp only [State.waitingAny, List.any_eq_false] at empty
  exact empty e mem

theorem mem_entries_of_lookup {α : Type} {reset : α} {k : Nat} {l : List (Nat × α)}
    (listed : lookupEntry reset k l ≠ reset) : (k, lookupEntry reset k l) ∈ l := by
  induction l with
  | nil => exact absurd rfl listed
  | cons e rest ih =>
    simp only [lookupEntry] at listed ⊢
    split
    case isTrue same => exact same ▸ List.mem_cons_self
    case isFalse other => rw [if_neg other] at listed; exact List.mem_cons_of_mem _ (ih listed)

theorem lookup_of_mem_entries {α : Type} {reset : α} {l : List (Nat × α)} (rising : RisingIndices l) {e : Nat × α}
    (mem : e ∈ l) : lookupEntry reset e.1 l = e.2 := by
  induction l with
  | nil => exact absurd mem (by simp)
  | cons x rest ih =>
    obtain ⟨before, rising'⟩ := List.pairwise_cons.1 rising
    simp only [lookupEntry]
    obtain rfl | later := List.mem_cons.1 mem
    · exact if_pos rfl
    · rw [if_neg (Nat.ne_of_lt (before e later))]
      exact ih rising' later

/-- R79: the waiting point of highest priority, ties going to the lowest index. -/
theorem firstWaiting_eq {s : State} (bounded : ListsBounded s) {q : Point} (inRange : q.point < 1024)
    (waits : s.isWaiting q = true) (greatest : ∀ w : Point, w.point < 1024 → s.isWaiting w = true →
      s.priority w < s.priority q ∨ (s.priority w = s.priority q ∧ q.index ≤ w.index)) :
    s.firstWaiting = some q := by
  have wellFormed := bounded.waiting
  simp only [Table.wf, Bool.and_eq_true, indicesRise_iff] at wellFormed
  obtain ⟨rising, -⟩ := wellFormed
  have indices : ∀ k, (pointAt k).index = k := fun k => by simp only [pointAt, Point.index]; omega
  refine greatestBy_eq (key := Point.index) ?_ ?_ fun w mem => ?_
  · refine List.pairwise_map.2 ((rising.filter _).imp fun {a b} before => ?_)
    rw [indices, indices]
    exact before
  · refine List.mem_map.2 ⟨(q.index, true), List.mem_filter.2 ⟨?_, rfl⟩, pointAt_index inRange⟩
    have listed := mem_entries_of_lookup (reset := false) (k := q.index) (l := s.pool.waiting.entries)
    rw [show lookupEntry false q.index s.pool.waiting.entries = true from waits] at listed
    exact listed (by decide)
  · obtain ⟨e, inList, rfl⟩ := List.mem_map.1 mem
    obtain ⟨inEntries, set⟩ := List.mem_filter.1 inList
    refine greatest _ (Nat.mod_lt _ (by decide)) ?_
    simp only [State.isWaiting, indices]
    exact (lookup_of_mem_entries rising inEntries).trans set

/-! ### Steals and generators freed -/

theorem clientTimes_of_touches {A : List Part} {s t : State} (touched : Touches A s t) (c : Client) :
    t.clientTimes c = s.clientTimes c := by
  cases c with
  | struck p => simp only [State.clientTimes, rankOf_of_touches touched, rank_of_touches touched]
  | tremulant k => simp only [State.clientTimes, State.tremulant, touched.tremulants]

theorem served_of_touches {A : List Part} {s t : State} (touched : Touches A s t) (c : Client) :
    t.served c = s.served c := by
  simp only [State.served, clientTimes_of_touches touched]

section Steal

variable (v : Nat × Point) (c : Client) (s : State)

theorem steal_generator (h : Nat) :
    (steal v c s).generator h = if h = v.1 then some (s.served c) else s.generator h := by
  have latched : (latch .genSteal (setWaiting v.2 true s)).generator h = s.generator h := by
    rw [← setWaiting_generator v.2 true s h]
    simp only [State.generator, latch_pool]
  have touched := ((Touches.setWaiting v.2 true s).mono (B := [.waiting, .report .waiting, .report .genSteal])
    (by decide)).trans (.latch (i := .genSteal) (by decide) _)
  rw [steal, grant_generator, served_of_touches touched, latched]

theorem steal_isWaiting (q : Point) : (steal v c s).isWaiting q = if q.index = v.2.index then true else s.isWaiting q := by
  rw [steal, grant_isWaiting, ← setWaiting_isWaiting]
  simp only [State.isWaiting, latch_pool]

theorem steal_genSteal : (steal v c s).latched .genSteal = true := by
  rw [steal, grant_latched]
  exact latch_latched_same _ _

theorem steal_waiting (empty : s.waitingAny = false) : (steal v c s).latched .waiting = true := by
  rw [steal, grant_latched]
  exact latch_rises _ _ _ (setWaiting_latched empty)

theorem steal_strikeTimer (p q : Point) :
    (steal v (.struck p) s).strikeTimer q = if q.index = p.index then none else s.strikeTimer q := by
  rw [steal, grant_strikeTimer]
  congr 1
  rw [← setWaiting_strikeTimer v.2 q true s]
  simp only [State.strikeTimer, latch_pool]

end Steal

theorem freeGenerator_freed (g : Nat) (s : State) : GeneratorFreed g s (freeGenerator g s) := by
  refine ⟨fun empty => ?_, fun bounded q r inRange waits ranked greatest => ?_, fun h apart => ?_⟩
  · simp only [freeGenerator, firstWaiting_none empty]
    exact (generator_setGenerator s g g _).trans (if_pos rfl)
  · simp only [freeGenerator, firstWaiting_eq bounded inRange waits greatest]
    have touched := Touches.setWaiting q false s
    rw [grant_generator, if_pos rfl, served_of_touches touched, served_struck ranked, grant_isWaiting,
      setWaiting_isWaiting, if_pos rfl, grant_strikeTimer, if_pos rfl]
    exact ⟨rfl, rfl, rfl⟩
  · unfold freeGenerator
    split
    · rw [grant_generator, if_neg apart, setWaiting_generator]
    · exact (generator_setGenerator s g h _).trans (if_neg apart)

/-! ### The client a steal takes the generator of -/

theorem struckClients_sorted (s : State) : s.struckClients.Pairwise (fun a b => a.1 < b.1) := by
  refine List.pairwise_filterMap.2 (List.pairwise_lt_range.imp fun {a b} before x fromA y fromB => ?_)
  have named : ∀ g (z : Nat × Point), (match s.generator g with
      | some ⟨.struck p, _, _, _, _⟩ => some (g, p)
      | _ => none) = some z → z.1 = g := by
    intro g z found
    split at found
    · exact (congrArg Prod.fst (Option.some.inj found)).symm
    · exact absurd found (by simp)
  rw [named a x fromA, named b y fromB]
  exact before

/-- R76, R77: the admitted struck client of lowest priority, ties going to the lowest generator. -/
theorem victim_eq {s : State} {admits : Point → Bool} {v : Nat × Point} (mem : v ∈ s.struckClients)
    (admitted : admits v.2 = true) (least : ∀ w ∈ s.struckClients,
      s.priority v.2 < s.priority w.2 ∨ (s.priority v.2 = s.priority w.2 ∧ v.1 ≤ w.1)) :
    s.victim admits = some v :=
  leastBy_eq (key := Prod.fst) ((struckClients_sorted s).filter _) (List.mem_filter.2 ⟨mem, admitted⟩)
    fun w inList => least w (List.mem_filter.1 inList).1

theorem victim_none {s : State} {admits : Point → Bool} (free : ∀ v ∈ s.struckClients, admits v.2 = false) :
    s.victim admits = none :=
  leastBy_eq_none.2 (List.filter_eq_nil_iff.2 fun v mem => by simp [free v mem])

/-! ### Rises and falls of demand -/

theorem raiseDemand_rise {p : Point} {s : State} (idle : s.demandOf p = 0) :
    raiseDemand p s = demandRise p (s.setDemand p (s.demandOf p + 1)) := if_pos idle

theorem lowerDemand_fall {p : Point} {s : State} (last : s.demandOf p = 1) :
    lowerDemand p s = demandFall p (s.setDemand p (s.demandOf p - 1)) := if_pos last

theorem raiseTremulant_rise {k : Nat} {s : State} (idle : s.tremulantDemand k = 0) :
    raiseTremulant k s = tremulantRise k (s.setTremulantDemand k (s.tremulantDemand k + 1)) := if_pos idle

theorem lowerTremulant_fall {k : Nat} {s : State} (last : s.tremulantDemand k = 1) :
    lowerTremulant k s = tremulantFall k (s.setTremulantDemand k (s.tremulantDemand k - 1)) := if_pos last

theorem tremulantDemand_setTremulantDemand (s : State) (j k n : Nat) :
    (s.setTremulantDemand k n).tremulantDemand j = if j = k then n else s.tremulantDemand j := Table.get_put _ _ _ _ _

theorem tremulantDemand_of_tremDemand {s t : State} (same : t.pool.tremDemand = s.pool.tremDemand) (k : Nat) :
    t.tremulantDemand k = s.tremulantDemand k := congrArg (fun c => Table.get c 0 k) same

/-- R76: with a generator IDLE the rise is granted it. -/
theorem demandRise_idle {p : Point} {s : State} {g : Nat} (idle : s.idleGenerator = some g) :
    demandRise p s = grant g (.struck p) s := by simp only [demandRise, idle]

/-- R76: with none IDLE the rise takes the generator of the least client, if that is lower. -/
theorem demandRise_steal {p : Point} {s : State} {v : Nat × Point} (busy : s.idleGenerator = none)
    (lower : s.victim (fun q => decide (s.priority q < s.priority p)) = some v) :
    demandRise p s = steal v (.struck p) s := by simp only [demandRise, busy, lower]

/-- R76: with none IDLE and none lower the point waits and is struck once. -/
theorem demandRise_waits {p : Point} {s : State} (busy : s.idleGenerator = none)
    (least : s.victim (fun q => decide (s.priority q < s.priority p)) = none) :
    demandRise p s = strike p (setWaiting p true s) := by simp only [demandRise, busy, least]

theorem tremulantRise_idle {k : Nat} {s : State} {g : Nat} (idle : s.idleGenerator = some g) :
    tremulantRise k s = grant g (.tremulant k) s := by simp only [tremulantRise, idle]

theorem tremulantRise_steal {k : Nat} {s : State} {v : Nat × Point} (busy : s.idleGenerator = none)
    (least : s.victim (fun _ => true) = some v) : tremulantRise k s = steal v (.tremulant k) s := by
  simp only [tremulantRise, busy, least]

/-- R67: a strike on a struck point that no generator serves. -/
theorem strike_unserved {p : Point} {s : State} {r : Nat} (ranked : s.rankOf p = some r)
    (struck : (s.rank r).kind = .struck) (free : s.servedBy (.struck p) = none) : (strike p s).strikeTimer p =
      if (s.strikeTimer p).isSome then s.strikeTimer p else some (s.rank r).strikeLength := by
  rw [(strike_taken p s).struck r ranked struck, free]
  simp only [Option.isSome_none, Bool.false_eq_true, false_or]

theorem servedBy_of_generators {s t : State} (same : t.pool.generators = s.pool.generators) (c : Client) :
    t.servedBy c = s.servedBy c := by
  unfold State.servedBy State.generator
  rw [same]

section Rise

variable {s : State} {p : Point} {r : Nat} (ranked : s.rankOf p = some r) (idle : s.demandOf p = 0)

include ranked idle in
theorem raiseDemand_granted {g : Nat} (free : s.idleGenerator = some g) :
    (raiseDemand p s).generator g = some ⟨.struck p, 0, true, (s.rank r).period, (s.rank r).strikeTime⟩ ∧
      (∀ h, h ≠ g → (raiseDemand p s).generator h = s.generator h) ∧ (raiseDemand p s).strikeTimer p = none := by
  rw [raiseDemand_rise idle, demandRise_idle (s := s.setDemand p _) free]
  refine ⟨?_, fun h apart => ?_, ?_⟩
  · rw [grant_generator, if_pos rfl, served_struck (s := s.setDemand p _) ranked]
    rfl
  · rw [grant_generator, if_neg apart]
    rfl
  · rw [grant_strikeTimer, if_pos rfl]

include ranked idle in
theorem raiseDemand_steals (busy : s.idleGenerator = none) {v : Nat × Point} (mem : v ∈ s.struckClients)
    (lower : s.priority v.2 < s.priority p)
    (least : ∀ w ∈ s.struckClients, s.priority v.2 < s.priority w.2 ∨ (s.priority v.2 = s.priority w.2 ∧ v.1 ≤ w.1)) :
    (raiseDemand p s).generator v.1 = some ⟨.struck p, 0, true, (s.rank r).period, (s.rank r).strikeTime⟩ ∧
      (∀ h, h ≠ v.1 → (raiseDemand p s).generator h = s.generator h) ∧ (raiseDemand p s).strikeTimer p = none ∧
      (raiseDemand p s).isWaiting v.2 = true ∧ (raiseDemand p s).latched .genSteal = true ∧
      (s.waitingAny = false → (raiseDemand p s).latched .waiting = true) ∧
      (v.2.index ≠ p.index → (raiseDemand p s).demandOf v.2 = s.demandOf v.2) := by
  have moves := raiseDemand_moves p s v.2
  have chosen := victim_eq (admits := fun q => decide (s.priority q < s.priority p)) mem (decide_eq_true lower) least
  rw [raiseDemand_rise idle, demandRise_steal (s := s.setDemand p _) busy chosen] at moves ⊢
  refine ⟨?_, fun h apart => ?_, ?_, ?_, steal_genSteal _ _ _, fun empty => steal_waiting _ _ _ empty, fun apart => ?_⟩
  · rw [steal_generator, if_pos rfl, served_struck (s := s.setDemand p _) ranked]
    rfl
  · rw [steal_generator, if_neg apart]
    rfl
  · rw [steal_strikeTimer, if_pos rfl]
  · rw [steal_isWaiting, if_pos rfl]
  · rw [moves, if_neg apart]

include ranked idle in
theorem raiseDemand_waits (struck : (s.rank r).kind = .struck) (unserved : s.servedBy (.struck p) = none)
    (busy : s.idleGenerator = none) (none : ∀ v ∈ s.struckClients, s.priority p ≤ s.priority v.2) :
    (raiseDemand p s).isWaiting p = true ∧ (∀ g, (raiseDemand p s).generator g = s.generator g) ∧
      (raiseDemand p s).strikeTimer p =
        (if (s.strikeTimer p).isSome then s.strikeTimer p else some (s.rank r).strikeLength) := by
  have alone := victim_none (s := s) (admits := fun q => decide (s.priority q < s.priority p))
    fun v mem => decide_eq_false (Nat.not_lt.2 (none v mem))
  rw [raiseDemand_rise idle, demandRise_waits (s := s.setDemand p _) busy alone]
  have waits := setWaiting_isWaiting p p true (s.setDemand p (s.demandOf p + 1))
  have touched := Touches.setWaiting p true (s.setDemand p (s.demandOf p + 1))
  have struck' := Touches.strike p (setWaiting p true (s.setDemand p (s.demandOf p + 1)))
  refine ⟨?_, fun g => ?_, ?_⟩
  · exact (congrArg (fun w => Table.get w false p.index) (struck'.waiting (by decide))).trans (waits.trans (if_pos rfl))
  · exact (congrArg (fun w => Table.get w _ g) (struck'.generators (by decide))).trans
      (setWaiting_generator p true (s.setDemand p (s.demandOf p + 1)) g)
  · have timer := setWaiting_strikeTimer p p true (s.setDemand p (s.demandOf p + 1))
    have rank := rank_of_touches touched r
    rw [strike_unserved (r := r) ((rankOf_of_touches touched p).trans ranked) (by rw [rank]; exact struck)
      ((servedBy_of_generators (touched.generators (by decide)) _).trans unserved), timer, rank]
    rfl

end Rise

section Tremulant

variable {s : State} {k : Nat} (idle : s.tremulantDemand k = 0)

include idle in
theorem raiseTremulant_demand : (raiseTremulant k s).tremulantDemand k = 1 := by
  rw [raiseTremulant_rise idle, tremulantDemand_of_tremDemand ((Touches.tremulantRise k _).tremDemand (by decide)),
    tremulantDemand_setTremulantDemand, if_pos rfl, idle]

include idle in
theorem raiseTremulant_granted {g : Nat} (free : s.idleGenerator = some g) :
    (raiseTremulant k s).generator g = some ⟨.tremulant k, 0, true, (s.tremulant k).period, (s.tremulant k).onTime⟩ ∧
      ∀ h, h ≠ g → (raiseTremulant k s).generator h = s.generator h := by
  rw [raiseTremulant_rise idle, tremulantRise_idle (s := s.setTremulantDemand k _) free]
  refine ⟨?_, fun h apart => ?_⟩
  · rw [grant_generator, if_pos rfl]
    rfl
  · rw [grant_generator, if_neg apart]
    rfl

include idle in
theorem raiseTremulant_steals (busy : s.idleGenerator = none) {v : Nat × Point} (mem : v ∈ s.struckClients)
    (least : ∀ w ∈ s.struckClients, s.priority v.2 < s.priority w.2 ∨ (s.priority v.2 = s.priority w.2 ∧ v.1 ≤ w.1)) :
    (raiseTremulant k s).generator v.1 = some ⟨.tremulant k, 0, true, (s.tremulant k).period, (s.tremulant k).onTime⟩ ∧
      (∀ h, h ≠ v.1 → (raiseTremulant k s).generator h = s.generator h) ∧
      (raiseTremulant k s).isWaiting v.2 = true ∧ (raiseTremulant k s).latched .genSteal = true ∧
      (raiseTremulant k s).demandOf v.2 = s.demandOf v.2 := by
  have chosen := victim_eq (admits := fun _ => true) mem rfl least
  rw [raiseTremulant_rise idle, tremulantRise_steal (s := s.setTremulantDemand k _) busy chosen]
  refine ⟨?_, fun h apart => ?_, ?_, steal_genSteal _ _ _, ?_⟩
  · rw [steal_generator, if_pos rfl]
    rfl
  · rw [steal_generator, if_neg apart]
    rfl
  · rw [steal_isWaiting, if_pos rfl]
  · exact demandOf_of_demand (s := s.setTremulantDemand k (s.tremulantDemand k + 1))
      ((Touches.steal v (.tremulant k) _).demand (by decide)) v.2

end Tremulant

/-- Settles O14, by the branches of the four operations on demand. -/
theorem demandRiseIsGrantedOrWaits : Obligations.DemandRiseIsGrantedOrWaits := by
  refine ⟨fun s p r ranked struck idle unserved => ⟨?_, ?_, ?_, ?_⟩, fun s k idle => ⟨?_, ?_, ?_⟩,
    fun s p last => ⟨?_, ?_, ?_⟩, fun s k g last serves => ⟨?_, ?_⟩⟩
  · rw [raiseDemand_moves p s p, if_pos rfl, idle]
  · exact fun g free => raiseDemand_granted ranked idle free
  · exact fun busy v mem lower least => raiseDemand_steals ranked idle busy mem lower least
  · exact fun busy none => raiseDemand_waits ranked idle struck unserved busy none
  · exact raiseTremulant_demand idle
  · exact fun g free => raiseTremulant_granted idle free
  · exact fun busy v mem least => raiseTremulant_steals idle busy mem least
  · rw [lowerDemand_moves p s p, if_pos rfl, last]
  · intro unserved
    have fell : lowerDemand p s = setWaiting p false (s.setDemand p (s.demandOf p - 1)) := by
      rw [lowerDemand_fall last]
      simp only [demandFall, show (s.setDemand p (s.demandOf p - 1)).servedBy (.struck p) = none from unserved]
    rw [fell]
    exact ⟨(setWaiting_isWaiting p p false _).trans (if_pos rfl), setWaiting_generator p false _⟩
  · intro g serves
    have fell : lowerDemand p s = freeGenerator g (s.setDemand p (s.demandOf p - 1)) := by
      rw [lowerDemand_fall last]
      simp only [demandFall, show (s.setDemand p (s.demandOf p - 1)).servedBy (.struck p) = some g from serves]
    rw [fell]
    obtain ⟨idle, granted, others⟩ := freeGenerator_freed g (s.setDemand p (s.demandOf p - 1))
    exact ⟨idle, fun bounded => granted ⟨bounded.pizz, bounded.holds, bounded.players, bounded.ciphers, bounded.waiting⟩,
      others⟩
  · rw [lowerTremulant_fall last, tremulantDemand_of_tremDemand ((Touches.tremulantFall k _).tremDemand (by decide)),
      tremulantDemand_setTremulantDemand, if_pos rfl, last]
  · have fell : lowerTremulant k s = freeGenerator g (s.setTremulantDemand k (s.tremulantDemand k - 1)) := by
      rw [lowerTremulant_fall last]
      simp only [tremulantFall,
        show (s.setTremulantDemand k (s.tremulantDemand k - 1)).servedBy (.tremulant k) = some g from serves]
    rw [fell]
    obtain ⟨idle, granted, others⟩ := freeGenerator_freed g (s.setTremulantDemand k (s.tremulantDemand k - 1))
    exact ⟨idle, fun bounded => granted ⟨bounded.pizz, bounded.holds, bounded.players, bounded.ciphers, bounded.waiting⟩,
      others⟩

end Sys2Proof.Machine
end

section
/-! PROOF. The rows: what a frame, a general release, a link loss and a written key count make of each row, and that held images,
lockouts and candidates stay sound (R2, R4, R6, R7, R13, R14). -/

namespace Sys2Proof.Machine

/-! ### Rows -/

/-- R1, R2: the row is sound in the positions it may show. -/
structure Row.SoundIn (kind : RowKind) (positions : Image) (row : Row) : Prop where
  held : row.held &&& ~~~positions = 0
  lockout : kind ≠ .stop → row.lockout &&& ~~~positions = 0
  apart : kind ≠ .stop → row.held &&& row.lockout = 0
  candidate : row.candidate ≠ some row.held

theorem rowsSound_iff {s : State} :
    RowsSound s ↔ ∀ kind r, (s.row kind r).SoundIn kind (s.rowPositions kind r) := by
  constructor
  · rintro ⟨held, lockout, width, inputLockout, apart, candidate⟩ kind r
    cases kind with
    | key => exact ⟨held r, fun _ => lockout r, apart .key r, candidate .key r⟩
    | stop => exact ⟨width .stop r (by decide), fun no => absurd rfl no, fun no => absurd rfl no, candidate .stop r⟩
    | input => exact ⟨width .input r (by decide), fun _ => inputLockout r, apart .input r, candidate .input r⟩
  · intro each
    refine ⟨fun r => (each .key r).held, fun r => (each .key r).lockout (by decide), fun kind r other => ?_,
      fun r => (each .input r).lockout (by decide), fun kind r => (each kind r).apart, fun kind r => (each kind r).candidate⟩
    cases kind with
    | key => exact absurd rfl other
    | stop => exact (each .stop r).held
    | input => exact (each .input r).held

/-- R13: a row at a general release. -/
def Row.released (row : Row) : Row := ⟨0, none, 0, row.lockout ||| row.held⟩

/-- R14: a row at a link loss: its candidate and lockout go, and what a key or input row holds. -/
def Row.lost (kind : RowKind) (row : Row) : Row := ⟨if kind = .stop then row.held else 0, none, 0, 0⟩

/-- R4: a row under a new key count. -/
def Row.trimmed (keyCount : Nat) (row : Row) : Row :=
  ⟨row.held &&& below keyCount, none, 0, row.lockout &&& below keyCount⟩

/-- R6, R7: a row after a raw image. -/
def Row.framed (kind : RowKind) (confirm : Nat) (raw : Image) (row : Row) : Row :=
  accepted confirm (considered { row with lockout := lockoutAfter kind row raw } (effectiveImage kind row raw))

namespace Row.SoundIn

variable {kind : RowKind} {positions : Image} {row : Row}

theorem released (sound : row.SoundIn kind positions) : row.released.SoundIn kind positions where
  held := BitVec.zero_and
  lockout other := by
    have held := sound.held
    have lockout := sound.lockout other
    calc (row.lockout ||| row.held) &&& ~~~positions
        = row.lockout &&& ~~~positions ||| row.held &&& ~~~positions := by ext; simp [Bool.and_or_distrib_right]
      _ = 0 := by rw [held, lockout]; rfl
  apart _ := BitVec.zero_and
  candidate := by simp [Row.released]

theorem lost (sound : row.SoundIn kind positions) : (row.lost kind).SoundIn kind positions where
  held := by
    simp only [Row.lost]
    split
    · exact sound.held
    · exact BitVec.zero_and
  lockout _ := BitVec.zero_and
  apart _ := BitVec.and_zero
  candidate := by simp [Row.lost]

theorem trimmed (keyCount : Nat) (apart : kind ≠ .stop → row.held &&& row.lockout = 0) :
    (row.trimmed keyCount).SoundIn kind (below keyCount) where
  held := by simp [Row.trimmed, BitVec.and_assoc]
  lockout _ := by simp [Row.trimmed, BitVec.and_assoc]
  apart other := by
    have clear := apart other
    calc (row.held &&& below keyCount) &&& (row.lockout &&& below keyCount)
        = (row.held &&& row.lockout) &&& below keyCount := by ext; simp; grind
      _ = 0 := by rw [clear]; exact BitVec.zero_and
  candidate := by simp [Row.trimmed]

/-- R7: an image other than the one held is the candidate. -/
theorem considered_other {eff : Image} (other : eff ≠ row.held) :
    ∃ n, considered row eff = { row with candidate := some eff, count := n } := by
  unfold considered
  rw [if_neg other]
  split
  case isTrue again => exact ⟨row.count + 1, by rw [← again]⟩
  · exact ⟨1, rfl⟩

/-- R7: a candidate is considered against the held image, and takes its place or stands beside it. -/
theorem accepted_considered {eff : Image} (confirm : Nat) (held : row.held &&& ~~~positions = 0)
    (image : eff &&& ~~~positions = 0) (lockout : kind ≠ .stop → row.lockout &&& ~~~positions = 0)
    (apart : kind ≠ .stop → row.held &&& row.lockout = 0) (clear : kind ≠ .stop → eff &&& row.lockout = 0) :
    (accepted confirm (considered row eff)).SoundIn kind positions := by
  by_cases same : eff = row.held
  · simp only [considered, if_pos same, accepted]
    exact ⟨held, lockout, apart, by simp⟩
  · obtain ⟨n, waits⟩ := considered_other same
    rw [waits]
    simp only [accepted]
    split
    · exact ⟨image, lockout, clear, by simp⟩
    · exact ⟨held, lockout, apart, fun held => same (Option.some.inj held)⟩

theorem framed (confirm : Nat) (image : Image) (sound : row.SoundIn kind positions) :
    (row.framed kind confirm (image &&& positions)).SoundIn kind positions := by
  have raw : (image &&& positions) &&& ~~~positions = 0 := by simp [BitVec.and_assoc]
  have drop : ∀ x y : Image, x &&& ~~~positions = 0 → (x &&& y) &&& ~~~positions = 0 := fun x y out => by
    rw [BitVec.and_assoc, BitVec.and_comm y, ← BitVec.and_assoc, out]
    exact BitVec.zero_and
  generalize image &&& positions = given at raw
  refine accepted_considered confirm sound.held ?_ (fun other => ?_) (fun other => ?_) (fun other => ?_)
  · cases kind with
    | stop => exact raw
    | key | input => exact drop _ _ raw
  · cases kind with
    | stop => exact absurd rfl other
    | key | input => exact drop _ _ (sound.lockout other)
  · have apart := sound.apart other
    cases kind with
    | stop => exact absurd rfl other
    | key | input =>
      simp only [lockoutAfter, ← BitVec.and_assoc, apart]
      exact BitVec.zero_and
  · cases kind with
    | stop => exact absurd rfl other
    | key | input =>
      simp only [lockoutAfter, effectiveImage]
      rw [BitVec.and_assoc, BitVec.and_comm (~~~_)]
      simp

end Row.SoundIn

/-! ### What stands and what is written -/

section Touched

variable {A : List Part} {s t : State} (touched : Touches A s t)

include touched

theorem keySetting_of_touches (r : Nat) : t.keySetting r = s.keySetting r := by
  unfold State.keySetting
  rw [touched.scan]

theorem rowPositions_of_touches (kind : RowKind) (r : Nat) : t.rowPositions kind r = s.rowPositions kind r := by
  cases kind <;> simp only [State.rowPositions, keySetting_of_touches touched]

end Touched

theorem RowsSound.of_scan {s t : State} (sound : RowsSound s) (same : t.scan = s.scan) : RowsSound t := by
  have settings : t.keySetting = s.keySetting := by unfold State.keySetting; rw [same]
  have rows : t.row = s.row := by funext kind r; cases kind <;> simp only [State.row, same]
  obtain ⟨held, lockout, width, inputLockout, apart, candidate⟩ := sound
  refine ⟨?_, ?_, ?_, ?_, ?_, ?_⟩ <;> rw [rows] <;> simpa only [settings]

/-- Playing that touches no row but some leaves the rows sound when what it makes of those is. -/
theorem RowsSound.of_touches {A : List Part} {s t : State} (touched : Touches A s t)
    (rows : ∀ kind r, (t.row kind r).SoundIn kind (s.rowPositions kind r)) : RowsSound t :=
  rowsSound_iff.2 fun kind r => by
    rw [rowPositions_of_touches touched]
    exact rows kind r

theorem RowsSound.touched {A : List Part} {s t : State} (touched : Touches A s t) (spared : ∀ kind, .row kind ∉ A)
    (sound : RowsSound s) : RowsSound t :=
  .of_touches touched fun kind r => by
    rw [touched.rows kind (spared kind)]
    exact rowsSound_iff.1 sound kind r

/-! ### Runs of rows -/

/-- A change of row `r` of one kind, whatever it hands on. -/
def ChangesRow (kind : RowKind) (f : Nat → State → State) (x : Row → Row) : Prop :=
  ∀ r s other q, (f r s).row other q = if other = kind ∧ q = r then x (s.row kind r) else s.row other q

theorem ChangesRow.range {kind : RowKind} {f : Nat → State → State} {x : Row → Row} (changes : ChangesRow kind f x)
    (n : Nat) (s : State) : ∀ other q,
      (forEach (List.range n) f s).row other q = if other = kind ∧ q < n then x (s.row kind q) else s.row other q := by
  induction n with
  | zero => exact fun other q => (if_neg (by omega)).symm
  | succ n ih =>
    intro other q
    have last : forEach (List.range (n + 1)) f s = f n (forEach (List.range n) f s) := by
      simp [forEach, List.range_succ]
    have before : (forEach (List.range n) f s).row kind n = s.row kind n := by
      rw [ih, if_neg (by omega)]
    rw [last, changes, before, ih]
    by_cases own : other = kind
    · by_cases at_row : q = n
      · rw [if_pos ⟨own, at_row⟩, if_pos ⟨own, by omega⟩, at_row]
      · rw [if_neg (fun both => at_row both.2)]
        by_cases below : q < n
        · rw [if_pos ⟨own, below⟩, if_pos ⟨own, by omega⟩]
        · rw [if_neg (fun both => below both.2), if_neg (by omega)]
    · rw [if_neg (fun both => own both.1), if_neg (fun both => own both.1), if_neg (fun both => own both.1)]

theorem handRun_row (kind : RowKind) (r : Nat) (run : List (Nat × Bool)) (s : State) (other : RowKind) (q : Nat) :
    (handRun kind r run s).row other q = s.row other q :=
  (Touches.handRun kind r run s).rows other (by cases other <;> decide) q

theorem releaseRow_changes (kind : RowKind) : ChangesRow kind (releaseRow kind) Row.released := fun r s other q =>
  (handRun_row kind r _ _ other q).trans (row_setRow kind other r q _ s)

theorem takeRow_row (kind : RowKind) (r : Nat) (image : Image) (s : State) (other : RowKind) (q : Nat) :
    (takeRow kind r image s).row other q = if other = kind ∧ q = r then
      (s.row kind r).framed kind (s.confirmOf kind r) (image &&& s.rowPositions kind r) else s.row other q :=
  (handRun_row kind r _ _ other q).trans (row_setRow kind other r q _ s)

theorem clearRow_changes (kind : RowKind) : ChangesRow kind (clearRow kind) (fun row => ⟨row.held, none, 0, 0⟩) :=
  fun r s other q => row_setRow kind other r q _ s

theorem loseRow_changes (kind : RowKind) :
    ChangesRow kind (loseRow kind) (fun row => ⟨0, row.candidate, row.count, row.lockout⟩) := fun r s other q =>
  (handRun_row kind r _ _ other q).trans (row_setRow kind other r q _ s)

/-- R13: every key and input row is released, and no stop row is touched. -/
theorem generalRelease_row (s : State) (kind : RowKind) (r : Nat) : (generalRelease s).row kind r =
    if kind ≠ .stop ∧ r < rowCount kind then (s.row kind r).released else s.row kind r := by
  have players := fun u => Touches.stopAllPlayers u
  have after : ∀ u, (emptyTuningHolds (stopAllPlayers (routerReleased u))).row kind r = u.row kind r := fun u =>
    ((Touches.emptyTuningHolds _).rows kind (by cases kind <;> decide) r).trans
      (((players _).rows kind (by cases kind <;> decide) r).trans
        ((Touches.routerReleased u).rows kind (by cases kind <;> decide) r))
  simp only [generalRelease]
  rw [after, (releaseRow_changes .input).range, (releaseRow_changes .key).range, (releaseRow_changes .key).range]
  cases kind <;> simp [rowCount]

/-- R14: every key and input row is emptied, and each stop row keeps what it holds. -/
theorem scanLinkLoss_row (s : State) (kind : RowKind) (r : Nat) : (scanLinkLoss s).row kind r =
    if r < rowCount kind then (s.row kind r).lost kind else s.row kind r := by
  simp only [scanLinkLoss, (clearRow_changes _).range, (loseRow_changes _).range]
  by_cases inside : r < rowCount kind
  · cases kind <;> simp [rowCount] at inside <;> simp [rowCount, Row.lost, inside]
  · cases kind <;> simp [rowCount] at inside <;> simp [rowCount, Nat.not_lt.2 inside]

/-! ### Rows stay sound -/

theorem generalRelease_rowsSound {s : State} (sound : RowsSound s) : RowsSound (generalRelease s) :=
  .of_touches (Touches.generalRelease s) fun kind r => by
    rw [generalRelease_row]
    split
    · exact (rowsSound_iff.1 sound kind r).released
    · exact rowsSound_iff.1 sound kind r

theorem drainReleases_rowsSound {s : State} (sound : RowsSound s) : RowsSound (drainReleases s) := by
  have once : ∀ t, RowsSound t → RowsSound (releaseOnce t) := by
    intro t sound
    unfold releaseOnce
    split
    · have done : RowsSound (t.setScan { t.scan with releaseDue := false }) :=
        ⟨sound.held, sound.lockout, sound.width, sound.inputLockout, sound.apart, sound.candidate⟩
      exact generalRelease_rowsSound done
    · exact sound
  unfold drainReleases
  exact once (releaseOnce s) (once s sound)

theorem takeScan_rowsSound (kind r : Nat) (image : Image) {s : State} (sound : RowsSound s) :
    RowsSound (takeScan kind r image s) := by
  unfold takeScan
  split
  · exact sound
  next k _ =>
    split
    · refine drainReleases_rowsSound (.of_touches (Touches.takeRow k r image s) fun other q => ?_)
      rw [takeRow_row]
      split
      case isTrue same =>
        obtain ⟨rfl, rfl⟩ := same
        exact (rowsSound_iff.1 sound other q).framed _ image
      · exact rowsSound_iff.1 sound other q
    · exact sound

theorem scanLinkLoss_rowsSound {s : State} (sound : RowsSound s) : RowsSound (scanLinkLoss s) :=
  .of_touches (Touches.scanLinkLoss s) fun kind r => by
    rw [scanLinkLoss_row]
    split
    · exact (rowsSound_iff.1 sound kind r).lost
    · exact rowsSound_iff.1 sound kind r

theorem rowsSound_keptByTraffic : KeptByTraffic RowsSound where
  ported _ _ sound := sound.of_scan rfl
  extended _ _ sound := sound.of_scan rfl
  freed _ _ sound := sound.of_scan rfl
  flagged _ _ _ _ sound := sound.of_scan rfl
  sampled _ _ _ sound := sound.of_scan rfl
  channelled _ _ _ _ sound := sound.of_scan rfl

theorem rowsSound_keptByChambers : KeptByChambers RowsSound where
  latch := rowsSound_keptByTraffic.reports.latch
  written _ _ _ _ sound := sound.of_scan rfl

theorem reportLoss_rowsSound {s : State} (sound : RowsSound s) : RowsSound (reportLoss s) := by
  have routes : ∀ {t : State}, RowsSound t → RowsSound (routerLinkLoss t) := fun {t} sound =>
    sound.touched (Touches.routerLinkLoss t) (fun kind => by cases kind <;> decide)
  obtain same | same | same := reportLoss_cases s <;> rw [same]
  · exact routes (scanLinkLoss_rowsSound sound)
  · exact rowsSound_keptByTraffic.freed _ _ (routes (scanLinkLoss_rowsSound sound))
  · exact rowsSound_keptByTraffic.freed _ _ (scanLinkLoss_rowsSound (routes sound))

theorem writeKeySetting_rowsSound (r : Nat) (x : KeySetting) {s : State} (sound : RowsSound s) :
    RowsSound (writeKeySetting r x s) := by
  have setting : ∀ q, (s.setKeySetting r x).keySetting q = if q = r then x else s.keySetting q := fun q =>
    Table.get_put _ _ _ _ _
  have rows : ∀ kind q, (s.setKeySetting r x).row kind q = s.row kind q := fun kind q => by cases kind <;> rfl
  have others : ∀ kind q, ¬(kind = .key ∧ q = r) →
      (s.row kind q).SoundIn kind ((s.setKeySetting r x).rowPositions kind q) := by
    intro kind q apart
    have before := rowsSound_iff.1 sound kind q
    cases kind with
    | key =>
      simp only [State.rowPositions, setting, if_neg (fun same => apart ⟨rfl, same⟩)]
      exact before
    | stop => exact before
    | input => exact before
  simp only [writeKeySetting]
  split
  case isTrue same =>
    refine rowsSound_iff.2 fun kind q => ?_
    rw [rows]
    by_cases at_row : kind = .key ∧ q = r
    · obtain ⟨rfl, rfl⟩ := at_row
      simp only [State.rowPositions, setting, if_true, same]
      exact rowsSound_iff.1 sound .key q
    · exact others kind q at_row
  case isFalse =>
    have trimmed : RowsSound ((s.setKeySetting r x).setRow .key r ((s.row .key r).trimmed x.keyCount)) := by
      refine .of_touches (Touches.setRow (A := [.row .key]) (by decide) r _ (s.setKeySetting r x)) fun kind q => ?_
      rw [row_setRow]
      split
      case isTrue at_row =>
        obtain ⟨rfl, rfl⟩ := at_row
        simp only [State.rowPositions, setting, if_true]
        exact .trimmed x.keyCount (rowsSound_iff.1 sound .key q).apart
      case isFalse apart =>
        rw [rows]
        exact others kind q apart
    exact trimmed.touched (Touches.handRun .key r _ _) (fun kind => by cases kind <;> decide)

theorem writeMask_rowsSound (i : Nat) (m : Bool) {s : State} (sound : RowsSound s) : RowsSound (writeMask i m s) := by
  have written := sound.of_scan
    (t := s.setRoute i { s.route i with fields := { (s.route i).fields with masked := m } }) rfl
  simp only [writeMask]
  split
  · exact written.touched (Touches.becomeMasked i _) (fun kind => by cases kind <;> decide)
  · exact written.touched (Touches.becomeUnmasked i _) (fun kind => by cases kind <;> decide)
  · exact written

theorem takeRoute_rowsSound (i : Nat) (x : RouteFields) {s : State} (sound : RowsSound s) : RowsSound (takeRoute i x s) := by
  unfold takeRoute
  split
  · have dropped : RowsSound (dropPending i x.defer s) := by
      unfold dropPending
      split
      · exact sound.of_scan rfl
      · exact sound
    exact drainReleases_rowsSound (writeMask_rowsSound i _ (dropped.of_scan rfl))
  · exact sound.of_scan rfl

theorem select_rowsSound (sel : TuningSelection) {s : State} (sound : RowsSound s) : RowsSound (select sel s) := by
  have spared : ∀ kind, Part.row kind ∉ claimParts := fun kind => by cases kind <;> decide
  unfold select
  split
  · split
    · exact sound
    · refine RowsSound.touched (Touches.startTuningRow sel _) (fun kind => by cases kind <;> decide) ?_
      refine RowsSound.of_scan (s := endPresentTuning s) ?_ rfl
      unfold endPresentTuning
      split
      · exact sound.touched (Touches.endTuningRow _ s) spared
      · exact sound
  · exact sound.of_scan rfl

theorem serves_rowsSound {s : State} {acted : Served} (serves : Serves s acted) (sound : RowsSound s) :
    RowsSound acted.1 := by
  cases serves with
  | mode m => exact sound.touched (Touches.modeSet m s) (fun kind => by cases kind <;> decide)
  | route read inTable taken => exact takeRoute_rowsSound _ _ sound
  | keyRow read inTable => exact writeKeySetting_rowsSound _ _ sound
  | stopConfirm read => exact ⟨sound.held, sound.lockout, sound.width, sound.inputLockout, sound.apart, sound.candidate⟩
  | inputConfirm read => exact ⟨sound.held, sound.lockout, sound.width, sound.inputLockout, sound.apart, sound.candidate⟩
  | mask i m => exact drainReleases_rowsSound (writeMask_rowsSound i m sound)
  | raise inTable => exact rowsSound_keptByChambers.enterBlower _ s sound
  | lower inTable => exact rowsSound_keptByChambers.enterLowering _ s sound
  | select sel => exact select_rowsSound sel sound
  | addHold p tune =>
    unfold addHold
    split
    · exact sound
    · split
      · exact sound
      · split
        · exact sound
        · exact (sound.of_scan (t := setHolds (s.claims.holds ++ [p]) s) rfl).touched (Touches.addClaim p _) (fun kind => by cases kind <;> decide)
  | removeHold p tune =>
    unfold removeHold
    split
    · exact (sound.of_scan (t := setHolds (s.claims.holds.filter (fun q => q ≠ p)) s) rfl).touched
        (Touches.removeClaim p _) (fun kind => by cases kind <;> decide)
    · exact sound
  | clearHolds tune => exact sound.touched (Touches.emptyTuningHolds s) (fun kind => by cases kind <;> decide)
  | readGroup g => exact sound.of_scan (by simp [readGroup])
  | snapshot =>
    have each : ∀ g t, RowsSound t → RowsSound (clearGroup g t) := fun g t sound => sound.of_scan (by simp)
    exact forEach_keeps each (List.range 4) s sound
  | maskItem x => exact rowsSound_keptByTraffic.reports.announce _ _ (sound.of_scan (s := s) rfl)
  | ciphers x => exact rowsSound_keptByChambers.clearCiphers x s sound
  | releaseAll =>
    have drained : RowsSound (drainReleases (askRelease s)) := drainReleases_rowsSound
      (sound.touched (Touches.askRelease s) (fun kind => by cases kind <;> decide))
    simp only [releaseAll]
    exact drained
  | _ => exact sound.of_scan rfl

/-- What no chamber shows is as it was after each chamber has been written. -/
theorem foldl_setChamber_same {α : Type} {view : State → α} (blind : ∀ t c x, view (t.setChamber c x) = view t)
    (write : State → Nat → Chamber) (l : List Nat) (s : State) :
    view (l.foldl (fun t c => t.setChamber c (write t c)) s) = view s := by
  induction l generalizing s with
  | nil => rfl
  | cons c rest ih => exact (ih _).trans (blind s c _)

/-- The relay of state `s` 1 ms later, where `u` is `s` with its chambers counted. -/
def State.counted (u s : State) : State :=
  { u with
    port := countPort s.port
    ext := { s.ext with timer := countTimer s.ext.timer }
    claims := { s.claims with pizz := s.claims.pizz.map countPizz }
    pool := { s.pool with
      strikes := s.pool.strikes.mapListed countTimer
      generators := s.pool.generators.mapListed countGenerator }
    router := { s.router with entries := s.router.entries.mapListed (fun e => { e with timer := countTimer e.timer }) }
    sequencer := { s.sequencer with players := s.sequencer.players.mapListed countPlayer }
    expression := { s.expression with
      channels := s.expression.channels.mapListed (fun ch => { ch with timer := countTimer ch.timer }) }
    status := { s.status with
      stretch := s.status.stretch.mapListed countTimer
      blinkLeft := s.status.blinkLeft - 1 } }

/-- The state with its chambers counted. -/
def State.chambersCounted (s : State) : State :=
  (List.range 4).foldl (fun t c => t.setChamber c (countChamber (t.chamber c))) s

theorem countDown_eq (s : State) : countDown s = s.chambersCounted.counted s := rfl

theorem State.counted_scan (u s : State) : (u.counted s).scan = u.scan := rfl

theorem State.counted_mode (u s : State) : (u.counted s).mode = s.mode := rfl

theorem State.counted_holds (u s : State) : (u.counted s).claims.holds = s.claims.holds := rfl

theorem State.counted_maskDemand (u s : State) : (u.counted s).router.maskDemand = s.router.maskDemand := rfl

theorem State.counted_engine (u s : State) : (u.counted s).engine = u.engine := rfl

theorem countDown_scan (s : State) : (countDown s).scan = s.scan :=
  ((congrArg State.scan (countDown_eq s)).trans (State.counted_scan _ s)).trans
    (foldl_setChamber_same (view := State.scan) (fun _ _ _ => rfl) (fun t c => countChamber (t.chamber c)) _ s)

theorem countDown_engine (s : State) : (countDown s).engine = s.engine :=
  ((congrArg State.engine (countDown_eq s)).trans (State.counted_engine _ s)).trans
    (foldl_setChamber_same (view := State.engine) (fun _ _ _ => rfl) (fun t c => countChamber (t.chamber c)) _ s)

/-- Settles O7: rows change only by a frame, a general release, a link loss, a written key count and a reset, and each of
these makes sound rows of sound ones. -/
theorem rowsStaySound : Obligations.RowsStaySound := by
  intro s t sound stepped
  have chambers := rowsSound_keptByChambers
  refine step_keeps (P := RowsSound) ?_ (fun s sound => sound.of_scan (countDown_scan s)) chambers.transmitAll
    (fun _ _ sound => sound.of_scan rfl) sound stepped
  exact exec_keeps rowsSound_keptByTraffic.reports chambers (fun s i u act => act_keeps_touched rowsSound_keptByTraffic
      chambers (fun _ _ touched sound => sound.touched touched (fun kind => by cases kind <;> decide))
      (fun kind r image _ => takeScan_rowsSound kind r image) (fun _ => reportLoss_rowsSound) act)
    (fun _ _ serves => serves_rowsSound serves) (fun _ sound => sound.of_scan rfl)
    (fun _ _ _ => rowsSound_reset.of_scan rfl) (fun _ _ => rowsSound_reset.of_scan rfl)

end Sys2Proof.Machine
end

section
/-! PROOF. The play state at rest outside PLAY, the hold set outside TUNE, and the active lists (R39 to R42, R50, R59, R61, R63,
R88, R93, R104, R111). -/

namespace Sys2Proof.Machine

/-! ### The three regimes of the invariant -/

/-- What is at rest outside PLAY. -/
structure AtRest (s : State) : Prop where
  active : ∀ r, s.active r = []
  pizz : s.claims.pizz = []
  players : ∀ n, n < 8 → s.player n = none
  routes : ∀ i, i < 96 → (s.route i).state = .idle
  masks : ∀ g, s.maskDemand g = 0

/-- R41, R42: the active list of each row holds stops of that row with mapping that a test admits, none twice. -/
def ListedBy (admits : Nat → Bool) (s : State) : Prop :=
  ∀ r, (s.active r).Nodup ∧ ∀ n ∈ s.active r, admits n = true ∧ (s.stop n).row = r ∧ (s.stop n).kind.hasMapping = true

/-- The relay is outside PLAY and what it plays is at rest. -/
structure Resting (s : State) : Prop where
  mode : s.mode ≠ .play
  rest : AtRest s

/-- The relay is in PLAY, the hold set is empty and the active lists hold drawn stops. -/
structure Playing (s : State) : Prop where
  mode : s.mode = .play
  holds : s.claims.holds = []
  listed : ListedBy s.drawn s

theorem AtRest.listed {s : State} (rest : AtRest s) (admits : Nat → Bool) : ListedBy admits s := fun r => by
  rw [rest.active r]
  exact ⟨List.nodup_nil, nofun⟩

theorem quietOutsidePlay_iff {s : State} :
    QuietOutsidePlay s ↔ Playing s ∨ Resting s ∧ (s.mode ≠ .tune → s.claims.holds = []) := by
  constructor
  · rintro ⟨active, pizz, players, routes, masks, holds, listed⟩
    by_cases play : s.mode = .play
    · exact .inl ⟨play, holds (by rw [play]; decide), listed⟩
    · exact .inr ⟨⟨play, active play, pizz play, players play, routes play, masks play⟩, holds⟩
  · rintro (⟨play, holds, listed⟩ | ⟨⟨mode, rest⟩, holds⟩)
    · have absurdly : ∀ {p : Prop}, s.mode ≠ .play → p := fun other => absurd play other
      exact ⟨absurdly, absurdly, absurdly, absurdly, absurdly, fun _ => holds, listed⟩
    · exact ⟨fun _ => rest.active, fun _ => rest.pizz, fun _ => rest.players, fun _ => rest.routes, fun _ => rest.masks,
        holds, rest.listed _⟩

/-! ### What keeps the regimes -/

theorem drawn_of_row {s t : State} (rows : ∀ r, t.row .stop r = s.row .stop r) (n : Nat) : t.drawn n = s.drawn n := by
  unfold State.drawn
  rw [rows]

theorem ListedBy.congr {admits : Nat → Bool} {s t : State} (listed : ListedBy admits s)
    (active : t.engine.active = s.engine.active) (stops : ∀ n, t.stop n = s.stop n) : ListedBy admits t := fun r => by
  have same : t.active r = s.active r := congrArg (fun x => Table.get x [] r) active
  rw [same]
  obtain ⟨once, mem⟩ := listed r
  exact ⟨once, fun n inList => by rw [stops]; exact mem n inList⟩

theorem ListedBy.mono {admits more : Nat → Bool} {s : State} (sub : ∀ n, admits n = true → more n = true)
    (listed : ListedBy admits s) : ListedBy more s := fun r =>
  ⟨(listed r).1, fun n mem => ⟨sub n ((listed r).2 n mem).1, ((listed r).2 n mem).2⟩⟩

theorem AtRest.congr {s t : State} (rest : AtRest s) (active : t.engine.active = s.engine.active)
    (pizz : t.claims.pizz = s.claims.pizz) (players : t.sequencer.players = s.sequencer.players)
    (routes : ∀ i, i < 96 → (t.route i).state = (s.route i).state)
    (masks : t.router.maskDemand = s.router.maskDemand) : AtRest t where
  active r := (congrArg (fun x => Table.get x [] r) active).trans (rest.active r)
  pizz := pizz.trans rest.pizz
  players n inTable := (congrArg (fun x => Table.get x none n) players).trans (rest.players n inTable)
  routes i inTable := (routes i inTable).trans (rest.routes i inTable)
  masks g := (congrArg (fun x => Table.get x 0 g) masks).trans (rest.masks g)

section Touched

variable {A : List Part} {s t : State}

theorem mode_of_touches (touched : Touches A s t) (mode : .mode ∉ A) : t.mode = s.mode := touched.mode mode

theorem ListedBy.touched {admits : Nat → Bool} (listed : ListedBy admits s) (touched : Touches A s t)
    (active : .active ∉ A) : ListedBy admits t :=
  listed.congr (touched.active active) (stop_of_touches touched)

theorem AtRest.touched (rest : AtRest s) (touched : Touches A s t) (active : .active ∉ A) (pizz : .pizz ∉ A)
    (player : .player ∉ A) (route : .route ∉ A) (mask : .maskDemand ∉ A) : AtRest t :=
  rest.congr (touched.active active) (touched.pizz pizz) (touched.players player)
    (fun i _ => congrArg RouteEntry.state (route_of_touches touched route i)) (touched.maskDemand mask)

theorem Resting.touched (resting : Resting s) (touched : Touches A s t) (mode : .mode ∉ A) (active : .active ∉ A)
    (pizz : .pizz ∉ A) (player : .player ∉ A) (route : .route ∉ A) (mask : .maskDemand ∉ A) : Resting t :=
  ⟨by rw [mode_of_touches touched mode]; exact resting.mode, resting.rest.touched touched active pizz player route mask⟩

theorem Playing.touched (playing : Playing s) (touched : Touches A s t) (mode : .mode ∉ A) (active : .active ∉ A)
    (hold : .hold ∉ A) (rows : .row .stop ∉ A) : Playing t where
  mode := (mode_of_touches touched mode).trans playing.mode
  holds := (touched.holds hold).trans playing.holds
  listed := by
    rw [funext (drawn_of_row (touched.rows .stop rows))]
    exact playing.listed.touched touched active

end Touched

/-! ### Outside PLAY -/

namespace Resting

variable {s : State}

theorem stopPlayer (n : Nat) (resting : Resting s) (inTable : n < 8) : Machine.stopPlayer n s = s := by
  simp only [Machine.stopPlayer, resting.rest.players n inTable]

theorem stopAllPlayers (resting : Resting s) : Machine.stopAllPlayers s = s := by
  have each : ∀ l : List Nat, (∀ n ∈ l, n < 8) → forEach l Machine.stopPlayer s = s := by
    intro l inTable
    induction l with
    | nil => rfl
    | cons n rest ih =>
      have still := resting.stopPlayer n (inTable n List.mem_cons_self)
      exact (congrArg (fun t => forEach rest Machine.stopPlayer t) still).trans
        (ih fun m mem => inTable m (List.mem_cons_of_mem _ mem))
  exact each _ fun n mem => List.mem_range.1 mem

theorem none_runs (resting : Resting s) (i : Nat) : players.filter (s.runsFor i) = [] := by
  refine List.filter_eq_nil_iff.2 fun n mem => ?_
  rw [State.runsFor, resting.rest.players n (List.mem_range.1 mem)]
  exact Bool.false_ne_true

theorem endSequences (cause : EndCause) (i : Nat) (resting : Resting s) : Machine.endSequences cause i s = s := by
  cases cause with
  | deactivation => simp only [Machine.endSequences, finishRunningOf, resting.none_runs]; rfl
  | masking => simp only [Machine.endSequences, stopRunningOf, resting.none_runs]; rfl
  | leaving => rfl

theorem endHold (kind : HoldKind) (p : Point) (resting : Resting s) : Resting (Machine.endHold kind p s) := by
  cases kind with
  | hold => exact resting.touched (Touches.removeClaim p s) (by decide) (by decide) (by decide) (by decide) (by decide) (by decide)
  | roll => exact resting.touched (Touches.lowerDemand p s) (by decide) (by decide) (by decide) (by decide) (by decide) (by decide)

theorem endService (cause : EndCause) (i : Nat) (resting : Resting s) : Resting (Machine.endService cause i s) := by
  have sequences : Resting (Machine.endSequences cause i s) := (resting.endSequences cause i).symm ▸ resting
  simp only [Machine.endService]
  cases (s.route i).fields.trigger with
  | split => exact resting.endHold _ _
  | edge | level =>
    cases (s.route i).fields.target with
    | hold | roll => exact resting.endHold _ _
    | sequence => exact sequences
    | none | strike | releaseAll => exact resting

theorem writeIdle (i : Nat) (timer : Option Nat) (resting : Resting s) : Resting (setRouteState i .idle timer s) := by
  refine ⟨resting.mode, resting.rest.congr rfl rfl rfl (fun j inTable => ?_) rfl⟩
  rw [setRouteState, route_setRoute]
  split
  · exact (resting.rest.routes j inTable).symm
  · rfl

theorem writeRoute (i : Nat) (x : RouteEntry) (same : x.state = (s.route i).state) (resting : Resting s) :
    Resting (s.setRoute i x) := by
  refine ⟨resting.mode, resting.rest.congr rfl rfl rfl (fun j _ => ?_) rfl⟩
  rw [route_setRoute]
  split
  case isTrue own => rw [same, own]
  · rfl

theorem masked (resting : Resting s) (i : Nat) : s.maskedRoute i = true := by
  simp [State.maskedRoute, resting.mode]

theorem activate (i : Nat) (resting : Resting s) : Machine.activate i s = s := by
  have masked := resting.masked i
  simp only [Machine.activate, activateEdge, masked, resting.mode]
  split
  · split <;> simp
  · simp
  · simp

theorem deactivate (i : Nat) (resting : Resting s) : Resting (Machine.deactivate i s) := by
  simp only [Machine.deactivate]
  split
  · exact (resting.writeIdle i none).endService _ _
  · exact (resting.writeIdle i none).touched (Touches.strike _ _) (by decide) (by decide) (by decide) (by decide)
      (by decide) (by decide)
  · exact (resting.writeIdle i none).endService _ _
  · exact resting

theorem setLevel (i : Nat) (active : Bool) (resting : Resting s) : Resting (Machine.setLevel i active s) := by
  have written := resting.writeRoute i { s.route i with active := active } rfl
  simp only [Machine.setLevel]
  split
  · exact resting
  · split
    · rw [written.activate]
      exact written
    · exact written.deactivate i

theorem routerLinkLoss (resting : Resting s) : Resting (Machine.routerLinkLoss s) :=
  forEach_keeps (fun i _ resting => resting.setLevel i false) _ s resting

theorem routeReleased (i : Nat) (resting : Resting s) : Resting (Machine.routeReleased i s) := by
  unfold Machine.routeReleased
  split
  · exact (resting.writeIdle i none).endService _ _
  · exact resting.writeIdle i none
  · exact resting.writeIdle i none
  · exact resting

theorem routerReleased (resting : Resting s) : Resting (Machine.routerReleased s) :=
  forEach_keeps (fun i _ resting => resting.routeReleased i) _ s resting

theorem emptyTuningHolds (resting : Resting s) : Resting (Machine.emptyTuningHolds s) :=
  resting.touched (Touches.emptyTuningHolds s) (by decide) (by decide) (by decide) (by decide) (by decide) (by decide)

theorem startTuning (sel : TuningSelection) (k : Nat) (resting : Resting s) : Resting (Machine.startTuning sel k s) :=
  resting.touched (Touches.startTuning sel k s) (by decide) (by decide) (by decide) (by decide) (by decide) (by decide)

theorem endTuning (sel : TuningSelection) (k : Nat) (resting : Resting s) : Resting (Machine.endTuning sel k s) :=
  resting.touched (Touches.endTuning sel k s) (by decide) (by decide) (by decide) (by decide) (by decide) (by decide)

theorem keyTransition (r k : Nat) (press : Bool) (resting : Resting s) : Resting (Machine.keyTransition r k press s) := by
  unfold Machine.keyTransition
  split
  · exact resting
  case h_2 play => exact absurd play resting.mode
  · split
    · exact resting
    · split
      · split
        · exact resting.startTuning _ _
        · exact resting.endTuning _ _
      · exact resting

theorem stopTransition (n : Nat) (press : Bool) (resting : Resting s) : Machine.stopTransition n press s = s :=
  if_neg resting.mode

theorem handRun (kind : RowKind) (r : Nat) (run : List (Nat × Bool)) (resting : Resting s) :
    Resting (Machine.handRun kind r run s) := by
  refine forEach_keeps (fun x t resting => ?_) run s resting
  cases kind with
  | key => exact resting.keyTransition r _ _
  | stop =>
    have still : handOn .stop r x t = t := resting.stopTransition _ _
    rw [still]
    exact resting
  | input => exact resting.setLevel _ _

theorem setRow (kind : RowKind) (r : Nat) (x : Row) (resting : Resting s) : Resting (s.setRow kind r x) := by
  obtain ⟨mode, ⟨active, pizz, players, routes, masks⟩⟩ := resting
  cases kind <;> exact ⟨mode, ⟨active, pizz, players, routes, masks⟩⟩

theorem releaseRow (kind : RowKind) (r : Nat) (resting : Resting s) : Resting (Machine.releaseRow kind r s) :=
  (resting.setRow kind r _).handRun kind r _

theorem generalRelease (resting : Resting s) : Resting (Machine.generalRelease s) := by
  have keys := forEach_keeps (fun r _ resting => Resting.releaseRow .key r resting) (List.range 9) s resting
  have rows := forEach_keeps (fun r _ resting => Resting.releaseRow .input r resting) (List.range 3) _ keys
  simp only [Machine.generalRelease]
  rw [rows.routerReleased.stopAllPlayers]
  exact rows.routerReleased.emptyTuningHolds

theorem drainReleases (resting : Resting s) : Resting (Machine.drainReleases s) := by
  have once : ∀ t, Resting t → Resting (releaseOnce t) := by
    intro t resting
    unfold releaseOnce
    split
    · have done : Resting (t.setScan { t.scan with releaseDue := false }) := ⟨resting.mode, resting.rest.congr rfl rfl rfl
        (fun _ _ => rfl) rfl⟩
      exact done.generalRelease
    · exact resting
  unfold Machine.drainReleases
  exact once (releaseOnce s) (once s resting)

theorem takeScan (kind r : Nat) (image : Image) (resting : Resting s) : Resting (Machine.takeScan kind r image s) := by
  unfold Machine.takeScan
  split
  · exact resting
  · split
    · exact ((resting.setRow _ r _).handRun _ r _).drainReleases
    · exact resting

theorem scanLinkLoss (resting : Resting s) : Resting (Machine.scanLinkLoss s) := by
  have lose : ∀ kind r t, Resting t → Resting (loseRow kind r t) := fun kind r t resting =>
    (resting.setRow kind r _).handRun kind r _
  have clear : ∀ kind r t, Resting t → Resting (clearRow kind r t) := fun kind r t resting => resting.setRow kind r _
  simp only [Machine.scanLinkLoss]
  exact forEach_keeps (clear .input) _ _ (forEach_keeps (clear .stop) _ _ (forEach_keeps (clear .key) _ _
    (forEach_keeps (lose .input) _ _ (forEach_keeps (lose .key) _ _ resting))))

theorem reportLoss (resting : Resting s) : Resting (Machine.reportLoss s) := by
  have freed : ∀ {t : State} (n : Nat), Resting t → Resting (t.setFreeCount n) := fun n resting =>
    ⟨resting.mode, resting.rest.congr rfl rfl rfl (fun _ _ => rfl) rfl⟩
  obtain same | same | same := reportLoss_cases s <;> rw [same]
  · exact resting.scanLinkLoss.routerLinkLoss
  · exact freed _ resting.scanLinkLoss.routerLinkLoss
  · exact freed _ resting.routerLinkLoss.scanLinkLoss

theorem writeMask (i : Nat) (m : Bool) (resting : Resting s) : Resting (Machine.writeMask i m s) := by
  have written := resting.writeRoute i { s.route i with fields := { (s.route i).fields with masked := m } } rfl
  simp only [Machine.writeMask, resting.masked i, written.masked i]
  exact written

end Resting

/-! ### Active lists -/

theorem active_setActive (s : State) (r q : Nat) (l : List Nat) :
    (s.setActive r l).active q = if q = r then l else s.active q := Table.get_put _ _ _ _ _

theorem ListedBy.joinList {admits : Nat → Bool} {s : State} {n : Nat} (listed : ListedBy admits s)
    (apart : admits n = false) (mapped : (s.stop n).kind.hasMapping = true) :
    ListedBy (fun m => admits m || decide (m = n)) (joinList n s) := by
  intro r
  have same : (Machine.joinList n s).active r =
      if r = (s.stop n).row then s.active (s.stop n).row ++ [n] else s.active r := active_setActive s _ _ _
  obtain ⟨once, mem⟩ := listed r
  rw [same]
  split
  case isTrue own =>
    rw [← own]
    refine ⟨?_, fun m inList => ?_⟩
    · refine List.nodup_append.2 ⟨once, List.nodup_singleton n, fun a inList b isNew => ?_⟩
      rintro rfl
      rw [List.mem_singleton] at isNew
      subst isNew
      exact absurd (mem a inList).1 (by rw [apart]; decide)
    · obtain old | isNew := List.mem_append.1 inList
      · obtain ⟨admitted, rest⟩ := mem m old
        exact ⟨Bool.or_eq_true_iff.2 (.inl admitted), rest⟩
      · rw [List.mem_singleton] at isNew
        subst isNew
        exact ⟨by simp, own.symm, mapped⟩
  · exact ⟨once, fun m inList => ⟨Bool.or_eq_true_iff.2 (.inl (mem m inList).1), (mem m inList).2⟩⟩

theorem ListedBy.leaveList {admits : Nat → Bool} {s : State} (n : Nat) (listed : ListedBy admits s) :
    ListedBy (fun m => admits m && decide (m ≠ n)) (leaveList n s) := by
  intro r
  have same : (Machine.leaveList n s).active r =
      if r = (s.stop n).row then (s.active (s.stop n).row).filter (fun m => m ≠ n) else s.active r :=
    active_setActive s _ _ _
  obtain ⟨once, mem⟩ := listed r
  rw [same]
  split
  case isTrue own =>
    rw [← own]
    refine ⟨once.filter _, fun m inList => ?_⟩
    obtain ⟨old, other⟩ := List.mem_filter.1 inList
    exact ⟨by simp only [(mem m old).1, other, Bool.and_self], (mem m old).2⟩
  case isFalse elsewhere =>
    refine ⟨once, fun m inList => ⟨?_, (mem m inList).2⟩⟩
    have other : m ≠ n := fun same => elsewhere (same ▸ (mem m inList).2.1.symm)
    simp only [(mem m inList).1, decide_eq_true other, Bool.and_self]

/-- A stop without mapping is on no active list. -/
theorem ListedBy.unmapped {admits : Nat → Bool} {s : State} {n : Nat} (listed : ListedBy admits s)
    (unmapped : (s.stop n).kind.hasMapping = false) : ListedBy (fun m => admits m && decide (m ≠ n)) s := by
  refine fun r => ⟨(listed r).1, fun m inList => ⟨?_, ((listed r).2 m inList).2⟩⟩
  obtain ⟨admitted, -, mapped⟩ := (listed r).2 m inList
  have other : m ≠ n := fun same => absurd mapped (by rw [same, unmapped]; decide)
  simp only [admitted, decide_eq_true other, Bool.and_self]

theorem ListedBy.drawStop {admits : Nat → Bool} {s : State} {n : Nat} (listed : ListedBy admits s)
    (apart : admits n = false) : ListedBy (fun m => admits m || decide (m = n)) (drawStop n s) := by
  have more : ListedBy (fun m => admits m || decide (m = n)) s := listed.mono fun m admitted => by rw [admitted]; rfl
  simp only [Machine.drawStop]
  split
  case h_1 kind | h_2 kind | h_3 kind =>
    have joined := listed.joinList apart (by rw [kind]; rfl)
    exact joined.touched (Touches.forEach (fun k u => Touches.startCoupling _ k n u) _ _) (by decide)
  · exact more.touched (Touches.raiseTremulant _ s) (by decide)
  · exact more.touched (Touches.raiseMask _ s) (by decide)
  · exact more

theorem ListedBy.cancelStop {admits : Nat → Bool} {s : State} (n : Nat) (listed : ListedBy admits s) :
    ListedBy (fun m => admits m && decide (m ≠ n)) (cancelStop n s) := by
  simp only [Machine.cancelStop]
  split
  case h_1 | h_2 | h_3 =>
    exact (listed.touched (Touches.forEach (fun k u => Touches.endCoupling _ k n u) _ _) (by decide)).leaveList n
  case h_4 kind => exact (listed.unmapped (by rw [kind]; rfl)).touched (Touches.lowerTremulant _ s) (by decide)
  case h_5 kind => exact (listed.unmapped (by rw [kind]; rfl)).touched (Touches.lowerMask _ s) (by decide)
  case h_6 kind => exact listed.unmapped (by rw [kind]; rfl)

/-- A run of transitions of one stop row, all the same way. -/
theorem forEach_map {α β : Type} (f : α → β) (g : β → State → State) (l : List α) (s : State) :
    forEach (l.map f) g s = forEach l (fun a => g (f a)) s := List.foldl_map

theorem forEach_cons {α : Type} (f : α → State → State) (a : α) (l : List α) (s : State) :
    forEach (a :: l) f s = forEach l f (f a s) := rfl

theorem forEach_append {α : Type} (f : α → State → State) (l m : List α) (s : State) :
    forEach (l ++ m) f s = forEach m f (forEach l f s) := List.foldl_append

theorem stopTransition_play {s : State} (play : s.mode = .play) (n : Nat) (press : Bool) :
    stopTransition n press s = if press then drawStop n s else cancelStop n s := if_pos play

theorem ListedBy.cancelAll {r : Nat} (ps : List Nat) {admits : Nat → Bool} {s : State} (play : s.mode = .play)
    (listed : ListedBy admits s) :
    ListedBy (fun m => admits m && ps.all (fun p => decide (m ≠ 32 * r + p)))
      (forEach ps (fun p => stopTransition (32 * r + p) false) s) := by
  induction ps generalizing admits s with
  | nil => simpa [forEach] using listed
  | cons p rest ih =>
    have mode := (mode_of_touches (Touches.stopTransition (32 * r + p) false s) (by decide)).trans play
    have first : ListedBy (fun m => admits m && decide (m ≠ 32 * r + p)) (stopTransition (32 * r + p) false s) := by
      rw [stopTransition_play play]
      exact listed.cancelStop _
    refine (ih mode first).mono fun m admitted => ?_
    simpa only [List.all_cons, Bool.and_assoc] using admitted

theorem ListedBy.drawAll {r : Nat} (ps : List Nat) (once : ps.Nodup) {admits : Nat → Bool} {s : State}
    (play : s.mode = .play) (listed : ListedBy admits s) (apart : ∀ p ∈ ps, admits (32 * r + p) = false) :
    ListedBy (fun m => admits m || ps.any (fun p => decide (m = 32 * r + p)))
      (forEach ps (fun p => stopTransition (32 * r + p) true) s) := by
  induction ps generalizing admits s with
  | nil => simpa [forEach] using listed
  | cons p rest ih =>
    obtain ⟨other, once'⟩ := List.nodup_cons.1 once
    have mode := (mode_of_touches (Touches.stopTransition (32 * r + p) true s) (by decide)).trans play
    have first : ListedBy (fun m => admits m || decide (m = 32 * r + p)) (stopTransition (32 * r + p) true s) := by
      rw [stopTransition_play play]
      exact listed.drawStop (apart p List.mem_cons_self)
    refine (ih once' mode first fun q mem => ?_).mono fun m admitted => ?_
    · rw [apart q (List.mem_cons_of_mem _ mem)]
      have differ : q ≠ p := fun same => other (same ▸ mem)
      simp only [Bool.false_or, decide_eq_false_iff_not]
      omega
    · simpa only [List.any_cons, Bool.or_assoc] using admitted

theorem mem_positions {image : Image} {p : Nat} : p ∈ positions image ↔ p < 64 ∧ image.getLsbD p = true := by
  rw [positions, List.mem_filter, List.mem_range]

theorem positions_nodup (image : Image) : (positions image).Nodup := List.nodup_range.filter _

/-- R41, R42: a run of a stop row leaves drawn stops on the lists, when what it draws are positions of the row. -/
theorem ListedBy.stopRun {s : State} {r : Nat} {old new : Image} (play : s.mode = .play)
    (inRow : ∀ p, new.getLsbD p = true → old.getLsbD p = false → p < 32)
    (listed : ListedBy (fun n => if n / 32 = r then old.getLsbD (n % 32) else s.drawn n) s) :
    ListedBy (fun n => if n / 32 = r then new.getLsbD (n % 32) else s.drawn n) (handRun .stop r (runOf old new) s) := by
  have split : handRun .stop r (runOf old new) s =
      forEach (positions (new &&& ~~~old)) (fun p => stopTransition (32 * r + p) true)
        (forEach (positions (old &&& ~~~new)) (fun p => stopTransition (32 * r + p) false) s) := by
    rw [handRun, runOf, forEach_append, forEach_map, forEach_map]
    rfl
  have mode : (forEach (positions (old &&& ~~~new)) (fun p => stopTransition (32 * r + p) false) s).mode = .play :=
    (mode_of_touches (Touches.forEach (fun p u => Touches.stopTransition (32 * r + p) false u) _ s) (by decide)).trans play
  rw [split]
  have drawnBits : ∀ p ∈ positions (new &&& ~~~old), p < 32 ∧ new.getLsbD p = true ∧ old.getLsbD p = false := by
    intro p mem
    obtain ⟨small, bit⟩ := mem_positions.1 mem
    simp only [BitVec.getLsbD_and, BitVec.getLsbD_not, small, decide_true, Bool.true_and, Bool.and_eq_true,
      Bool.not_eq_true'] at bit
    exact ⟨inRow p bit.1 bit.2, bit⟩
  refine ((listed.cancelAll (positions (old &&& ~~~new)) play).drawAll _ (positions_nodup _) mode fun p mem => ?_).mono
    fun n admitted => ?_
  · obtain ⟨small, -, out⟩ := drawnBits p mem
    have row : (32 * r + p) / 32 = r := by omega
    have bit : (32 * r + p) % 32 = p := by omega
    simp only [row, bit, if_true, out, Bool.false_and]
  · rw [Bool.or_eq_true, Bool.and_eq_true] at admitted
    obtain ⟨was, kept⟩ | joined := admitted
    · by_cases row : n / 32 = r
      · rw [if_pos row] at was ⊢
        by_contra out
        have released : n % 32 ∈ positions (old &&& ~~~new) := by
          have small : n % 32 < 64 := by omega
          refine mem_positions.2 ⟨small, ?_⟩
          rw [BitVec.getLsbD_and, BitVec.getLsbD_not, was, Bool.eq_false_iff.2 out]
          simpa using small
        have other := of_decide_eq_true (List.all_eq_true.1 kept _ released)
        omega
      · rw [if_neg row] at was ⊢
        exact was
    · obtain ⟨p, mem, same⟩ := List.any_eq_true.1 joined
      obtain ⟨small, set, -⟩ := drawnBits p mem
      have same := of_decide_eq_true same
      have row : n / 32 = r := by omega
      have bit : n % 32 = p := by omega
      rw [if_pos row, bit]
      exact set

/-! ### In PLAY -/

namespace Playing

variable {s : State}

theorem of_held (play : s.mode = .play) (holds : s.claims.holds = [])
    (listed : ListedBy (fun n => (s.row .stop (n / 32)).held.getLsbD (n % 32)) s) : Playing s := ⟨play, holds, listed⟩

theorem scanned {t : State} (playing : Playing s) (engine : t.engine = s.engine) (claims : t.claims = s.claims)
    (status : t.status = s.status) (held : ∀ r, (t.row .stop r).held = (s.row .stop r).held) : Playing t where
  mode := (congrArg Status.mode status).trans playing.mode
  holds := (congrArg ClaimStore.holds claims).trans playing.holds
  listed := by
    have drawn : t.drawn = s.drawn := funext fun n => by unfold State.drawn; rw [held]
    rw [drawn]
    exact playing.listed.congr (congrArg Engine.active engine) fun n => by unfold State.stop; rw [engine]

theorem setRow (kind : RowKind) (r : Nat) (x : Row) (same : kind = .stop → x.held = (s.row .stop r).held)
    (playing : Playing s) : Playing (s.setRow kind r x) := by
  refine playing.scanned (by cases kind <;> rfl) (by cases kind <;> rfl) (by cases kind <;> rfl) fun q => ?_
  rw [row_setRow]
  split
  case isTrue own => rw [same own.1.symm, own.2]
  · rfl

theorem handRun {kind : RowKind} (other : kind ≠ .stop) (r : Nat) (run : List (Nat × Bool)) (playing : Playing s) :
    Playing (Machine.handRun kind r run s) := by
  cases kind with
  | key => exact playing.touched (Touches.keyRun r run s) (by decide) (by decide) (by decide) (by decide)
  | stop => exact absurd rfl other
  | input => exact playing.touched (Touches.inputRun r run s) (by decide) (by decide) (by decide) (by decide)

theorem emptyTuningHolds (playing : Playing s) : Playing (Machine.emptyTuningHolds s) := by
  have still : Machine.emptyTuningHolds s = s.setClaims { s.claims with holds := [] } := by
    simp only [Machine.emptyTuningHolds, playing.holds]
    rfl
  rw [still]
  exact ⟨playing.mode, rfl, playing.listed.congr rfl fun _ => rfl⟩

theorem generalRelease (playing : Playing s) : Playing (Machine.generalRelease s) := by
  have release : ∀ kind, kind ≠ .stop → ∀ r t, Playing t → Playing (releaseRow kind r t) := fun kind other r t playing =>
    (playing.setRow kind r _ (fun stop => absurd stop other)).handRun other r _
  have rows := forEach_keeps (release .input (by decide)) (List.range 3) _
    (forEach_keeps (release .key (by decide)) (List.range 9) s playing)
  have routed := rows.touched (Touches.routerReleased _) (by decide) (by decide) (by decide) (by decide)
  simp only [Machine.generalRelease]
  exact (routed.touched (Touches.stopAllPlayers _) (by decide) (by decide) (by decide) (by decide)).emptyTuningHolds

theorem drainReleases (playing : Playing s) : Playing (Machine.drainReleases s) := by
  have once : ∀ t, Playing t → Playing (releaseOnce t) := by
    intro t playing
    unfold releaseOnce
    split
    · have done : Playing (t.setScan { t.scan with releaseDue := false }) :=
        playing.scanned rfl rfl rfl fun _ => rfl
      exact done.generalRelease
    · exact playing
  unfold Machine.drainReleases
  exact once (releaseOnce s) (once s playing)

/-- R6, R7: a row accepts only positions that the frame showed. -/
theorem framed_inRow {kind : RowKind} {row : Row} {confirm : Nat} {raw : Image} (stop : kind = .stop) {p : Nat}
    (new : (row.framed kind confirm raw).held.getLsbD p = true) (old : row.held.getLsbD p = false) :
    raw.getLsbD p = true := by
  subst stop
  have held : (row.framed .stop confirm raw).held = row.held ∨ (row.framed .stop confirm raw).held = raw := by
    unfold Row.framed
    by_cases same : effectiveImage .stop row raw = row.held
    · simp only [considered, if_pos same, accepted, true_or]
    · obtain ⟨n, waits⟩ := Row.SoundIn.considered_other
        (row := { row with lockout := lockoutAfter .stop row raw }) (eff := effectiveImage .stop row raw) same
      rw [waits]
      simp only [accepted]
      split
      · exact .inr rfl
      · exact .inl rfl
  obtain same | same := held
  · rw [same, old] at new
    exact absurd new (by decide)
  · rwa [same] at new

theorem takeRow (kind : RowKind) (r : Nat) (image : Image) (playing : Playing s) :
    Playing (Machine.takeRow kind r image s) := by
  by_cases stop : kind = .stop
  · subst stop
    have touched := Touches.takeRow .stop r image s
    have mode := (mode_of_touches touched (by decide)).trans playing.mode
    have holds := (touched.holds (by decide)).trans playing.holds
    refine of_held mode holds ?_
    have written := row_setRow .stop .stop r
    have listed := ListedBy.stopRun (s := s.setRow .stop r ((s.row .stop r).framed .stop (s.confirmOf .stop r)
        (image &&& s.rowPositions .stop r))) (r := r) (old := (s.row .stop r).held)
      (new := ((s.row .stop r).framed .stop (s.confirmOf .stop r) (image &&& s.rowPositions .stop r)).held)
      playing.mode (fun p new old => ?_) ((playing.listed.mono (fun n drawn => ?_)).congr rfl fun _ => rfl)
    · refine ListedBy.mono (fun n admitted => ?_) listed
      rw [takeRow_row]
      by_cases own : n / 32 = r
      · rw [if_pos own] at admitted
        rw [if_pos ⟨rfl, own⟩]
        exact admitted
      · rw [if_neg own, State.drawn, written, if_neg (fun both => own both.2)] at admitted
        rw [if_neg (fun both => own both.2)]
        exact admitted
    · have shown := framed_inRow rfl new old
      rw [BitVec.getLsbD_and, Bool.and_eq_true] at shown
      have positions : (below 32).getLsbD p = true := shown.2
      by_cases small : p < 64
      · rw [below, imageOf_getLsbD _ small] at positions
        exact of_decide_eq_true positions
      · rw [BitVec.getLsbD_of_ge _ _ (Nat.not_lt.1 small)] at positions
        exact absurd positions (by decide)
    · by_cases own : n / 32 = r
      · rw [if_pos own, ← own]
        exact drawn
      · rw [if_neg own, State.drawn, written, if_neg (fun both => own both.2)]
        exact drawn
  · exact (playing.setRow kind r _ (fun own => absurd own stop)).handRun stop r _

theorem takeScan (kind r : Nat) (image : Image) (playing : Playing s) : Playing (Machine.takeScan kind r image s) := by
  unfold Machine.takeScan
  split
  · exact playing
  · split
    · exact (playing.takeRow _ r image).drainReleases
    · exact playing

theorem scanLinkLoss (playing : Playing s) : Playing (Machine.scanLinkLoss s) := by
  have lose : ∀ kind, kind ≠ .stop → ∀ r t, Playing t → Playing (loseRow kind r t) := fun kind other r t playing =>
    (playing.setRow kind r _ (fun stop => absurd stop other)).handRun other r _
  have clear : ∀ kind r t, Playing t → Playing (clearRow kind r t) := fun kind r t playing =>
    playing.setRow kind r _ (fun stop => by rw [stop])
  simp only [Machine.scanLinkLoss]
  exact forEach_keeps (clear .input) _ _ (forEach_keeps (clear .stop) _ _ (forEach_keeps (clear .key) _ _
    (forEach_keeps (lose .input (by decide)) _ _ (forEach_keeps (lose .key (by decide)) _ _ playing))))

theorem reportLoss (playing : Playing s) : Playing (Machine.reportLoss s) := by
  have routes : ∀ {t : State}, Playing t → Playing (routerLinkLoss t) := fun {t} playing =>
    playing.touched (Touches.routerLinkLoss t) (by decide) (by decide) (by decide) (by decide)
  have freed : ∀ {t : State} (n : Nat), Playing t → Playing (t.setFreeCount n) := fun {t} n playing =>
    playing.scanned (s := t) rfl rfl rfl fun _ => rfl
  obtain same | same | same := reportLoss_cases s <;> rw [same]
  · exact routes playing.scanLinkLoss
  · exact freed _ (routes playing.scanLinkLoss)
  · exact freed _ (routes playing).scanLinkLoss

theorem writeMask (i : Nat) (m : Bool) (playing : Playing s) : Playing (Machine.writeMask i m s) := by
  have written : Playing (s.setRoute i { s.route i with fields := { (s.route i).fields with masked := m } }) :=
    playing.scanned rfl rfl rfl fun _ => rfl
  simp only [Machine.writeMask]
  split
  · exact written.touched (Touches.becomeMasked i _) (by decide) (by decide) (by decide) (by decide)
  · exact written.touched (Touches.becomeUnmasked i _) (by decide) (by decide) (by decide) (by decide)
  · exact written

end Playing

/-! ### Changes of mode -/

theorem setMode_mode (m : Mode) (s : State) : (setMode m s).mode = m := by
  unfold setMode
  split
  case isTrue same => exact same.symm
  · exact (Touches.latch (A := [.report .mode]) (i := .mode) (by decide)
      (s.setStatus { s.status with mode := m })).mode (by decide)

section Leaving

variable {s : State}

theorem route_of_endService (cause : EndCause) (i j : Nat) (s : State) :
    (endService cause i s).route j = s.route j := route_of_touches (Touches.endService cause i s) (by decide) j

/-- R104: an entry left is IDLE, and the other entries stand. -/
theorem routeLeavePlay_state (i j : Nat) (s : State) :
    ((routeLeavePlay i s).route j).state = if j = i then .idle else (s.route j).state := by
  have idle : ∀ j, ((setRouteState i .idle none s).route j).state = if j = i then .idle else (s.route j).state := by
    intro j
    rw [setRouteState, route_setRoute]
    split <;> rfl
  cases state : (s.route i).state with
  | inService => simp only [routeLeavePlay, state, route_of_endService, idle]
  | measuring | pending => simp only [routeLeavePlay, state, idle]
  | idle =>
    simp only [routeLeavePlay, state]
    split
    case isTrue own => rw [own, state]
    · rfl

theorem routesLeft_state (l : List Nat) (s : State) (j : Nat) :
    ((forEach l routeLeavePlay s).route j).state = if j ∈ l then .idle else (s.route j).state := by
  induction l generalizing s with
  | nil => simp [forEach]
  | cons i rest ih =>
    have first : forEach (i :: rest) routeLeavePlay s = forEach rest routeLeavePlay (routeLeavePlay i s) := rfl
    rw [first, ih, routeLeavePlay_state]
    by_cases later : j ∈ rest
    · rw [if_pos later, if_pos (List.mem_cons_of_mem _ later)]
    · by_cases own : j = i
      · rw [if_neg later, if_pos own, if_pos (by rw [own]; exact List.mem_cons_self)]
      · rw [if_neg later, if_neg own, if_neg (by simp [own, later])]

theorem routerLeavePlay_state (s : State) {i : Nat} (inTable : i < 96) :
    ((routerLeavePlay s).route i).state = .idle := by
  have left := routesLeft_state inputs s i
  simp only [routerLeavePlay]
  generalize forEach inputs routeLeavePlay s = t at left
  exact left.trans (if_pos (List.mem_range.2 inTable))

theorem stopPlayer_player (n m : Nat) (s : State) :
    (stopPlayer n s).player m = if m = n then none else s.player m := by
  unfold stopPlayer
  split
  case h_1 idle =>
    split
    case isTrue own => rw [own, idle]
    · rfl
  case h_2 run _ =>
    have touched : Touches claimParts (s.setPlayer n none) (forEach run.holds removeClaim (s.setPlayer n none)) :=
      Touches.forEach (fun p u => Touches.removeClaim p u) _ _
    exact (player_of_touches touched (by decide) m).trans (Table.get_put _ _ _ _ _)

theorem stopPlayers_player (l : List Nat) (m : Nat) (s : State) :
    (forEach l stopPlayer s).player m = if m ∈ l then none else s.player m := by
  induction l generalizing s with
  | nil => simp [forEach]
  | cons n rest ih =>
    have first : forEach (n :: rest) stopPlayer s = forEach rest stopPlayer (stopPlayer n s) := rfl
    rw [first, ih, stopPlayer_player]
    by_cases later : m ∈ rest
    · rw [if_pos later, if_pos (List.mem_cons_of_mem _ later)]
    · by_cases own : m = n
      · rw [if_neg later, if_pos own, if_pos (by rw [own]; exact List.mem_cons_self)]
      · rw [if_neg later, if_neg own, if_neg (by simp [own, later])]

theorem engineLeavePlay_lists (s : State) :
    (∀ r, (engineLeavePlay s).active r = []) ∧ (engineLeavePlay s).claims.pizz = [] := by
  have cancelled : ∀ l u, Touches (.tremDemand :: poolParts) u (forEach l cancelAtLeaving u) := fun l u =>
    Touches.forEach (fun n t => by
      unfold cancelAtLeaving
      split
      · exact Touches.lowerTremulant _ t
      · exact .refl t) l u
  simp only [engineLeavePlay]
  refine ⟨fun r => ?_, (cancelled _ _).pizz (by decide)⟩
  exact congrArg (fun x => Table.get x [] r) ((cancelled _ _).active (by decide))

/-- R61, R104, R116: every block that plays is at rest once PLAY has been left. -/
theorem leavePlay_rest (s : State) : AtRest (leavePlay s) := by
  have cancelled := Touches.cancelStrikes (stopAllPlayers (routerLeavePlay (engineLeavePlay s)))
  have stopped := Touches.stopAllPlayers (routerLeavePlay (engineLeavePlay s))
  have routed := Touches.routerLeavePlay (engineLeavePlay s)
  obtain ⟨active, pizz⟩ := engineLeavePlay_lists s
  refine AtRest.touched (s := stopAllPlayers (routerLeavePlay (engineLeavePlay s))) ?_ cancelled (by decide) (by decide)
    (by decide) (by decide) (by decide)
  refine ⟨fun r => ?_, ?_, fun n inTable => ?_, fun i inTable => ?_, fun g => ?_⟩
  · exact ((congrArg (fun x => Table.get x [] r) (stopped.active (by decide))).trans
      (congrArg (fun x => Table.get x [] r) (routed.active (by decide)))).trans (active r)
  · exact ((stopped.pizz (by decide)).trans (routed.pizz (by decide))).trans pizz
  · exact (stopPlayers_player players n _).trans (if_pos (List.mem_range.2 inTable))
  · rw [route_of_touches stopped (by decide)]
    exact routerLeavePlay_state _ inTable
  · exact congrArg (fun x => Table.get x 0 g) (stopped.maskDemand (by decide))

theorem emptyTuningHolds_holds (s : State) : (emptyTuningHolds s).claims.holds = [] := by
  have removed : Touches claimParts (s.setClaims { s.claims with holds := [] }) (emptyTuningHolds s) :=
    Touches.forEach (fun p u => Touches.removeClaim p u) _ _
  exact removed.holds (by decide)

theorem leaveTune_holds (s : State) : (leaveTune s).claims.holds = [] := by
  unfold leaveTune engineLeaveTune
  rw [(Touches.cancelStrikes _).holds (by decide)]
  exact emptyTuningHolds_holds _

/-- R60, R63: once a mode has been left the relay is in CONFIG with everything at rest. -/
theorem leaveMode_rests (quiet : QuietOutsidePlay s) :
    Resting (leaveMode s) ∧ (leaveMode s).mode = .config ∧ (leaveMode s).claims.holds = [] := by
  have set := Touches.setMode .config s
  have config := setMode_mode .config s
  have resting : s.mode ≠ .play → Resting (setMode .config s) := fun other =>
    ⟨by rw [config]; decide, AtRest.touched
      ⟨quiet.active other, quiet.pizz other, quiet.players other, quiet.routes other, quiet.masks other⟩ set (by decide)
      (by decide) (by decide) (by decide) (by decide)⟩
  have holds := set.holds (by decide)
  cases mode : s.mode with
  | config =>
    simp only [leaveMode, mode]
    exact ⟨resting (by rw [mode]; decide), config, holds.trans (quiet.holds (by rw [mode]; decide))⟩
  | play =>
    have touched := Touches.leavePlay (setMode .config s)
    have after := (mode_of_touches touched (by decide)).trans config
    simp only [leaveMode, mode]
    exact ⟨⟨by rw [after]; decide, leavePlay_rest _⟩, after,
      (touched.holds (by decide)).trans (holds.trans (quiet.holds (by rw [mode]; decide)))⟩
  | tune =>
    have touched := Touches.leaveTune (setMode .config s)
    simp only [leaveMode, mode]
    exact ⟨(resting (by rw [mode]; decide)).touched touched (by decide) (by decide) (by decide) (by decide) (by decide)
      (by decide), (mode_of_touches touched (by decide)).trans config, leaveTune_holds _⟩

end Leaving

/-- R60: the stops drawn at an entry to PLAY. -/
theorem ListedBy.drawAtEntry {admits : Nat → Bool} {s : State} {n : Nat} (listed : ListedBy admits s)
    (apart : admits n = false) : ListedBy (fun m => admits m || decide (m = n)) (drawAtEntry n s) := by
  have more : ListedBy (fun m => admits m || decide (m = n)) s :=
    listed.mono fun m admitted => Bool.or_eq_true_iff.2 (.inl admitted)
  simp only [Machine.drawAtEntry]
  split
  case h_1 kind | h_2 kind | h_3 kind => exact listed.joinList apart (by rw [kind]; rfl)
  · exact more.touched (Touches.raiseTremulant _ s) (by decide)
  · exact more.congr rfl fun _ => rfl
  · exact more

theorem ListedBy.drawAllAtEntry (ns : List Nat) (once : ns.Nodup) {admits : Nat → Bool} {s : State}
    (listed : ListedBy admits s) (apart : ∀ n ∈ ns, admits n = false) :
    ListedBy (fun m => admits m || ns.contains m) (forEach ns Machine.drawAtEntry s) := by
  induction ns generalizing admits s with
  | nil => simpa [forEach] using listed
  | cons n rest ih =>
    obtain ⟨other, once'⟩ := List.nodup_cons.1 once
    refine (ih once' (listed.drawAtEntry (apart n List.mem_cons_self)) fun m mem => ?_).mono fun m admitted => ?_
    · have differ : m ≠ n := fun same => other (same ▸ mem)
      simp only [apart m (List.mem_cons_of_mem _ mem), Bool.false_or, decide_eq_false_iff_not]
      exact differ
    · simpa [Bool.or_assoc] using admitted

/-- R60, R103: the lists after an entry to PLAY hold drawn stops. -/
theorem enterPlay_playing {s : State} (play : s.mode = .play) (holds : s.claims.holds = [])
    (empty : ∀ r, s.active r = []) : Playing (enterPlay s) := by
  have none : ListedBy (fun _ => false) s := fun r => by rw [empty r]; exact ⟨List.nodup_nil, nofun⟩
  have drawn := none.drawAllAtEntry s.drawnStops (List.nodup_range.filter _) fun _ _ => rfl
  have rowsKept := (Touches.enterPlay s).rows .stop (by decide)
  refine ⟨(mode_of_touches (Touches.enterPlay s) (by decide)).trans play, ((Touches.enterPlay s).holds (by decide)).trans
    holds, ?_⟩
  have keys : ∀ t, Touches couplingParts t (forEach keyRows (fun r u => forEach (u.heldKeys r) (startKey r) u) t) :=
    fun t => Touches.forEach (fun r u => Touches.forEach (fun k v => Touches.startKey r k v) _ u) _ t
  rw [funext (drawn_of_row rowsKept)]
  refine ListedBy.touched (s := engineEnterPlay s) ?_ (Touches.routerEnterPlay _) (by decide)
  refine ((drawn.touched (keys _) (by decide)).mono fun n admitted => ?_)
  have mem := List.contains_iff_mem.1 ((Bool.false_or _).symm.trans admitted)
  exact (List.mem_filter.1 mem).2

theorem modeSet_quiet (m : Mode) {s : State} (quiet : QuietOutsidePlay s) : QuietOutsidePlay (modeSet m s).1 := by
  obtain ⟨resting, config, holds⟩ := leaveMode_rests quiet
  unfold modeSet
  split
  · exact quiet
  · split
    · exact quiet
    · split
      · exact quietOutsidePlay_iff.2 (.inr ⟨resting, fun _ => holds⟩)
      case isFalse notConfig =>
        split
        · exact quiet
        · have set := Touches.setMode m (leaveMode s)
          have mode := setMode_mode m (leaveMode s)
          have held := (set.holds (by decide)).trans holds
          cases m with
          | config => exact absurd rfl notConfig
          | play =>
            have empty := resting.rest.touched set (by decide) (by decide) (by decide) (by decide) (by decide)
            simp only [enterMode]
            exact quietOutsidePlay_iff.2 (.inl (enterPlay_playing mode held empty.active))
          | tune =>
            have entered := Touches.enterTune (setMode .tune (leaveMode s))
            have after := (mode_of_touches entered (by decide)).trans mode
            have rest := (resting.rest.touched set (by decide) (by decide) (by decide) (by decide) (by decide)).touched
              entered (by decide) (by decide) (by decide) (by decide) (by decide)
            have result : Resting (enterTune (setMode .tune (leaveMode s))) := ⟨by rw [after]; decide, rest⟩
            simp only [enterMode]
            exact quietOutsidePlay_iff.2 (.inr ⟨result, fun other => absurd after other⟩)

/-! ### Every command and step -/

/-- What the play state is read from is the same. -/
structure SamePlay (s t : State) : Prop where
  active : t.engine.active = s.engine.active := by rfl
  stops : ∀ n, t.stop n = s.stop n := by intros; rfl
  pizz : t.claims.pizz = s.claims.pizz := by rfl
  holds : t.claims.holds = s.claims.holds := by rfl
  players : t.sequencer.players = s.sequencer.players := by rfl
  routes : ∀ i, i < 96 → (t.route i).state = (s.route i).state := by intros; rfl
  masks : t.router.maskDemand = s.router.maskDemand := by rfl
  mode : t.mode = s.mode := by rfl
  held : ∀ r, (t.row .stop r).held = (s.row .stop r).held := by intros; rfl

theorem SamePlay.drawn {s t : State} (same : SamePlay s t) : t.drawn = s.drawn := funext fun n => by
  unfold State.drawn
  rw [same.held]

theorem SamePlay.resting {s t : State} (same : SamePlay s t) (resting : Resting s) : Resting t :=
  ⟨by rw [same.mode]; exact resting.mode, resting.rest.congr same.active same.pizz same.players same.routes same.masks⟩

theorem SamePlay.playing {s t : State} (same : SamePlay s t) (playing : Playing s) : Playing t :=
  ⟨same.mode.trans playing.mode, same.holds.trans playing.holds, by
    rw [same.drawn]; exact playing.listed.congr same.active same.stops⟩

namespace QuietOutsidePlay

variable {s t : State}

theorem keeps (quiet : QuietOutsidePlay s) (playing : Playing s → Playing t) (resting : Resting s → Resting t)
    (mode : t.mode = s.mode) (holds : s.claims.holds = [] → t.claims.holds = []) : QuietOutsidePlay t := by
  obtain play | ⟨rest, held⟩ := quietOutsidePlay_iff.1 quiet
  · exact quietOutsidePlay_iff.2 (.inl (playing play))
  · exact quietOutsidePlay_iff.2 (.inr ⟨resting rest, fun other => holds (held (mode ▸ other))⟩)

theorem congr (quiet : QuietOutsidePlay s) (same : SamePlay s t) : QuietOutsidePlay t :=
  quiet.keeps same.playing same.resting same.mode same.holds.trans

theorem touched {A : List Part} (quiet : QuietOutsidePlay s) (touched : Touches A s t) (mode : .mode ∉ A)
    (active : .active ∉ A) (pizz : .pizz ∉ A) (player : .player ∉ A) (route : .route ∉ A) (mask : .maskDemand ∉ A)
    (hold : .hold ∉ A) (rows : .row .stop ∉ A) : QuietOutsidePlay t :=
  quiet.keeps (·.touched touched mode active hold rows) (·.touched touched mode active pizz player route mask)
    (mode_of_touches touched mode) (touched.holds hold).trans

theorem drainReleases (quiet : QuietOutsidePlay s) : QuietOutsidePlay (Machine.drainReleases s) := by
  have once : ∀ t, t.claims.holds = [] → (releaseOnce t).claims.holds = [] := by
    intro t empty
    unfold releaseOnce
    split
    · simp only [generalRelease]
      exact emptyTuningHolds_holds _
    · exact empty
  refine quiet.keeps (·.drainReleases) (·.drainReleases) (mode_of_touches (Touches.drainReleases s) (by decide))
    fun empty => ?_
  unfold Machine.drainReleases
  exact once _ (once s empty)

theorem takeScan (kind r : Nat) (image : Image) (quiet : QuietOutsidePlay s) :
    QuietOutsidePlay (Machine.takeScan kind r image s) := by
  have row : ∀ k, QuietOutsidePlay (takeRow k r image s) := fun k =>
    quiet.keeps (·.takeRow k r image) (fun resting => (resting.setRow k r _).handRun k r _)
      (mode_of_touches (Touches.takeRow k r image s) (by cases k <;> decide))
      ((Touches.takeRow k r image s).holds (by cases k <;> decide)).trans
  unfold Machine.takeScan
  split
  · exact quiet
  · split
    · exact (row _).drainReleases
    · exact quiet

theorem reportLoss (quiet : QuietOutsidePlay s) : QuietOutsidePlay (Machine.reportLoss s) := by
  have scanHolds : ∀ t, (scanLinkLoss t).claims.holds = t.claims.holds := by
    have lose : ∀ kind l t, (forEach l (loseRow kind) t).claims.holds = t.claims.holds := fun kind l t =>
      (Touches.forEach (fun r u => Touches.loseRow kind r u) l t).holds (by cases kind <;> decide)
    have clear : ∀ kind l t, (forEach l (clearRow kind) t).claims.holds = t.claims.holds := fun kind l t =>
      (Touches.forEach (A := [.row kind]) (fun r u => Touches.setRow (by simp) r _ u) l t).holds (by simp)
    intro t
    simp only [scanLinkLoss, clear, lose]
  have routeHolds : ∀ t, (routerLinkLoss t).claims.holds = t.claims.holds := fun t =>
    (Touches.routerLinkLoss t).holds (by decide)
  obtain ⟨t, touched, same⟩ := reportLoss_touched s
  have mode : (Machine.reportLoss s).mode = s.mode := by
    have after := mode_of_touches touched (by decide)
    obtain same | same := same <;> rw [same] <;> exact after
  have holds : (Machine.reportLoss s).claims.holds = s.claims.holds := by
    have counted : ∀ (u : State) n, (u.setFreeCount n).claims.holds = u.claims.holds := fun _ _ => rfl
    obtain same | same | same := reportLoss_cases s <;> rw [same]
    · rw [routeHolds, scanHolds]
    · rw [counted, routeHolds, scanHolds]
    · rw [counted, scanHolds, routeHolds]
  exact quiet.keeps (·.reportLoss) (·.reportLoss) mode holds.trans

theorem writeMask (i : Nat) (m : Bool) (quiet : QuietOutsidePlay s) : QuietOutsidePlay (Machine.writeMask i m s) := by
  have still : (Machine.writeMask i m s).mode = s.mode ∧ (Machine.writeMask i m s).claims.holds = s.claims.holds := by
    have written : Touches routeParts (s.setRoute i { s.route i with fields := { (s.route i).fields with masked := m } })
        (Machine.writeMask i m s) := by
      simp only [Machine.writeMask]
      split
      · exact Touches.becomeMasked i _
      · exact Touches.becomeUnmasked i _
      · exact .refl _
    have mode := mode_of_touches written (by decide)
    have holds := written.holds (by decide)
    exact ⟨mode, holds⟩
  exact quiet.keeps (·.writeMask i m) (·.writeMask i m) still.1 still.2.trans

theorem writeRoute (i : Nat) (x : RouteEntry) (same : x.state = (s.route i).state) (quiet : QuietOutsidePlay s) :
    QuietOutsidePlay (s.setRoute i x) := by
  have routes : ∀ j, ((s.setRoute i x).route j).state = (s.route j).state := fun j => by
    rw [route_setRoute]
    split
    case isTrue own => rw [same, own]
    · rfl
  exact quiet.congr { routes := fun j _ => routes j }

theorem takeRoute (i : Nat) (x : RouteFields) (quiet : QuietOutsidePlay s) :
    QuietOutsidePlay (Machine.takeRoute i x s) := by
  have idled := Touches.setRouteState i .idle none s
  have dropped : QuietOutsidePlay (dropPending i x.defer s) := by
    unfold dropPending
    split
    · exact quiet.keeps (·.touched idled (by decide) (by decide) (by decide) (by decide)) (·.writeIdle i none)
        (mode_of_touches idled (by decide)) (idled.holds (by decide)).trans
    · exact quiet
  unfold Machine.takeRoute
  split
  · simp only [takeRouteFrozen]
    generalize dropPending i x.defer s = t at dropped
    exact ((dropped.writeRoute i { t.route i with fields := { (t.route i).fields with defer := x.defer } }
      rfl).writeMask i _).drainReleases
  · exact quiet.writeRoute i _ rfl

theorem writeKeySetting (r : Nat) (x : KeySetting) (quiet : QuietOutsidePlay s) :
    QuietOutsidePlay (Machine.writeKeySetting r x s) := by
  have written : QuietOutsidePlay (s.setKeySetting r x) := quiet.congr {}
  simp only [Machine.writeKeySetting]
  split
  · exact written
  · generalize Row.mk _ none 0 _ = row
    generalize runOf _ _ = run
    refine QuietOutsidePlay.keeps (s := s.setKeySetting r x) written
      (fun playing => (playing.setRow .key r row (fun stop => nomatch stop)).handRun (by decide) r run)
      (fun resting => (resting.setRow .key r row).handRun .key r run) ?_ ?_
    · have mode := mode_of_touches (Touches.keyRun r run ((s.setKeySetting r x).setRow .key r row)) (by decide)
      exact mode
    · have holds := (Touches.keyRun r run ((s.setKeySetting r x).setRow .key r row)).holds (by decide)
      exact holds.trans

/-- R29: outside CONFIG a written stop keeps its row and kind, and in CONFIG no stop is on a list. -/
theorem writeStop {n : Nat} {x : StopRecord} (taken : stopRefused n x s = false) (quiet : QuietOutsidePlay s) :
    QuietOutsidePlay (s.setStop n x) := by
  refine quiet.keeps (fun playing => ⟨playing.mode, playing.holds, fun r => ?_⟩)
    (fun resting => ⟨resting.mode, resting.rest.congr rfl rfl rfl (fun _ _ => rfl) rfl⟩) rfl id
  have mapping : { x with pizz := (s.stop n).pizz } = s.stop n := by
    simpa [stopRefused, State.frozen, playing.mode] using taken
  have kept : ∀ m, ((s.setStop n x).stop m).row = (s.stop m).row ∧ ((s.setStop n x).stop m).kind = (s.stop m).kind := by
    intro m
    have written : (s.setStop n x).stop m = if m = n then x else s.stop m := Table.get_put _ _ _ _ _
    rw [written]
    split
    case isTrue own =>
      rw [own, ← mapping]
      exact ⟨rfl, rfl⟩
    · exact ⟨rfl, rfl⟩
  obtain ⟨once, mem⟩ := playing.listed r
  exact ⟨once, fun m inList => by rw [(kept m).1, (kept m).2]; exact mem m inList⟩

theorem select (sel : TuningSelection) (quiet : QuietOutsidePlay s) : QuietOutsidePlay (Machine.select sel s) := by
  unfold Machine.select
  split
  · split
    · exact quiet
    · have ended : QuietOutsidePlay (endPresentTuning s) := by
        unfold endPresentTuning
        split
        · exact quiet.touched (Touches.endTuningRow _ s) (by decide) (by decide) (by decide) (by decide) (by decide)
            (by decide) (by decide) (by decide)
        · exact quiet
      have chosen : QuietOutsidePlay (setSelection sel (endPresentTuning s)) := ended.congr {}
      exact chosen.touched (Touches.startTuningRow sel _) (by decide) (by decide) (by decide) (by decide) (by decide)
        (by decide) (by decide) (by decide)
  · exact quiet.congr {}

/-- In TUNE the hold set is free to change. -/
theorem holding {l : List Point} (tune : s.mode = .tune) (quiet : QuietOutsidePlay s) : QuietOutsidePlay (setHolds l s) := by
  obtain play | ⟨resting, -⟩ := quietOutsidePlay_iff.1 quiet
  · exact absurd (tune.symm.trans play.mode) (by decide)
  · exact quietOutsidePlay_iff.2 (.inr ⟨⟨resting.mode, resting.rest.congr rfl rfl rfl (fun _ _ => rfl) rfl⟩,
      fun other => absurd tune other⟩)

end QuietOutsidePlay

theorem quiet_keptByTraffic : KeptByTraffic QuietOutsidePlay where
  ported _ _ quiet := quiet.congr {}
  extended _ _ quiet := quiet.congr {}
  freed _ _ quiet := quiet.congr {}
  flagged _ _ mode _ quiet := quiet.congr { mode := mode }
  sampled _ _ _ quiet := quiet.congr {}
  channelled _ _ _ _ quiet := quiet.congr {}

theorem quiet_keptByChambers : KeptByChambers QuietOutsidePlay where
  latch := quiet_keptByTraffic.reports.latch
  written _ _ _ _ quiet := quiet.congr {}

theorem quiet_clearGroup (g : Nat) {s : State} (quiet : QuietOutsidePlay s) : QuietOutsidePlay (clearGroup g s) :=
  forEach_keeps (f := fun i t => t.setLatched i false) (fun _ _ quiet => quiet.congr {}) (groupItems g) s quiet

theorem serves_quiet {s : State} {acted : Served} (serves : Serves s acted) (quiet : QuietOutsidePlay s) :
    QuietOutsidePlay acted.1 := by
  cases serves with
  | mode m => exact modeSet_quiet m quiet
  | stop read inTable taken => exact quiet.writeStop taken
  | rank read inTable taken => exact quiet.congr {}
  | route read inTable taken => exact quiet.takeRoute _ _
  | keyRow read inTable => exact quiet.writeKeySetting _ _
  | mask i m => exact (quiet.writeMask i m).drainReleases
  | raise inTable => exact quiet_keptByChambers.enterBlower _ s quiet
  | lower inTable => exact quiet_keptByChambers.enterLowering _ s quiet
  | select sel => exact quiet.select sel
  | addHold p tune =>
    unfold addHold
    split
    · exact quiet
    · split
      · exact quiet
      · split
        · exact quiet
        · exact (quiet.holding tune).touched (Touches.addClaim p _) (by decide) (by decide) (by decide) (by decide)
            (by decide) (by decide) (by decide) (by decide)
  | removeHold p tune =>
    unfold removeHold
    split
    · exact (quiet.holding tune).touched (Touches.removeClaim p _) (by decide) (by decide) (by decide) (by decide)
        (by decide) (by decide) (by decide) (by decide)
    · exact quiet
  | clearHolds tune =>
    exact quiet.keeps (·.emptyTuningHolds) (·.emptyTuningHolds) (mode_of_touches (Touches.emptyTuningHolds s) (by decide))
      fun _ => emptyTuningHolds_holds s
  | readGroup g =>
    have cleared : QuietOutsidePlay (clearGroup g s) := quiet_clearGroup g quiet
    exact cleared
  | snapshot => exact forEach_keeps (fun g _ quiet => quiet_clearGroup g quiet) (List.range 4) s quiet
  | maskItem x => exact quiet_keptByTraffic.reports.announce _ _ (quiet.congr {})
  | ciphers x => exact quiet_keptByChambers.clearCiphers x s quiet
  | releaseAll =>
    have drained : QuietOutsidePlay (drainReleases (askRelease s)) := QuietOutsidePlay.drainReleases (quiet.congr {})
    simp only [releaseAll]
    exact drained
  | _ => exact quiet.congr {}

theorem countDown_quiet {s : State} (quiet : QuietOutsidePlay s) : QuietOutsidePlay (countDown s) := by
  have pizz : (countDown s).claims.pizz = s.claims.pizz.map countPizz := rfl
  have players : ∀ n, (countDown s).player n = countPlayer (s.player n) := fun n =>
    Table.get_mapListed rfl s.sequencer.players n
  have mode : (countDown s).mode = s.mode := (congrArg State.mode (countDown_eq s)).trans (State.counted_mode _ s)
  have holds : (countDown s).claims.holds = s.claims.holds :=
    (congrArg (fun t => t.claims.holds) (countDown_eq s)).trans (State.counted_holds _ s)
  have demands : (countDown s).router.maskDemand = s.router.maskDemand :=
    (congrArg (fun t => t.router.maskDemand) (countDown_eq s)).trans (State.counted_maskDemand _ s)
  have engine := countDown_engine s
  have scan := countDown_scan s
  have stops : ∀ n, (countDown s).stop n = s.stop n := fun n => congrArg (fun e => Table.get (Engine.stops e) resetStop n) engine
  have drawn : (countDown s).drawn = s.drawn := funext fun n => by
    simp only [State.drawn, State.row, scan]
  refine quiet.keeps (fun playing => ⟨mode.trans playing.mode, holds.trans playing.holds, ?_⟩)
    (fun resting => ⟨by rw [mode]; exact resting.mode, ?_⟩) mode holds.trans
  · rw [drawn]
    exact playing.listed.congr (congrArg Engine.active engine) stops
  · obtain ⟨active, none, idle, routes, masks⟩ := resting.rest
    refine ⟨fun r => ?_, by rw [pizz, none]; rfl, fun n inTable => by rw [players, idle n inTable]; rfl,
      fun i inTable => by rw [countDown_route]; exact routes i inTable,
      fun g => (congrArg (fun x => Table.get x 0 g) demands).trans (masks g)⟩
    exact (congrArg (fun e => Table.get (Engine.active e) [] r) engine).trans (active r)

theorem plucked_quiet (r k n : Nat) {s : State} (quiet : QuietOutsidePlay s) : QuietOutsidePlay (pizzExpires r k n s) := by
  have touched := Touches.pizzExpires r k n s
  refine quiet.keeps (·.touched touched (by decide) (by decide) (by decide) (by decide)) (fun resting => ?_)
    (mode_of_touches touched (by decide)) (touched.holds (by decide)).trans
  have still : pizzExpires r k n s = s := by
    simp only [pizzExpires, State.pizzEntry, resting.rest.pizz, List.find?_nil]
  rw [still]
  exact resting

theorem split_quiet (i : Fin 96) {s : State} (quiet : QuietOutsidePlay s) : QuietOutsidePlay (splitExpires i s) := by
  have touched := Touches.splitExpires i s
  refine quiet.keeps (·.touched touched (by decide) (by decide) (by decide) (by decide)) (fun resting => ?_)
    (mode_of_touches touched (by decide)) (touched.holds (by decide)).trans
  have still : splitExpires i s = s := by
    simp only [splitExpires, resting.rest.routes i i.isLt, reduceCtorEq, false_and, if_false]
  rw [still]
  exact resting

theorem stepped_quiet (n : Fin 8) {s : State} (quiet : QuietOutsidePlay s) : QuietOutsidePlay (stepExpires n s) := by
  have touched := Touches.stepExpires n s
  refine quiet.keeps (·.touched touched (by decide) (by decide) (by decide) (by decide)) (fun resting => ?_)
    (mode_of_touches touched (by decide)) (touched.holds (by decide)).trans
  have still : stepExpires n s = s := by
    simp only [stepExpires, resting.rest.players n n.isLt]
  rw [still]
  exact resting

theorem resetBlocks_quiet (s : State) : QuietOutsidePlay (resetBlocks s) := quietOutsidePlay_reset.congr {}

/-- Settles O8, by the three regimes: in PLAY the lists follow the stop rows, outside it nothing that plays begins, and a
change of mode leaves everything at rest before it enters. -/
theorem playStateRestsOutsidePlay : Obligations.PlayStateRestsOutsidePlay := by
  intro s t quiet stepped
  have chambers := quiet_keptByChambers
  refine step_keeps (P := QuietOutsidePlay) ?_ (fun s quiet => countDown_quiet quiet) chambers.transmitAll
    (fun _ _ quiet => quiet.congr {}) quiet stepped
  exact exec_keeps quiet_keptByTraffic.reports chambers (fun s i u act => act_keeps_playing quiet_keptByTraffic chambers
      (fun _ _ touched quiet => quiet.touched touched (by decide) (by decide) (by decide) (by decide) (by decide)
        (by decide) (by decide) (by decide))
      (fun r k n _ => plucked_quiet r k n) (fun i _ => split_quiet i) (fun n _ => stepped_quiet n)
      (fun kind r image _ => QuietOutsidePlay.takeScan kind r image) (fun _ => QuietOutsidePlay.reportLoss) act)
    (fun _ _ serves => serves_quiet serves) (fun _ quiet => quiet.congr {})
    (fun _ _ _ => quietOutsidePlay_reset.congr {}) (fun s _ => resetBlocks_quiet s)

end Sys2Proof.Machine
end

section
/-! PROOF. The tuning hold set, the tuning selection and the cipher requests (R55 to R58, R148). -/

namespace Sys2Proof.Machine

/-! ### Services that play -/

/-- A request at the head whose service plays is answered, and reports and transmissions alone follow. -/
theorem answers_touched {i : Instr} {s : State} {r : Request} {serves : Request → Bool} {act : Bytes → State → Served}
    {reply : Reply} {A : List Part} (served : exec i s = serveHead serves act s) (first : s.port.requests.head? = some r)
    (own : serves r = true) {u : State} (acts : act r.fields s = (u, reply)) (touched : Touches A s u) :
    exec i s = .next (s.afterService r (u, reply)) ∧ Answered s (s.afterService r (u, reply)) r.tag reply ∧
      ReportsOnly u (s.afterService r (u, reply)) := by
  have busy : s.port.requests ≠ [] := fun empty => by rw [empty] at first; exact absurd first (by simp)
  exact answers served first own acts (touched.announces.serving busy).1 touched.announces.strap

/-! ### Claims counted over a list -/

theorem occurrences_cons (p q : Point) (ps : List Point) :
    occurrences p (q :: ps) = occurrences p ps + if q.index = p.index then 1 else 0 := by
  simp [occurrences, List.countP_cons]

theorem occurrences_nil (p : Point) : occurrences p [] = 0 := rfl

theorem occurrences_append (p : Point) (l m : List Point) : occurrences p (l ++ m) = occurrences p l + occurrences p m :=
  List.countP_append

theorem removeAll_moves (ps : List Point) (s : State) (q : Point) :
    (forEach ps removeClaim s).claimCount q = s.claimCount q - occurrences q ps := by
  induction ps generalizing s with
  | nil => rfl
  | cons p rest ih =>
    have first : forEach (p :: rest) removeClaim s = forEach rest removeClaim (removeClaim p s) := rfl
    rw [first, ih, removeClaim_moves p s q, occurrences_cons]
    by_cases same : q.index = p.index
    · rw [if_pos same, if_pos same.symm, Nat.sub_sub, Nat.add_comm]
    · rw [if_neg same, if_neg (Ne.symm same), Nat.add_zero]

theorem emptyTuningHolds_moves (s : State) (q : Point) :
    (emptyTuningHolds s).claimCount q = s.claimCount q - occurrences q s.claims.holds := removeAll_moves _ _ q

/-! ### TUNE-HOLD (R58) -/

section Hold

variable {i : Instr} {s : State} {r : Request} {action c hi lo : Byte}

theorem asksHold_own (head : HeadIs s r 0x09#8 [action, c, hi, lo]) : asksHold action.toNat r = true := by
  simp [asksHold, head.hasCode, head.fields]

theorem readHold_ok {a : HoldAction} (named : holdActions[action.toNat]? = some a) (chamber : c.toNat ≤ 3)
    (point : wordOf hi lo ≤ 1023) : readHold [action, c, hi, lo] = .ok (a, ⟨c.toNat, wordOf hi lo⟩) := by
  simp [readHold, field, takeEnum, named, takeNat, chamber, takeWord, point, endFields]

theorem serveHold_tune {a : HoldAction} {p : Point} {fields : Bytes} (read : readHold fields = .ok (a, p))
    (tune : s.mode = .tune) : (a = .add → serveHold fields s = addHold p s) ∧
      (a = .remove → serveHold fields s = removeHold p s) ∧ (a = .clear → serveHold fields s = (emptyTuningHolds s, .done [])) := by
  have acts : serveHold fields s = holdAct (a, p) s := withFields_ok read holdAct s
  rw [acts, holdAct, if_neg (not_not.2 tune)]
  refine ⟨?_, ?_, ?_⟩ <;> rintro rfl <;> rfl

theorem serveHold_elsewhere {x : HoldAction × Point} {fields : Bytes} (read : readHold fields = .ok x)
    (other : s.mode ≠ .tune) : serveHold fields s = (s, .wrongMode) := by
  have acts : serveHold fields s = holdAct x s := withFields_ok read holdAct s
  rw [acts, holdAct, if_pos other]

/-- R146: outside PLAY a claim added starts no on-timer. -/
theorem addClaim_quiet {p : Point} (quiet : s.mode ≠ .play) : addClaim p s = s.setClaimCount p (s.claimCount p + 1) := by
  obtain ⟨-, play, -⟩ | ⟨-, still⟩ := startOnTimer_cases p (s.setClaimCount p (s.claimCount p + 1))
  · exact absurd play quiet
  · simp only [addClaim]
    rw [still, ite_self]

end Hold

/-- Settles O42, by the action. -/
theorem tuneHoldActsOnHoldSet : Obligations.TuneHoldActsOnHoldSet := by
  intro s r action c hi lo head chamber point
  have read : ∀ {n : Byte} {a : HoldAction}, action = n → holdActions[n.toNat]? = some a →
      readHold r.fields = .ok (a, ⟨c.toNat, wordOf hi lo⟩) := fun same named => by
    subst same
    rw [head.fields]
    exact readHold_ok named chamber point
  generalize Point.mk c.toNat (wordOf hi lo) = p at read ⊢
  have own : ∀ {n : Byte}, action = n → asksHold n.toNat r = true := fun same => same ▸ asksHold_own head
  refine ⟨fun x mem same other => ?_, fun same tune => ⟨fun held => ?_, fun free => ⟨fun refused => ?_, fun pipe room => ?_⟩⟩,
    fun same tune => ⟨fun free => ?_, fun held => ?_⟩, fun same tune => ?_⟩
  · simp only [List.mem_cons, List.not_mem_nil, or_false] at mem
    obtain rfl | rfl | rfl := mem
    · exact answeredUnchanged (exec_tuneHoldAdd s) head.first (own same) (serveHold_elsewhere (read same rfl) other)
    · exact answeredUnchanged (exec_tuneHoldRemove s) head.first (own same) (serveHold_elsewhere (read same rfl) other)
    · exact answeredUnchanged (exec_tuneHoldClear s) head.first (own same) (serveHold_elsewhere (read same rfl) other)
  · refine answeredUnchanged (exec_tuneHoldAdd s) head.first (own same) ?_
    rw [(serveHold_tune (read same rfl) tune).1 rfl]
    exact if_pos held
  · refine answeredUnchanged (exec_tuneHoldAdd s) head.first (own same) ?_
    rw [(serveHold_tune (read same rfl) tune).1 rfl]
    simp only [addHold, if_neg free]
    obtain other | full := refused
    · rw [other]
      rfl
    · split
      · rfl
      · exact if_pos full
  · refine answeredAs (exec_tuneHoldAdd s) head.first (own same) ?_ rfl rfl
    rw [(serveHold_tune (read same rfl) tune).1 rfl]
    simp only [addHold, if_neg free, pipe, Bool.not_true, Bool.false_eq_true, if_false]
    have quiet : (setHolds (s.claims.holds ++ [p]) s).mode ≠ .play := fun play => absurd (tune.symm.trans play) (by decide)
    have few : ¬Config.tuningHoldCapacity ≤ s.claims.holds.length := Nat.not_le.2 room
    rw [if_neg few, addClaim_quiet quiet]
    rfl
  · refine answeredUnchanged (exec_tuneHoldRemove s) head.first (own same) ?_
    rw [(serveHold_tune (read same rfl) tune).2.1 rfl]
    exact if_neg free
  · have acts : serveHold r.fields s =
        (removeClaim p (setHolds (s.claims.holds.filter (fun q => q ≠ p)) s), .done []) := by
      rw [(serveHold_tune (read same rfl) tune).2.1 rfl]
      exact if_pos held
    have held' := Touches.setHolds (A := .hold :: claimParts) (by decide) (s.claims.holds.filter (fun q => q ≠ p)) s
      (List.length_filter_le _ _)
    have removed := Touches.removeClaim p (setHolds (s.claims.holds.filter (fun q => q ≠ p)) s)
    obtain ⟨ran, answered, reports⟩ := answers_touched (exec_tuneHoldRemove s) head.first (own same) acts
      (held'.trans (removed.mono (by decide)))
    have moves := removeClaim_moves p (setHolds (s.claims.holds.filter (fun q => q ≠ p)) s)
    obtain ⟨engine, pool, scan, router, -, holds⟩ := removeClaim_units p
      (setHolds (s.claims.holds.filter (fun q => q ≠ p)) s)
    refine ⟨_, ran, answered, ?_, ?_, fun q apart => ?_, ?_, ?_, ?_, ?_⟩
    · exact (congrArg ClaimStore.holds reports.claims).trans holds
    · exact (claimCount_of_reports reports p).trans ((moves p).trans (if_pos rfl))
    · exact (claimCount_of_reports reports q).trans ((moves q).trans (if_neg apart))
    · exact reports.engine.trans engine
    · exact reports.pool.trans pool
    · exact reports.scan.trans scan
    · exact reports.router.trans router
  · have touched := Touches.emptyTuningHolds s
    obtain ⟨ran, answered, reports⟩ := answers_touched (exec_tuneHoldClear s) head.first (own same)
      ((serveHold_tune (read same rfl) tune).2.2 rfl) touched
    have engine := engine_of_touches touched (by decide)
    have pool := pool_of_touches touched (by decide) (by decide) (by decide) (by decide) (by decide)
    have scan := scan_of_touches touched (by decide) (by decide) (by decide) (by decide)
    have router := router_of_touches touched (by decide) (by decide)
    have sequencer := sequencer_of_touches touched (by decide)
    exact ⟨_, ran, answered, (congrArg ClaimStore.holds reports.claims).trans (emptyTuningHolds_holds s),
      (congrArg ClaimStore.pizz reports.claims).trans (touched.pizz (by decide)), reports.engine.trans engine,
      reports.pool.trans pool, reports.scan.trans scan, reports.router.trans router, reports.sequencer.trans sequencer,
      reports.expression.trans touched.expression,
      fun q => (claimCount_of_reports reports q).trans (emptyTuningHolds_moves s q)⟩

/-! ### Strikes over a list (R67) -/

theorem index_injective {p q : Point} (left : p.point < 1024) (right : q.point < 1024) (same : p.index = q.index) : p = q := by
  rw [← pointAt_index left, ← pointAt_index right, same]

/-- What a strike reads, and the strikes it makes, in states that share the pool and the ranks. -/
theorem StrikesTaken.congr {ps : List Point} {u u' t t' : State} (taken : StrikesTaken ps u t) (before : u.pool = u'.pool)
    (after : t'.pool = t.pool) (rankOf : ∀ p, u.rankOf p = u'.rankOf p) (rank : ∀ r, u.rank r = u'.rank r) :
    StrikesTaken ps u' t' := by
  have timer : ∀ q, t'.strikeTimer q = t.strikeTimer q := fun q => by unfold State.strikeTimer; rw [after]
  have timer' : ∀ q, u.strikeTimer q = u'.strikeTimer q := fun q => by unfold State.strikeTimer; rw [before]
  have served : ∀ c, u.servedBy c = u'.servedBy c := servedBy_of_generators (by rw [before])
  refine ⟨?_, fun inRange p mem r ranked struck => ?_, fun inRange p mem unstruck => ?_, fun q apart => ?_⟩
  · rw [after, ← before]
    exact taken.pool
  · have result := taken.struck inRange p mem r ((rankOf p).trans ranked) (by rw [rank]; exact struck)
    rw [timer, result, served, timer', rank]
  · have same : u.isStruck p = u'.isStruck p := by simp only [State.isStruck, rankOf, rank]
    rw [timer, taken.notStruck inRange p mem (same.trans unstruck), timer']
  · rw [timer, taken.others q apart, timer']

theorem strikeAll_taken (ps : List Point) (s : State) : StrikesTaken ps s (forEach ps strike s) := by
  induction ps generalizing s with
  | nil => exact ⟨rfl, fun _ _ mem => absurd mem (by simp), fun _ _ mem => absurd mem (by simp), fun _ _ => rfl⟩
  | cons q rest ih =>
    have first : forEach (q :: rest) strike s = forEach rest strike (strike q s) := rfl
    have one := strike_taken q s
    have later := ih (strike q s)
    have touched := Touches.strike q s
    have served : ∀ c, (strike q s).servedBy c = s.servedBy c :=
      servedBy_of_generators (touched.generators (by decide))
    have rankOf := rankOf_of_touches touched
    have rank := rank_of_touches touched
    rw [first]
    refine ⟨?_, fun inRange p mem r ranked struck => ?_, fun inRange p mem unstruck => ?_, fun p apart => ?_⟩
    · have both := later.pool
      rw [one.pool] at both
      exact both
    · have inRest : ∀ x ∈ rest, x.point < 1024 := fun x mem => inRange x (List.mem_cons_of_mem _ mem)
      have small := inRange p mem
      have here : p.index = q.index → (strike q s).strikeTimer p =
          if (s.servedBy (.struck p)).isSome ∨ (s.strikeTimer p).isSome then s.strikeTimer p
          else some (s.rank r).strikeLength := fun same => by
        have equal := index_injective small (inRange q List.mem_cons_self) same
        subst equal
        exact one.struck r ranked struck
      by_cases again : p ∈ rest
      · have result := later.struck inRest p again r ((rankOf p).trans ranked) (by rw [rank]; exact struck)
        rw [result, served, rank]
        by_cases same : p.index = q.index
        · rw [here same]
          by_cases absorbed : (s.servedBy (.struck p)).isSome ∨ (s.strikeTimer p).isSome
          · simp only [if_pos absorbed]
          · simp only [if_neg absorbed, Option.isSome_some, or_true, if_true]
        · rw [one.others p same]
      · have elsewhere : ∀ x ∈ rest, p.index ≠ x.index := fun x mem same =>
          again (index_injective small (inRest x mem) same ▸ mem)
        have isFirst : p = q := (List.mem_cons.1 mem).resolve_right again
        rw [later.others p elsewhere, here (by rw [isFirst])]
    · have inRest : ∀ x ∈ rest, x.point < 1024 := fun x mem => inRange x (List.mem_cons_of_mem _ mem)
      have small := inRange p mem
      have here : (strike q s).strikeTimer p = s.strikeTimer p := by
        by_cases same : p.index = q.index
        · have equal := index_injective small (inRange q List.mem_cons_self) same
          subst equal
          exact one.notStruck unstruck
        · exact one.others p same
      by_cases again : p ∈ rest
      · have same : (strike q s).isStruck p = s.isStruck p := by simp only [State.isStruck, rankOf, rank]
        rw [later.notStruck inRest p again (same.trans unstruck), here]
      · have elsewhere : ∀ x ∈ rest, p.index ≠ x.index := fun x mem same =>
          again (index_injective small (inRest x mem) same ▸ mem)
        rw [later.others p elsewhere, here]
    · rw [later.others p fun x mem => apart x (List.mem_cons_of_mem _ mem), one.others p (apart q List.mem_cons_self)]

theorem addAll_moves (ps : List Point) (s : State) (q : Point) :
    (forEach ps addClaim s).claimCount q = s.claimCount q + occurrences q ps := by
  induction ps generalizing s with
  | nil => rfl
  | cons p rest ih =>
    have first : forEach (p :: rest) addClaim s = forEach rest addClaim (addClaim p s) := rfl
    rw [first, ih, addClaim_moves p s q, occurrences_cons]
    by_cases same : q.index = p.index
    · rw [if_pos same, if_pos same.symm, Nat.add_assoc, Nat.add_comm 1]
    · rw [if_neg same, if_neg (Ne.symm same), Nat.add_zero]

/-! ### Tuning couplings (R55 to R57) -/

/-- A run of changes of single points, one for each key with a target, is the same over the targets. -/
theorem forEach_targets {m : MappingFields} {act : Nat → State → State} {f : Point → State → State} {A : List Part}
    (touched : ∀ p t, Touches A t (f p t)) {s : State}
    (acts : ∀ k t, (∀ j, t.target m j = s.target m j) → (∀ r, t.rank r = s.rank r) →
      act k t = (s.target m k).elim t (f · t)) (ks : List Nat) :
    ∀ t, (∀ j, t.target m j = s.target m j) → (∀ r, t.rank r = s.rank r) →
      forEach ks act t = forEach (ks.filterMap (s.target m)) f t := by
  induction ks with
  | nil => exact fun _ _ _ => rfl
  | cons k rest ih =>
    intro t targets ranks
    have first : forEach (k :: rest) act t = forEach rest act (act k t) := rfl
    rw [first, acts k t targets ranks]
    cases sounds : s.target m k with
    | none =>
      rw [List.filterMap_cons_none sounds]
      exact ih t targets ranks
    | some p =>
      rw [List.filterMap_cons_some sounds]
      exact ih _ (fun j => (target_of_touches (touched p t) m j).trans (targets j))
        (fun r => (rank_of_touches (touched p t) r).trans (ranks r))

section Tuning

variable (sel : TuningSelection) (ks : List Nat) {s : State}

theorem endTunings_pipe (pipe : (s.rank sel.rank).kind = .pipe) :
    forEach ks (endTuning sel) s = forEach (ks.filterMap (s.target sel.mapping)) removeClaim s :=
  forEach_targets Touches.removeClaim (fun k t targets ranks => by
    rw [endTuning, targets, ranks]
    cases s.target sel.mapping k with
    | none => rfl
    | some p => exact if_pos pipe) ks s (fun _ => rfl) (fun _ => rfl)

theorem endTunings_other (other : (s.rank sel.rank).kind ≠ .pipe) : forEach ks (endTuning sel) s = s := by
  have still : ∀ k, endTuning sel k s = s := fun k => by
    unfold endTuning
    split
    · rfl
    · exact if_neg other
  induction ks with
  | nil => rfl
  | cons k rest ih => exact (congrArg (forEach rest (endTuning sel)) (still k)).trans ih

theorem startTunings_pipe (pipe : (s.rank sel.rank).kind = .pipe) :
    forEach ks (startTuning sel) s = forEach (ks.filterMap (s.target sel.mapping)) addClaim s :=
  forEach_targets Touches.addClaim (fun k t targets ranks => by
    rw [startTuning, targets, ranks, pipe]
    cases s.target sel.mapping k <;> rfl) ks s (fun _ => rfl) (fun _ => rfl)

theorem startTunings_struck (struck : (s.rank sel.rank).kind = .struck) :
    forEach ks (startTuning sel) s = forEach (ks.filterMap (s.target sel.mapping)) strike s :=
  forEach_targets Touches.strike (fun k t targets ranks => by
    rw [startTuning, targets, ranks, struck]
    cases s.target sel.mapping k <;> rfl) ks s (fun _ => rfl) (fun _ => rfl)

theorem startTunings_none (none : (s.rank sel.rank).kind = .none) : forEach ks (startTuning sel) s = s := by
  have still : ∀ k, startTuning sel k s = s := fun k => by
    unfold startTuning
    split
    · rfl
    · rw [none]
  induction ks with
  | nil => rfl
  | cons k rest ih => exact (congrArg (forEach rest (startTuning sel)) (still k)).trans ih

theorem endTuningRow_moves (s : State) (q : Point) :
    (endTuningRow sel s).claimCount q = s.claimCount q - occurrences q (s.tuningTargets sel) := by
  unfold endTuningRow State.tuningTargets
  by_cases pipe : (s.rank sel.rank).kind = .pipe
  · rw [endTunings_pipe sel _ pipe, if_pos pipe, removeAll_moves]
  · rw [endTunings_other sel _ pipe, if_neg pipe]
    rfl

theorem startTuningRow_moves (s : State) (q : Point) :
    (startTuningRow sel s).claimCount q = s.claimCount q + occurrences q (s.tuningTargets sel) := by
  unfold startTuningRow State.tuningTargets
  cases kind : (s.rank sel.rank).kind with
  | pipe => rw [startTunings_pipe sel _ kind, if_pos rfl, addAll_moves]
  | struck =>
    rw [startTunings_struck sel _ kind, if_neg (by decide)]
    exact claimCount_of_counts ((Touches.forEach (fun p t => Touches.strike p t) _ s).counts (by decide)) q
  | none =>
    rw [startTunings_none sel _ kind, if_neg (by decide)]
    rfl

theorem startTuningRow_pool (other : (s.rank sel.rank).kind ≠ .struck) : (startTuningRow sel s).pool = s.pool := by
  unfold startTuningRow
  cases kind : (s.rank sel.rank).kind with
  | pipe =>
    rw [startTunings_pipe sel _ kind]
    have touched := Touches.forEach (fun p t => Touches.addClaim p t) ((s.heldKeys sel.row).filterMap (s.target sel.mapping)) s
    exact pool_of_touches touched (by decide) (by decide) (by decide) (by decide) (by decide)
  | struck => exact absurd kind other
  | none => rw [startTunings_none sel _ kind]

theorem startTuningRow_strikes (struck : (s.rank sel.rank).kind = .struck) :
    StrikesTaken ((s.heldKeys sel.row).filterMap (s.target sel.mapping)) s (startTuningRow sel s) := by
  unfold startTuningRow
  rw [startTunings_struck sel _ struck]
  exact strikeAll_taken _ s

end Tuning

theorem heldKeys_of_scan {s t : State} (same : t.scan = s.scan) (r : Nat) : t.heldKeys r = s.heldKeys r := by
  unfold State.heldKeys State.row
  rw [same]

/-- R57: another selection in TUNE. -/
theorem select_other {sel old : TuningSelection} {s : State} (tune : s.mode = .tune) (present : s.engine.tuning = some old)
    (other : old ≠ sel) : select sel s = startTuningRow sel (setSelection sel (endTuningRow old s)) := by
  have differs : s.engine.tuning ≠ some sel := fun same => other (Option.some.inj (present.symm.trans same))
  unfold select endPresentTuning
  rw [if_pos tune, if_neg differs]
  simp only [present]

/-- R57: in TUNE a selection ends tuning couplings, is written, and starts tuning couplings. -/
theorem select_tune {sel : TuningSelection} {s : State} (tune : s.mode = .tune) :
    ∃ u, Touches claimParts s u ∧ Touches [.count, .guard, .strike] (setSelection sel u) (select sel s) := by
  by_cases same : s.engine.tuning = some sel
  · have stands : select sel s = s := by rw [select, if_pos tune, if_pos same]
    have written : setSelection sel s = s := by
      have engine : { s.engine with tuning := some sel } = s.engine := by rw [← same]
      exact congrArg s.setEngine engine
    exact ⟨s, .refl s, by rw [stands, written]; exact .refl s⟩
  · have ended : Touches claimParts s (endPresentTuning s) := by
      unfold endPresentTuning
      split
      · exact Touches.endTuningRow _ s
      · exact .refl s
    have changes : select sel s = startTuningRow sel (setSelection sel (endPresentTuning s)) := by
      rw [select, if_pos tune, if_neg same]
    exact ⟨_, ended, by rw [changes]; exact Touches.startTuningRow sel _⟩

/-- Settles O41, by the mode and the selection in force. -/
theorem tuneSelectWritesSelection : Obligations.TuneSelectWritesSelection := by
  intro s r fields head
  have served := exec_tuneSelect s
  refine ⟨fun n bad => ?_, fun sel read => ⟨fun other => ?_, fun tune same => ?_, fun tune => ?_⟩⟩
  · refine answeredUnchanged served head.first head.hasCode ?_
    rw [head.fields]
    exact withFields_error bad _ s
  · refine answeredAs served head.first head.hasCode ?_ rfl rfl
    rw [head.fields, withFields_ok read, select, if_neg other]
    rfl
  · refine answeredUnchanged served head.first head.hasCode ?_
    rw [head.fields, withFields_ok read, select, if_pos tune, if_pos same]
  · have acts : (fun fields => withFields (readSelection fields) (fun sel t => (select sel t, .done []))) r.fields s =
        (select sel s, .done []) := by rw [head.fields]; exact withFields_ok read _ s
    obtain ⟨u, ended, started⟩ := select_tune (sel := sel) tune
    have busy : s.port.requests ≠ [] := fun empty => by
      have first := head.first
      rw [empty] at first
      exact absurd first (by simp)
    have ended' := ended.announces.serving busy
    have started' := started.announces.serving (by rw [show (setSelection sel u).port = s.port from ended'.1]; exact busy)
    obtain ⟨ran, answered, reports⟩ := answers served head.first head.hasCode acts (started'.1.trans ended'.1)
      (started.announces.strap.trans ended.announces.strap)
    have engine := engine_of_touches started (by decide)
    have before := engine_of_touches ended (by decide)
    have holds := (started.holds (by decide)).trans (ended.holds (by decide))
    have scan := scan_of_touches started (by decide) (by decide) (by decide) (by decide)
    have scan' := scan_of_touches ended (by decide) (by decide) (by decide) (by decide)
    have router := router_of_touches started (by decide) (by decide)
    have router' := router_of_touches ended (by decide) (by decide)
    have sequencer := sequencer_of_touches started (by decide)
    have sequencer' := sequencer_of_touches ended (by decide)
    refine ⟨_, ran, answered, ?_, ?_, reports.scan.trans (scan.trans scan'), reports.router.trans (router.trans router'),
      reports.sequencer.trans (sequencer.trans sequencer'),
      reports.expression.trans (started.expression.trans ended.expression), fun old present other => ?_⟩
    · exact reports.engine.trans (engine.trans (congrArg (fun e : Engine => { e with tuning := some sel }) before))
    · exact (congrArg ClaimStore.holds reports.claims).trans holds
    · have changes := select_other (sel := sel) tune present other
      have ended := Touches.endTuningRow old s
      have pool := pool_of_touches ended (by decide) (by decide) (by decide) (by decide) (by decide)
      have rank := rank_of_touches ended
      have ranks : ∀ k, (setSelection sel (endTuningRow old s)).rank k = s.rank k := rank
      have rankOf := rankOf_of_touches ended
      have rankOf : ∀ p, (setSelection sel (endTuningRow old s)).rankOf p = s.rankOf p := rankOf
      have targets := target_of_touches ended sel.mapping
      have target : (setSelection sel (endTuningRow old s)).target sel.mapping = s.target sel.mapping := funext targets
      have scan := scan_of_touches ended (by decide) (by decide) (by decide) (by decide)
      have keys : (setSelection sel (endTuningRow old s)).heldKeys sel.row = s.heldKeys sel.row :=
        heldKeys_of_scan (t := endTuningRow old s) scan sel.row
      refine ⟨fun q => ?_, fun other => ?_, fun struck => ?_⟩
      · have targets : (setSelection sel (endTuningRow old s)).tuningTargets sel = s.tuningTargets sel := by
          unfold State.tuningTargets
          rw [ranks, keys, target]
        rw [claimCount_of_reports reports, changes, startTuningRow_moves, targets]
        exact congrArg (· + _) (endTuningRow_moves old s q)
      · rw [reports.pool, changes, startTuningRow_pool sel (by rw [ranks]; exact other)]
        exact pool
      · have strikes := startTuningRow_strikes sel (s := setSelection sel (endTuningRow old s)) (by rw [ranks]; exact struck)
        rw [keys, target] at strikes
        refine strikes.congr pool ?_ rankOf ranks
        rw [reports.pool, changes]

end Sys2Proof.Machine
end

section
/-! PROOF. The cipher requests: the list of a chamber, and guards lifted one by one, by chamber and in all (R148). -/

namespace Sys2Proof.Machine

/-! ### One guard lifted -/

theorem Touches.clearGuard_guard (p : Point) (s : State) : Touches [.guard, .report .cipher] s (Machine.clearGuard p s) :=
  (Touches.setChamber (A := [.guard, .report .cipher]) (by decide) _ _ s ⟨rfl, List.length_filter_le _ _⟩).trans
    ((Touches.latchCipherChange s _).mono (by decide))

theorem Touches.liftGuard (p : Point) (s : State) : Touches [.guard, .report .cipher] s (liftGuard p s) := by
  simp only [Machine.liftGuard]
  split
  · split
    · exact (Touches.clearGuard_guard p s).trans ((Touches.startOnTimer p _).mono (B := [.guard, .report .cipher]) (by decide))
    · exact Touches.clearGuard_guard p s
  · exact .refl s

/-- R148: what lifting the guards of some points of a chamber leaves. -/
structure GuardsLifted (c : Nat) (ps : List Nat) (s t : State) : Prop where
  lifted : ∀ p ∈ ps, GuardLifted c p s t
  others : ∀ q, q ∉ ps → (t.chamber c).guarded q = (s.chamber c).guarded q ∧ (t.chamber c).onTimer q = (s.chamber c).onTimer q
  ciphers : (t.chamber c).ciphers = (s.chamber c).ciphers.filter (fun e => !ps.contains e.point)
  elsewhere : ∀ d, d ≠ c → t.chamber d = s.chamber d
  cipher : t.latched .cipher = (s.latched .cipher || decide (t.cipherAny ≠ s.cipherAny))
  fewer : t.cipherAny = true → s.cipherAny = true

theorem GuardsLifted.nil (c : Nat) (s : State) : GuardsLifted c [] s s where
  lifted p mem := absurd mem (by simp)
  others q _ := ⟨rfl, rfl⟩
  ciphers := by simp
  elsewhere _ _ := rfl
  cipher := by simp
  fewer any := any

theorem cipherAny_fewer {s t : State} (fewer : ∀ c, (s.chamber c).ciphers = [] → (t.chamber c).ciphers = [])
    (any : t.cipherAny = true) : s.cipherAny = true := by
  simp only [State.cipherAny, List.any_eq_true, Bool.not_eq_true', List.isEmpty_eq_false_iff] at any ⊢
  obtain ⟨c, mem, listed⟩ := any
  exact ⟨c, mem, fun empty => listed (fewer c empty)⟩

theorem cipherAny_congr {s t : State} (same : ∀ c, (t.chamber c).ciphers = (s.chamber c).ciphers) :
    t.cipherAny = s.cipherAny := by
  simp only [State.cipherAny, same]

/-- CIPHER is latched over two changes as over one, when entries only leave the lists. -/
theorem latched_of_two {s u t : State} (first : u.latched .cipher = (s.latched .cipher || decide (u.cipherAny ≠ s.cipherAny)))
    (second : t.latched .cipher = (u.latched .cipher || decide (t.cipherAny ≠ u.cipherAny)))
    (fewer : u.cipherAny = true → s.cipherAny = true) (fewer' : t.cipherAny = true → u.cipherAny = true) :
    t.latched .cipher = (s.latched .cipher || decide (t.cipherAny ≠ s.cipherAny)) := by
  rw [second, first, Bool.or_assoc]
  congr 1
  revert fewer fewer'
  cases s.cipherAny <;> cases u.cipherAny <;> cases t.cipherAny <;> decide

/-- R148: one guarded point lifted. -/
theorem liftGuard_lifted {p : Point} {s : State} (guarded : (s.chamber p.chamber).guarded p.point = true) :
    GuardsLifted p.chamber [p.point] s (liftGuard p s) := by
  have cleared := clearGuard_chamber p s
  have unguarded := clearGuard_unguarded p s
  have others := clearGuard_others p s
  have touched := Touches.clearGuard_guard p s
  have counts := claimCount_of_counts (touched.counts (by decide)) p
  have rankOf := rankOf_of_touches touched p
  have rank := rank_of_touches touched
  have mode := mode_of_touches touched (by decide)
  have pipe : (clearGuard p s).isPipe p = s.isPipe p := by simp only [State.isPipe, rankOf, rank]
  -- what the start of the timer afresh adds
  obtain ⟨timers, guards, lists, status⟩ := startOnTimer_timer p (clearGuard p s)
  have cases : (liftGuard p s = clearGuard p s ∧ s.claimCount p = 0) ∨
      (liftGuard p s = startOnTimer p (clearGuard p s) ∧ 0 < s.claimCount p) := by
    simp only [liftGuard, if_pos guarded, counts]
    split
    case isTrue claimed => exact .inr ⟨rfl, claimed⟩
    case isFalse none => exact .inl ⟨rfl, by omega⟩
  have guardsKept : ∀ d q, ((liftGuard p s).chamber d).guarded q = ((clearGuard p s).chamber d).guarded q := by
    obtain ⟨same, -⟩ | ⟨same, -⟩ := cases <;> rw [same]
    · exact fun _ _ => rfl
    · exact guards
  have timersKept : ∀ d q, ¬(d = p.chamber ∧ q = p.point) →
      ((liftGuard p s).chamber d).onTimer q = ((clearGuard p s).chamber d).onTimer q := by
    obtain ⟨same, -⟩ | ⟨same, -⟩ := cases <;> rw [same]
    · exact fun _ _ _ => rfl
    · exact timers
  have listsKept : ∀ d, ((liftGuard p s).chamber d).ciphers = ((clearGuard p s).chamber d).ciphers := by
    obtain ⟨same, -⟩ | ⟨same, -⟩ := cases <;> rw [same]
    · exact fun _ => rfl
    · exact lists
  have elsewhere : ∀ d, d ≠ p.chamber → (liftGuard p s).chamber d = s.chamber d := by
    intro d apart
    have still : (clearGuard p s).chamber d = s.chamber d := by rw [cleared, if_neg apart]
    obtain ⟨same, -⟩ | ⟨same, -⟩ := cases <;> rw [same]
    · exact still
    · obtain ⟨k, -, -, -, -, started⟩ | ⟨-, none⟩ := startOnTimer_cases p (clearGuard p s)
      · rw [started, chamber_setChamber, if_neg apart, still]
      · rw [none, still]
  have latched : (liftGuard p s).latched .cipher = (clearGuard p s).latched .cipher := by
    obtain ⟨same, -⟩ | ⟨same, -⟩ := cases <;> rw [same]
    exact latched_of_status (congrArg Status.latched status) _
  refine ⟨fun q mem => ?_, fun q apart => ?_, ?_, elsewhere, ?_, cipherAny_fewer fun c empty => ?_⟩
  · rw [List.mem_singleton] at mem
    subst mem
    refine ⟨(guardsKept _ _).trans unguarded.guard, fun idle => ?_, fun claimed play k ranked struck => ?_⟩
    · obtain ⟨same, -⟩ | ⟨same, claimed⟩ := cases
      · rw [same]
        exact unguarded.timer
      · obtain ⟨k, play, ranked, kind, -, -⟩ | ⟨-, none⟩ := startOnTimer_cases p (clearGuard p s)
        · obtain empty | silent | unpiped := idle
          · exact absurd empty (Nat.ne_of_gt claimed)
          · exact absurd (mode.symm.trans play) silent
          · have unpiped : s.isPipe p = false := unpiped
            rw [← pipe, State.isPipe, ranked] at unpiped
            simp [kind] at unpiped
        · rw [same, none]
          exact unguarded.timer
    · obtain ⟨-, empty⟩ | ⟨same, -⟩ := cases
      · exact absurd empty (Nat.ne_of_gt claimed)
      · have ranked : (clearGuard p s).rankOf p = some k := rankOf.trans ranked
        rw [same]
        obtain ⟨k', -, ranked', -, limited, started⟩ | ⟨quiet, none⟩ := startOnTimer_cases p (clearGuard p s)
        · have equal : k = k' := Option.some.inj (ranked.symm.trans ranked')
          subst equal
          rw [rank] at limited
          rw [started, chamber_setChamber_same, Chamber.onTimer_setGuard, if_pos rfl, if_pos limited, rank]
        · rw [none, unguarded.timer]
          obtain silent | unpiped | ⟨k', ranked', unlimited⟩ := quiet
          · exact absurd (mode.trans play) silent
          · simp [State.isPipe, ranked, rank, struck] at unpiped
          · have equal : k = k' := Option.some.inj (ranked.symm.trans ranked')
            subst equal
            rw [rank] at unlimited
            rw [unlimited]
            rfl
  · have differs : ¬(p.chamber = p.chamber ∧ q = p.point) := fun both => apart (by simp [both.2])
    obtain ⟨guard, timer⟩ := others p.chamber q differs
    exact ⟨(guardsKept _ _).trans guard, (timersKept _ _ differs).trans timer⟩
  · rw [listsKept, cleared, if_pos rfl]
    refine List.filter_congr fun e _ => ?_
    simp
  · rw [latched, clearGuard_latched, cipherAny_congr listsKept]
  · rw [listsKept, cleared]
    split
    case isTrue own =>
      rw [own] at empty
      simp only [Chamber.cleared, empty, List.filter_nil]
    · exact empty

theorem liftGuard_unguarded {p : Point} {s : State} (free : (s.chamber p.chamber).guarded p.point = false) :
    liftGuard p s = s := if_neg (by rw [free]; decide)

/-! ### Guards lifted over a list -/

theorem GuardLifted.of_chamber {c p : Nat} {s t u : State} (lifted : GuardLifted c p s t)
    (guard : (u.chamber c).guarded p = (t.chamber c).guarded p) (timer : (u.chamber c).onTimer p = (t.chamber c).onTimer p) :
    GuardLifted c p s u :=
  ⟨guard.trans lifted.guard, fun idle => timer.trans (lifted.idle idle), fun claimed play k ranked pipe =>
    timer.trans (lifted.afresh claimed play k ranked pipe)⟩

/-- What a lift reads is untouched by lifts before it. -/
theorem GuardLifted.of_touches {c p : Nat} {s u t : State} (touched : Touches [.guard, .report .cipher] s u)
    (lifted : GuardLifted c p u t) : GuardLifted c p s t := by
  have counts := claimCount_of_counts (touched.counts (by decide)) ⟨c, p⟩
  have mode := mode_of_touches touched (by decide)
  have rankOf := rankOf_of_touches touched ⟨c, p⟩
  have rank := rank_of_touches touched
  have pipe : u.isPipe ⟨c, p⟩ = s.isPipe ⟨c, p⟩ := by simp only [State.isPipe, rankOf, rank]
  refine ⟨lifted.guard, fun idle => lifted.idle (by rw [counts, mode, pipe]; exact idle),
    fun claimed play k ranked struck => ?_⟩
  rw [← counts] at claimed
  have result := lifted.afresh claimed (mode.trans play) k (rankOf.trans ranked) (by rw [rank]; exact struck)
  rwa [rank] at result

theorem GuardsLifted.cons {c p : Nat} {ps : List Nat} {s u t : State} (apart : p ∉ ps)
    (touched : Touches [.guard, .report .cipher] s u) (first : GuardsLifted c [p] s u) (later : GuardsLifted c ps u t) :
    GuardsLifted c (p :: ps) s t where
  lifted q mem := by
    obtain rfl | inRest := List.mem_cons.1 mem
    · obtain ⟨guard, timer⟩ := later.others q apart
      exact (first.lifted q (by simp)).of_chamber guard timer
    · exact (later.lifted q inRest).of_touches touched
  others q out := by
    obtain ⟨notFirst, notLater⟩ := not_or.1 (mt List.mem_cons.2 out)
    obtain ⟨guard, timer⟩ := later.others q notLater
    obtain ⟨guard', timer'⟩ := first.others q (by simpa using notFirst)
    exact ⟨guard.trans guard', timer.trans timer'⟩
  ciphers := by
    rw [later.ciphers, first.ciphers, List.filter_filter]
    refine List.filter_congr fun e _ => ?_
    simp only [List.contains_cons, List.contains_nil, Bool.or_false, Bool.not_or, Bool.and_comm]
  elsewhere d other := (later.elsewhere d other).trans (first.elsewhere d other)
  cipher := latched_of_two first.cipher later.cipher first.fewer later.fewer
  fewer any := first.fewer (later.fewer any)

theorem liftGuards_lifted (c : Nat) (ps : List Nat) (once : ps.Nodup) (s : State)
    (guarded : ∀ p ∈ ps, (s.chamber c).guarded p = true) :
    GuardsLifted c ps s (forEach ps (fun p => liftGuard ⟨c, p⟩) s) := by
  induction ps generalizing s with
  | nil => exact .nil c s
  | cons p rest ih =>
    obtain ⟨apart, once'⟩ := List.nodup_cons.1 once
    have first := liftGuard_lifted (p := ⟨c, p⟩) (guarded p List.mem_cons_self)
    refine .cons apart (Touches.liftGuard ⟨c, p⟩ s) first (ih once' _ fun q mem => ?_)
    have differs : q ∉ [p] := fun same => apart (List.mem_singleton.1 same ▸ mem)
    rw [(first.others q differs).1]
    exact guarded q (List.mem_cons_of_mem _ mem)

theorem mem_guardedPoints {s : State} {c p : Nat} :
    p ∈ s.guardedPoints c ↔ p < 1024 ∧ (s.chamber c).guarded p = true := by
  rw [State.guardedPoints, List.mem_filter, List.mem_range]

theorem guardedPoints_nodup (s : State) (c : Nat) : (s.guardedPoints c).Nodup := List.nodup_range.filter _

theorem liftChamber_lifted (c : Nat) (s : State) : GuardsLifted c (s.guardedPoints c) s (liftChamber c s) :=
  liftGuards_lifted c _ (guardedPoints_nodup s c) s fun _ mem => (mem_guardedPoints.1 mem).2

theorem Touches.liftChamber (c : Nat) (s : State) : Touches [.guard, .report .cipher] s (Machine.liftChamber c s) := by
  unfold Machine.liftChamber
  generalize s.guardedPoints c = ps
  exact Touches.forEach (fun p t => Touches.liftGuard ⟨c, p⟩ t) ps s

/-- R148: the clause of a chamber, from the guards lifted. -/
theorem GuardsLifted.cleared {c : Nat} {s t : State} (lifted : GuardsLifted c (s.guardedPoints c) s t) :
    ChamberCleared c s t where
  lifted p inRange guarded := lifted.lifted p (mem_guardedPoints.2 ⟨inRange, guarded⟩)
  others p inRange free := by
    obtain ⟨guard, timer⟩ := lifted.others p fun mem => by
      rw [mem_guardedPoints, free] at mem
      exact absurd mem.2 (by decide)
    exact ⟨guard.trans free, timer⟩
  listed := by
    rw [lifted.ciphers]
    refine List.filter_congr fun e _ => ?_
    rw [Bool.eq_iff_iff]
    simp [mem_guardedPoints]

theorem ChamberCleared.of_chamber {c : Nat} {s t u : State} (cleared : ChamberCleared c s t)
    (guards : ∀ p, (u.chamber c).guarded p = (t.chamber c).guarded p)
    (timers : ∀ p, (u.chamber c).onTimer p = (t.chamber c).onTimer p)
    (list : (u.chamber c).ciphers = (t.chamber c).ciphers) : ChamberCleared c s u where
  lifted p inRange guarded := (cleared.lifted p inRange guarded).of_chamber (guards p) (timers p)
  others p inRange free := by
    obtain ⟨guard, timer⟩ := cleared.others p inRange free
    exact ⟨(guards p).trans guard, (timers p).trans timer⟩
  listed := list.trans cleared.listed

theorem ChamberCleared.of_touches {c : Nat} {s u t : State} (touched : Touches [.guard, .report .cipher] s u)
    (same : u.chamber c = s.chamber c) (cleared : ChamberCleared c u t) : ChamberCleared c s t where
  lifted p inRange guarded := (cleared.lifted p inRange (by rw [same]; exact guarded)).of_touches touched
  others p inRange free := by
    rw [← same] at free ⊢
    exact cleared.others p inRange free
  listed := by
    rw [← same]
    exact cleared.listed

/-- R148: what lifting every guard of some chambers leaves. -/
structure ChambersLifted (cs : List Nat) (s t : State) : Prop where
  cleared : ∀ c ∈ cs, ChamberCleared c s t
  elsewhere : ∀ d, d ∉ cs → t.chamber d = s.chamber d
  cipher : t.latched .cipher = (s.latched .cipher || decide (t.cipherAny ≠ s.cipherAny))
  fewer : t.cipherAny = true → s.cipherAny = true

theorem liftChambers_lifted (cs : List Nat) (once : cs.Nodup) (s : State) :
    ChambersLifted cs s (forEach cs liftChamber s) := by
  induction cs generalizing s with
  | nil => exact ⟨fun _ mem => absurd mem (by simp), fun _ _ => rfl, by simp [forEach], id⟩
  | cons c rest ih =>
    obtain ⟨apart, once'⟩ := List.nodup_cons.1 once
    have first := liftChamber_lifted c s
    have touched := Touches.liftChamber c s
    have later := ih once' (liftChamber c s)
    rw [forEach_cons]
    refine ⟨fun d mem => ?_, fun d out => ?_, latched_of_two first.cipher later.cipher first.fewer later.fewer,
      fun any => first.fewer (later.fewer any)⟩
    · obtain rfl | inRest := List.mem_cons.1 mem
      · have same := later.elsewhere d apart
        exact first.cleared.of_chamber (fun _ => by rw [same]) (fun _ => by rw [same]) (by rw [same])
      · have other : d ≠ c := fun same => apart (same ▸ inRest)
        exact (later.cleared d inRest).of_touches touched (first.elsewhere d other)
    · obtain ⟨notFirst, notLater⟩ := not_or.1 (mt List.mem_cons.2 out)
      exact (later.elsewhere d notLater).trans (first.elsewhere d notFirst)

/-! ### CIPHER-READ and CIPHER-CLEAR -/

theorem Touches.clearCiphers (x : Option Nat × Option Nat) (s : State) :
    Touches [.guard, .report .cipher] s (Machine.clearCiphers x s) := by
  unfold Machine.clearCiphers
  split
  · exact Touches.liftGuard _ s
  · exact Touches.liftChamber _ s
  · exact Touches.forEach (fun c t => Touches.liftChamber c t) (List.range 4) s

section Clear

variable {c hi lo : Byte}

theorem readCipherClear_point (chamber : c.toNat ≤ 3) (point : wordOf hi lo ≤ 1023) :
    readCipherClear [c, hi, lo] = .ok (some c.toNat, some (wordOf hi lo)) := by
  have named : c.toNat ≠ 255 := by omega
  have one : wordOf hi lo ≠ 65535 := by omega
  simp [readCipherClear, field, takeNatOr, named, chamber, takeWordOr, one, point, test, endFields]

theorem readCipherClear_all {x : Option Nat} (chamber : takeNatOr 3 [c, hi, lo] = some (x, [hi, lo]))
    (all : wordOf hi lo = 0xFFFF) : readCipherClear [c, hi, lo] = .ok (x, none) := by
  simp [readCipherClear, field, chamber, takeWordOr, all, test, endFields]

theorem takeNatOr_named (chamber : c.toNat ≤ 3) : takeNatOr 3 [c, hi, lo] = some (some c.toNat, [hi, lo]) := by
  have named : c.toNat ≠ 255 := by omega
  simp [takeNatOr, named, chamber]

theorem takeNatOr_all (all : c = 0xFF#8) : takeNatOr 3 [c, hi, lo] = some (none, [hi, lo]) := by
  subst all
  simp [takeNatOr]

theorem readCipherClear_badChamber (beyond : 3 < c.toNat) (named : c ≠ 0xFF#8) :
    readCipherClear [c, hi, lo] = .error 1 := by
  have named : c.toNat ≠ 255 := fun same => named (BitVec.eq_of_toNat_eq same)
  simp [readCipherClear, field, takeNatOr, named, Nat.not_le.2 beyond]

theorem readCipherClear_badPoint (chamber : c.toNat ≤ 3 ∨ c = 0xFF#8) (beyond : 1023 < wordOf hi lo)
    (named : wordOf hi lo ≠ 0xFFFF) : readCipherClear [c, hi, lo] = .error 2 := by
  have word : takeWordOr 1023 [hi, lo] = none := by simp [takeWordOr, named, Nat.not_le.2 beyond]
  obtain one | all := chamber
  · simp [readCipherClear, field, takeNatOr_named one, word]
  · simp [readCipherClear, field, takeNatOr_all all, word]

theorem readCipherClear_onePointOfAll (all : c = 0xFF#8) (point : wordOf hi lo ≤ 1023) :
    readCipherClear [c, hi, lo] = .error 2 := by
  have one : wordOf hi lo ≠ 65535 := by omega
  simp [readCipherClear, field, takeNatOr_all all, takeWordOr, one, point, test]

end Clear

theorem sameLogic_guards {a b : Chamber} (same : a.sameLogic b) (p : Nat) :
    b.guarded p = a.guarded p ∧ b.onTimer p = a.onTimer p ∧ b.ciphers = a.ciphers ∧ b.state = a.state := by
  rw [same]
  exact ⟨rfl, rfl, rfl, rfl⟩

/-- R148: point ALL of a chamber, or of every chamber. -/
theorem clearCiphers_all {c : Byte} {x : Option Nat} (chamber : x = some c.toNat ∧ c.toNat ≤ 3 ∨ x = none ∧ c = 0xFF#8)
    (s : State) : (∀ d, d < 4 → (c.toNat = d ∨ c = 0xFF#8 → ChamberCleared d s (clearCiphers (x, none) s)) ∧
      (c.toNat ≠ d → c ≠ 0xFF#8 → (clearCiphers (x, none) s).chamber d = s.chamber d)) ∧
      (clearCiphers (x, none) s).latched .cipher =
        (s.latched .cipher || decide ((clearCiphers (x, none) s).cipherAny ≠ s.cipherAny)) := by
  obtain ⟨rfl, small⟩ | ⟨rfl, all⟩ := chamber
  · have lifted := liftChamber_lifted c.toNat s
    refine ⟨fun d _ => ⟨fun own => ?_, fun other _ => lifted.elsewhere d (Ne.symm other)⟩, lifted.cipher⟩
    obtain rfl | all := own
    · exact lifted.cleared
    · exact absurd small (by rw [all]; decide)
  · have lifted := liftChambers_lifted (List.range 4) List.nodup_range s
    exact ⟨fun d inRange => ⟨fun _ => lifted.cleared d (List.mem_range.2 inRange), fun _ named => absurd all named⟩,
      lifted.cipher⟩

/-- Settles O45, by the fields of the request. -/
theorem cipherRequestsServeList : Obligations.CipherRequestsServeList := by
  refine ⟨fun s r c head => ⟨fun beyond => ?_, fun inRange => ?_⟩,
    fun s r c hi lo head => ⟨fun all point => ?_, fun beyond named => ?_, fun chamber beyond named => ?_,
      fun all chamber => ?_, fun chamber point => ⟨fun free => ?_, fun guarded => ?_⟩⟩⟩
  · refine answeredUnchanged (exec_cipherRead s) head.first head.hasCode ?_
    rw [head.fields]
    exact withNumber_beyond beyond _ _ s
  · refine answeredUnchanged (exec_cipherRead s) head.first head.hasCode ?_
    rw [head.fields, withNumber_inRange inRange]
    rfl
  all_goals
    have served := exec_cipherClear s
    have first := head.first
    have own := head.hasCode
  · refine answeredUnchanged served first own ?_
    rw [head.fields]
    exact withFields_error (readCipherClear_onePointOfAll all point) _ s
  · refine answeredUnchanged served first own ?_
    rw [head.fields]
    exact withFields_error (readCipherClear_badChamber beyond named) _ s
  · refine answeredUnchanged served first own ?_
    rw [head.fields]
    exact withFields_error (readCipherClear_badPoint chamber beyond named) _ s
  · obtain ⟨x, read, isChamber⟩ : ∃ x, readCipherClear r.fields = .ok (x, none) ∧
        (x = some c.toNat ∧ c.toNat ≤ 3 ∨ x = none ∧ c = 0xFF#8) := by
      rw [head.fields]
      obtain one | every := chamber
      · exact ⟨_, readCipherClear_all (takeNatOr_named one) all, .inl ⟨rfl, one⟩⟩
      · exact ⟨_, readCipherClear_all (takeNatOr_all every) all, .inr ⟨rfl, every⟩⟩
    have touched := Touches.clearCiphers (x, none) s
    obtain ⟨ran, answered, reports⟩ := answers_touched served first own (withFields_ok read _ s) touched
    obtain ⟨chambers, latched⟩ := clearCiphers_all isChamber s
    have claims := claims_of_touches touched (by decide) (by decide) (by decide)
    have pool := pool_of_touches touched (by decide) (by decide) (by decide) (by decide) (by decide)
    have engine := engine_of_touches touched (by decide)
    have scan := scan_of_touches touched (by decide) (by decide) (by decide) (by decide)
    have router := router_of_touches touched (by decide) (by decide)
    have sequencer := sequencer_of_touches touched (by decide)
    refine ⟨_, ran, answered, fun d inRange => ⟨fun named => ?_, fun other notAll => ?_, ?_⟩, ?_,
      reports.claims.trans claims, reports.pool.trans pool, reports.engine.trans engine, reports.scan.trans scan,
      reports.router.trans router, reports.sequencer.trans sequencer, reports.expression.trans touched.expression⟩
    · exact ((chambers d inRange).1 named).of_chamber (guarded_of_reports reports d) (onTimer_of_reports reports d)
        (ciphers_of_reports reports d)
    · rw [← (chambers d inRange).2 other notAll]
      exact reports.chambers d
    · rw [chamberState_of_reports reports, (touched.chamber d).1]
    · rw [reports.flags .cipher (by decide), latched, cipherAny_of_reports reports]
      exact congrArg (fun b => s.latched .cipher || b) (decide_eq_decide.2 ne_comm)
  · refine answeredUnchanged served first own ?_
    rw [head.fields]
    refine (withFields_ok (readCipherClear_point chamber point) _ s).trans ?_
    exact congrArg (·, Reply.done []) (liftGuard_unguarded (p := ⟨c.toNat, wordOf hi lo⟩) free)
  · have read : readCipherClear r.fields = .ok (some c.toNat, some (wordOf hi lo)) := by
      rw [head.fields]
      exact readCipherClear_point chamber point
    have touched := Touches.liftGuard ⟨c.toNat, wordOf hi lo⟩ s
    obtain ⟨ran, answered, reports⟩ := answers_touched served first own (withFields_ok read _ s) touched
    have result := liftGuard_lifted (p := ⟨c.toNat, wordOf hi lo⟩) guarded
    obtain ⟨guard, idle, afresh⟩ := result.lifted (wordOf hi lo) (by simp)
    have claims := claims_of_touches touched (by decide) (by decide) (by decide)
    have pool := pool_of_touches touched (by decide) (by decide) (by decide) (by decide) (by decide)
    have engine := engine_of_touches touched (by decide)
    have scan := scan_of_touches touched (by decide) (by decide) (by decide) (by decide)
    refine ⟨_, ran, answered, ?_, ?_, fun quiet => ?_, fun claimed play k ranked pipe => ?_,
      reports.claims.trans claims, reports.pool.trans pool, reports.engine.trans engine, reports.scan.trans scan⟩
    · exact (guarded_of_reports reports _ _).trans guard
    · rw [ciphers_of_reports reports]
      refine result.ciphers.trans (List.filter_congr fun e _ => ?_)
      simp
    · exact (onTimer_of_reports reports _ _).trans (idle (quiet.imp_right .inl))
    · exact (onTimer_of_reports reports _ _).trans (afresh claimed play k ranked pipe)

end Sys2Proof.Machine
end

section
/-! PROOF. The chambers: the transmitter's choice (R144), the CHSTATUS frame, and the expiries of the chamber timers (R138 to
R142). -/

namespace Sys2Proof.Machine

/-! ### The next image, apart from reports -/

section Reports

variable {u t : State} (reports : ReportsOnly u t)

include reports

theorem rankOf_of_reports (p : Point) : t.rankOf p = u.rankOf p := by
  unfold State.rankOf
  simp only [rank_of_reports reports]

theorem tremulantAt_of_reports (p : Point) : t.tremulantAt p = u.tremulantAt p := by
  funext k
  unfold State.tremulantAt State.tremulant
  rw [reports.pool]

theorem isPipe_of_reports (p : Point) : t.isPipe p = u.isPipe p := by
  simp only [State.isPipe, rankOf_of_reports reports, rank_of_reports reports]

theorem stageIndex_of_reports (p : Point) : t.stageIndex p = u.stageIndex p := by
  unfold State.stageIndex State.channel
  rw [reports.expression]

theorem pointClass_of_reports (p : Point) : t.pointClass p = u.pointClass p := by
  unfold State.pointClass
  rw [isPipe_of_reports reports, isStruck_of_reports reports, stageIndex_of_reports reports, tremulantAt_of_reports reports]

theorem level_of_reports (g : Nat) : t.level g = u.level g := by
  unfold State.level State.generator
  rw [reports.pool]

theorem drivenValue_of_reports (p : Point) : t.drivenValue p = u.drivenValue p := by
  simp only [State.drivenValue, servedBy_of_generators (congrArg Pool.generators reports.pool), level_of_reports reports,
    strikeTimer_of_reports reports]

theorem tremulantValue_of_reports : t.tremulantValue = u.tremulantValue := by
  funext k
  simp only [State.tremulantValue, servedBy_of_generators (congrArg Pool.generators reports.pool), level_of_reports reports]

theorem stageValue_of_reports (c i : Nat) : t.stageValue c i = u.stageValue c i := by
  unfold State.stageValue State.channel
  rw [reports.expression]

theorem pointValue_of_reports (p : Point) : t.pointValue p = u.pointValue p := by
  unfold State.pointValue
  rw [pointClass_of_reports reports]
  cases u.pointClass p with
  | pipe => exact congrArg₂ (fun n b => decide (0 < n) && !b) (claimCount_of_reports reports p) (guarded_of_reports reports _ _)
  | struck => exact drivenValue_of_reports reports p
  | stage i => exact stageValue_of_reports reports _ i
  | tremulant =>
    simp only [tremulantAt_of_reports reports, tremulantValue_of_reports reports]
  | other => rfl

theorem nextImage_of_reports (c g : Nat) : t.nextImage c g = u.nextImage c g := by
  simp only [State.nextImage, chamberState_of_reports reports, pointValue_of_reports reports]

end Reports

/-! ### The transmitter's choice (R144) -/

theorem groupPending_iff (s : State) (c g : Nat) : s.groupPending c g = true ↔ s.Pends c g := by
  unfold State.groupPending State.Pends
  rw [Bool.or_eq_true, Bool.or_eq_true, decide_eq_true_iff, decide_eq_true_iff, or_assoc]
  exact Iff.rfl

theorem controlIsDue_iff (ch : Chamber) : ch.controlIsDue = true ↔ ch.ControlPends := by
  unfold Chamber.controlIsDue Chamber.ControlPends
  rw [Bool.or_eq_true, decide_eq_true_iff]
  exact Iff.rfl

theorem turnAfter_order (last i : Nat) (inRange : i < 16) : turnAfter last ((last + 1 + i) % 16) = i := by
  unfold turnAfter
  omega

theorem order_turnAfter (last g : Nat) (inRange : g < 16) : (last + 1 + turnAfter last g) % 16 = g := by
  unfold turnAfter
  omega

/-- R144: the pending group chosen is the one that comes first after the last group sent. -/
theorem pendingGroup_eq {s : State} {c g : Nat} (inRange : g < 16) (pends : s.Pends c g)
    (first : ∀ h, h < 16 → s.Pends c h → turnAfter (s.chamber c).lastGroup g ≤ turnAfter (s.chamber c).lastGroup h) :
    s.pendingGroup c = some g := by
  have place : turnAfter (s.chamber c).lastGroup g < 16 := Nat.mod_lt _ (by decide)
  have found : (List.range 16).find? (s.groupPending c ∘ fun i => ((s.chamber c).lastGroup + 1 + i) % 16) =
      some (turnAfter (s.chamber c).lastGroup g) := by
    rw [List.find?_range_eq_some]
    refine ⟨?_, List.mem_range.2 place, fun j before => ?_⟩
    · rw [Function.comp_apply, order_turnAfter _ _ inRange, groupPending_iff]
      exact pends
    · rw [Function.comp_apply, Bool.not_eq_true', Bool.eq_false_iff, ne_eq, groupPending_iff]
      intro earlier
      have turn := turnAfter_order (s.chamber c).lastGroup j (by omega)
      have least := first _ (Nat.mod_lt _ (by decide)) earlier
      omega
  unfold State.pendingGroup groupOrder
  rw [List.find?_map, found, Option.map_some, order_turnAfter _ _ inRange]

theorem pendingGroup_none {s : State} {c : Nat} (unasked : ∀ g, g < 16 → ¬s.Pends c g) : s.pendingGroup c = none := by
  refine List.find?_eq_none.2 fun g mem => ?_
  obtain ⟨i, -, rfl⟩ := List.mem_map.1 mem
  rw [groupPending_iff]
  exact unasked _ (Nat.mod_lt _ (by decide))

section Choice

variable {c : Nat} {u : State}

theorem transmit_busy (busy : (u.chamber c).tx ≠ .free) : transmit c u = u := if_pos busy

theorem transmit_control (free : (u.chamber c).tx = .free) (due : (u.chamber c).controlIsDue = true) :
    transmit c u = u.setChamber c (startControl (u.chamber c)) := by
  simp only [transmit, free, ne_eq, not_true_eq_false, if_false, due, if_true]

theorem transmit_drive (free : (u.chamber c).tx = .free) (quiet : (u.chamber c).controlIsDue = false) {g : Nat}
    (pending : u.pendingGroup c = some g) :
    transmit c u = u.setChamber c (startDrive (u.chamber c) g (u.nextImage c g)) := by
  simp only [transmit, free, ne_eq, not_true_eq_false, if_false, quiet, Bool.false_eq_true, pending]

theorem transmit_idle (free : (u.chamber c).tx = .free) (quiet : (u.chamber c).controlIsDue = false)
    (unasked : u.pendingGroup c = none) : transmit c u = u := by
  simp only [transmit, free, ne_eq, not_true_eq_false, if_false, quiet, Bool.false_eq_true, unasked]

theorem transmit_chooses (c : Nat) (u : State) : Chooses c u (transmit c u) where
  busy busy := by rw [transmit_busy busy]
  control free due := by
    rw [transmit_control free ((controlIsDue_iff _).2 due), chamber_setChamber_same]
    rfl
  drive free quiet g inRange pends first := by
    have quiet : (u.chamber c).controlIsDue = false := Bool.eq_false_iff.2 fun due => quiet ((controlIsDue_iff _).1 due)
    rw [transmit_drive free quiet (pendingGroup_eq inRange pends first), chamber_setChamber_same]
    refine ⟨rfl, ?_, rfl, fun h other => ?_, rfl, rfl, startDrive_sameLogic _ _ _⟩
    · exact ((u.chamber c).group_setGroup g g _).trans (if_pos rfl)
    · exact ((u.chamber c).group_setGroup g h _).trans (if_neg other)
  idle free quiet unasked := by
    have quiet : (u.chamber c).controlIsDue = false := Bool.eq_false_iff.2 fun due => quiet ((controlIsDue_iff _).1 due)
    rw [transmit_idle free quiet (pendingGroup_none unasked)]

/-- The choice of a transmitter reads its own chamber and the next image. -/
theorem Chooses.congr {u' t t' : State} (chooses : Chooses c u t) (before : u.chamber c = u'.chamber c)
    (images : ∀ g, u.nextImage c g = u'.nextImage c g) (after : t'.chamber c = t.chamber c) : Chooses c u' t' := by
  have pends : ∀ g, u.Pends c g ↔ u'.Pends c g := fun g => by simp only [State.Pends, before, images]
  obtain ⟨busy, control, drive, idle⟩ := chooses
  simp only [before, pends, images, ← after] at busy control drive idle
  exact ⟨busy, control, drive, idle⟩

end Choice

theorem transmits_chamber_other {c : Nat} (cs : List Nat) (out : c ∉ cs) (s : State) :
    (forEach cs transmit s).chamber c = s.chamber c := by
  induction cs generalizing s with
  | nil => rfl
  | cons d rest ih =>
    obtain ⟨other, later⟩ := not_or.1 (mt List.mem_cons.2 out)
    rw [forEach_cons, ih later, transmit_chamber_other other]

/-- R144: the four controllers are independent. -/
theorem transmits_choose {c : Nat} (cs : List Nat) (once : cs.Nodup) (mem : c ∈ cs) (s : State) :
    Chooses c s (forEach cs transmit s) := by
  induction cs generalizing s with
  | nil => exact absurd mem (by simp)
  | cons d rest ih =>
    obtain ⟨apart, once'⟩ := List.nodup_cons.1 once
    rw [forEach_cons]
    by_cases own : c = d
    · subst own
      exact (transmit_chooses c s).congr rfl (fun _ => rfl) (transmits_chamber_other rest apart _)
    · exact (ih once' ((List.mem_cons.1 mem).resolve_left own) (transmit d s)).congr (transmit_chamber_other own s)
        (fun g => nextImage_of_reports (transmit_reportsOnly d s) c g) rfl

/-- R144: at the end of a command every transmitter has had its choice. -/
theorem conclude_chooses {c : Nat} (inRange : c < 4) (s v : State) : Chooses c v (conclude s v) := by
  have reports := announceLamps_reportsOnly s v
  have chamber : (announceLamps s v).chamber c = v.chamber c := by unfold State.chamber; rw [announceLamps_chambers]
  exact (transmits_choose (List.range 4) List.nodup_range (List.mem_range.2 inRange) (announceLamps s v)).congr chamber
    (fun g => nextImage_of_reports reports c g) rfl

/-! ### Ages (R144) -/

theorem controlAges_eq (c : Nat) (s : State) :
    controlAges c s = s.setChamber c { s.chamber c with controlAge := max (s.chamber c).controlAge 18 } := rfl

theorem groupAges_eq (c g : Nat) (s : State) :
    groupAges c g s = s.setChamber c ((s.chamber c).setGroup g { (s.chamber c).group g with
      age := max ((s.chamber c).group g).age 18 }) := rfl

/-- A chamber written with a new age, and the transmitters' choices after it. -/
theorem aged_quietly {c : Nat} {s : State} {x : Chamber} (same : (s.chamber c).sameLogic x) :
    QuietlySame s (conclude s (s.setChamber c x)) ∧ ∀ d, d < 4 → Chooses d (s.setChamber c x) (conclude s (s.setChamber c x)) := by
  obtain ⟨reports, requests⟩ := conclude_quietly s (s.setChamber c x)
  exact ⟨⟨(setChamber_reportsOnly s c x same).trans reports, requests⟩, fun d inRange => conclude_chooses inRange _ _⟩

/-- Settles O52, by the transmitter's choice after the age. -/
theorem agedFramesAreSentAgain : Obligations.AgedFramesAreSentAgain := by
  intro s c g
  refine ⟨?_, ?_⟩
  · obtain ⟨quietly, chooses⟩ := aged_quietly (c := c) (s := s)
      (x := { s.chamber c with controlAge := max (s.chamber c).controlAge 18 }) rfl
    have own := chooses c c.isLt
    have written : (s.setChamber c { s.chamber c with controlAge := max (s.chamber c).controlAge 18 }).chamber c =
        { s.chamber c with controlAge := max (s.chamber c).controlAge 18 } := chamber_setChamber_same ..
    refine ⟨_, rfl, quietly, fun free => ?_, fun busy => ?_, chooses⟩
    · have sent := own.control (by rw [written]; exact free) (by rw [written]; exact .inr (le_max_right _ _))
      have chamber := sent.trans (by rw [written])
      exact ⟨congrArg Chamber.tx chamber, congrArg Chamber.controlAge chamber⟩
    · exact (own.busy (by rw [written]; exact busy)).trans written
  · have same : (s.chamber c).sameLogic ((s.chamber c).setGroup g { (s.chamber c).group g with
        age := max ((s.chamber c).group g).age 18 }) := rfl
    obtain ⟨quietly, chooses⟩ := aged_quietly same
    have own := chooses c c.isLt
    have written : (s.setChamber c ((s.chamber c).setGroup g { (s.chamber c).group g with
          age := max ((s.chamber c).group g).age 18 })).chamber c =
        (s.chamber c).setGroup g { (s.chamber c).group g with age := max ((s.chamber c).group g).age 18 } :=
      chamber_setChamber_same ..
    have images : ∀ h, (s.setChamber c ((s.chamber c).setGroup g { (s.chamber c).group g with
          age := max ((s.chamber c).group g).age 18 })).nextImage c h = s.nextImage c h := fun h =>
      nextImage_of_reports (setChamber_reportsOnly s c _ same) c h
    refine ⟨_, rfl, quietly, fun free quiet alone => ?_, fun busy => ?_, chooses⟩
    · have pending : ∀ h, h < 16 → h ≠ g.val → ¬(s.setChamber c ((s.chamber c).setGroup g { (s.chamber c).group g with
          age := max ((s.chamber c).group g).age 18 })).Pends c h := by
        intro h inRange other pends
        refine absurd (alone h inRange other) (Bool.ne_false_iff.2 ((groupPending_iff s c h).2 ?_))
        simp only [State.Pends, written, images, Chamber.group_setGroup, if_neg other] at pends
        exact pends
      have due := own.drive (by rw [written]; exact free)
        (by rw [written, ← controlIsDue_iff]; exact Bool.eq_false_iff.1 quiet) g g.isLt
        (by simp only [State.Pends, written, Chamber.group_setGroup, if_true]; exact .inr (.inl (le_max_right _ _)))
        (fun h inRange pends => by
          by_cases other : h = g.val
          · rw [other]
          · exact absurd pends (pending h inRange other))
      obtain ⟨tx, group, last, -⟩ := due
      rw [images] at tx group
      exact ⟨tx, group, last⟩
    · exact (own.busy (by rw [written]; exact busy)).trans written

end Sys2Proof.Machine
end

section
/-! PROOF. The chamber states: the CHSTATUS frame (R141), the expiries of the chamber timers (R138 to R141), and the phases
of a lowering (R140). Each operation is followed on a state in which reports are set aside. -/

namespace Sys2Proof.Machine

/-! ### Chambers with the same logic -/

theorem Chamber.sameLogic.state {a b : Chamber} (same : a.sameLogic b) : b.state = a.state := by rw [same]

theorem Chamber.sameLogic.blower {a b : Chamber} (same : a.sameLogic b) : b.blower = a.blower := by rw [same]

theorem Chamber.sameLogic.supply {a b : Chamber} (same : a.sameLogic b) : b.supply = a.supply := by rw [same]

theorem Chamber.sameLogic.present {a b : Chamber} (same : a.sameLogic b) : b.present = a.present := by rw [same]

theorem Chamber.sameLogic.linkTimer {a b : Chamber} (same : a.sameLogic b) : b.linkTimer = a.linkTimer := by rw [same]

theorem Chamber.sameLogic.windTimer {a b : Chamber} (same : a.sameLogic b) : b.windTimer = a.windTimer := by rw [same]

theorem Chamber.sameLogic.settleTimer {a b : Chamber} (same : a.sameLogic b) : b.settleTimer = a.settleTimer := by rw [same]

theorem Chamber.sameLogic.windReady {a b : Chamber} (same : a.sameLogic b) : b.windReady = a.windReady := by rw [same]

theorem Chamber.sameLogic.supplyOk {a b : Chamber} (same : a.sameLogic b) : b.supplyOk = a.supplyOk := by rw [same]

theorem Chamber.sameLogic.boards {a b : Chamber} (same : a.sameLogic b) : b.boards = a.boards := by rw [same]

/-! ### Writes, apart from reports -/

theorem reportsOnly_of_chambers {s t : State} (only : t = s.setChambers t.chambers)
    (chambers : ∀ d, (s.chamber d).sameLogic (t.chamber d)) : ReportsOnly s t := by
  generalize given : t.chambers = table at only
  subst only
  exact ⟨rfl, rfl, rfl, rfl, rfl, rfl, rfl, rfl, rfl, chambers, rfl, rfl, fun _ _ => rfl, [], (List.append_nil _).symm⟩

section Writes

variable {s t : State} (reports : ReportsOnly s t)

include reports

theorem ReportsOnly.setChamber (c : Nat) {x y : Chamber} (same : x.sameLogic y) :
    ReportsOnly (s.setChamber c x) (t.setChamber c y) where
  pending := reports.pending
  ext := reports.ext
  scan := reports.scan
  engine := reports.engine
  claims := reports.claims
  pool := reports.pool
  router := reports.router
  sequencer := reports.sequencer
  expression := reports.expression
  chambers d := by
    simp only [chamber_setChamber]
    split
    · exact same
    · exact reports.chambers d
  port := reports.port
  status := reports.status
  flags := reports.flags
  outgoing := reports.outgoing

theorem ReportsOnly.setLatched (i : StatusItem) (b : Bool) : ReportsOnly (s.setLatched i b) (t.setLatched i b) where
  pending := reports.pending
  ext := reports.ext
  scan := reports.scan
  engine := reports.engine
  claims := reports.claims
  pool := reports.pool
  router := reports.router
  sequencer := reports.sequencer
  expression := reports.expression
  chambers := reports.chambers
  port := reports.port
  status := congrArg (fun status : Status => { status with latched := (t.setLatched i b).status.latched }) reports.status
  flags j other := by rw [latched_setLatched, latched_setLatched, reports.flags j other]
  outgoing := reports.outgoing

end Writes

/-- R165: an item latched where a value has changed. -/
theorem latch_where {i : StatusItem} (stateItem : isEvent i = false) {s t : State} (same : QuietlySame s t) (kept : Prop)
    [Decidable kept] : QuietlySame (s.latchedWhere i (decide ¬kept)) (if kept then t else latch i t) := by
  obtain ⟨reports, requests⟩ := same
  by_cases unchanged : kept
  · simp only [unchanged, not_true_eq_false, decide_false, if_true]
    exact ⟨reports, requests⟩
  · simp only [unchanged, not_false_eq_true, decide_true, if_false]
    exact QuietlySame.trans ⟨reports.setLatched i true, requests⟩ (latch_quietly stateItem t)

theorem QuietlySame.setChamber {s t : State} (same : QuietlySame s t) (c : Nat) {x y : Chamber} (logic : x.sameLogic y) :
    QuietlySame (s.setChamber c x) (t.setChamber c y) := by
  obtain ⟨reports, requests⟩ := same
  exact ⟨reports.setChamber c logic, requests⟩

theorem latchedWhere_chamber (s : State) (i : StatusItem) (b : Bool) (d : Nat) :
    (s.latchedWhere i b).chamber d = s.chamber d := by cases b <;> rfl

theorem latchedWhere_setChamber (s : State) (i : StatusItem) (b : Bool) (c : Nat) (x : Chamber) :
    (s.latchedWhere i b).setChamber c x = (s.setChamber c x).latchedWhere i b := by cases b <;> rfl

theorem latched_latchedWhere (s : State) (i j : StatusItem) (b : Bool) :
    (s.latchedWhere i b).latched j = (s.latched j || (b && decide (itemIndex j = itemIndex i))) := by
  cases b with
  | false => simp [State.latchedWhere]
  | true =>
    simp only [State.latchedWhere, if_true, latched_setLatched]
    by_cases own : itemIndex j = itemIndex i <;> simp [own]

theorem latchedWhere_quietly {s t : State} (same : QuietlySame s t) (i : StatusItem) (b : Bool) :
    QuietlySame (s.latchedWhere i b) (t.latchedWhere i b) := by
  obtain ⟨reports, requests⟩ := same
  cases b with
  | false => exact ⟨reports, requests⟩
  | true => exact ⟨reports.setLatched i true, requests⟩

/-- `s` with one chamber written and some items latched: what the rules say of an operation on a chamber. -/
def State.noted (s : State) (c : Nat) (ch : Chamber) (marks : List (StatusItem × Bool)) : State :=
  marks.foldl (fun u mark => u.latchedWhere mark.1 mark.2) (s.setChamber c ch)

theorem noted_snoc (s : State) (c : Nat) (ch : Chamber) (marks : List (StatusItem × Bool)) (i : StatusItem) (b : Bool) :
    s.noted c ch (marks ++ [(i, b)]) = (s.noted c ch marks).latchedWhere i b := by
  rw [State.noted, List.foldl_append]
  rfl

theorem noted_chamber (s : State) (c : Nat) (ch : Chamber) (marks : List (StatusItem × Bool)) (d : Nat) :
    (s.noted c ch marks).chamber d = if d = c then ch else s.chamber d := by
  induction marks using List.reverseRecOn with
  | nil => exact chamber_setChamber s c d ch
  | append_singleton rest mark ih => rw [noted_snoc, latchedWhere_chamber, ih]

theorem noted_setChamber (s : State) (c : Nat) (ch x : Chamber) (marks : List (StatusItem × Bool)) :
    QuietlySame (s.noted c x marks) ((s.noted c ch marks).setChamber c x) := by
  induction marks using List.reverseRecOn with
  | nil =>
    refine ⟨reportsOnly_of_chambers rfl fun d => ?_, rfl⟩
    simp only [chamber_setChamber, State.noted, List.foldl_nil]
    split
    · exact .refl _
    · exact .refl _
  | append_singleton rest mark ih =>
    rw [noted_snoc, noted_snoc, latchedWhere_setChamber]
    exact latchedWhere_quietly ih _ _

theorem noted_latched (s : State) (c : Nat) (ch : Chamber) (marks : List (StatusItem × Bool)) (i : StatusItem) :
    (s.noted c ch marks).latched i =
      (s.latched i || marks.any fun mark => mark.2 && decide (itemIndex i = itemIndex mark.1)) := by
  induction marks using List.reverseRecOn with
  | nil => exact (Bool.or_false _).symm
  | append_singleton rest mark ih =>
    rw [noted_snoc, latched_latchedWhere, ih, List.any_append, Bool.or_assoc]
    simp

theorem noted_units (s : State) (c : Nat) (ch : Chamber) (marks : List (StatusItem × Bool)) :
    (s.noted c ch marks).engine = s.engine ∧ (s.noted c ch marks).claims = s.claims ∧ (s.noted c ch marks).pool = s.pool ∧
      (s.noted c ch marks).router = s.router ∧ (s.noted c ch marks).sequencer = s.sequencer ∧
      (s.noted c ch marks).expression = s.expression ∧ (s.noted c ch marks).scan = s.scan := by
  induction marks using List.reverseRecOn with
  | nil => exact ⟨rfl, rfl, rfl, rfl, rfl, rfl, rfl⟩
  | append_singleton rest mark ih =>
    rw [noted_snoc]
    cases mark.2 with
    | false => exact ih
    | true => exact ih

theorem noted_nextImage (s : State) (c : Nat) (ch : Chamber) (marks : List (StatusItem × Bool)) (d g : Nat) :
    (s.noted c ch marks).nextImage d g = (s.setChamber c ch).nextImage d g := by
  induction marks using List.reverseRecOn with
  | nil => rfl
  | append_singleton rest mark ih =>
    rw [noted_snoc, ← ih]
    cases mark.2 with
    | false => rfl
    | true => rfl

/-! ### The operations on a chamber, apart from reports -/

section Operations

variable {s t : State} {c : Nat} {ch : Chamber} {marks : List (StatusItem × Bool)} (same : QuietlySame (s.noted c ch marks) t)

include same

theorem chamber_of_noted : ch.sameLogic (t.chamber c) := by
  have logic := same.1.chambers c
  rwa [noted_chamber, if_pos rfl] at logic

theorem write_noted {i : StatusItem} (stateItem : isEvent i = false) {x y : Chamber} (logic : x.sameLogic y) (kept : Prop)
    [Decidable kept] : QuietlySame (s.noted c x (marks ++ [(i, decide ¬kept)]))
      (if kept then t.setChamber c y else latch i (t.setChamber c y)) := by
  rw [noted_snoc]
  exact latch_where stateItem ((noted_setChamber s c ch x marks).trans (same.setChamber c logic)) kept

theorem setWind_noted (b : Bool) : QuietlySame (s.noted c { ch with windReady := b }
    (marks ++ [(.wind c, decide ¬b = ch.windReady)])) (setWind c b t) := by
  have logic := chamber_of_noted same
  rw [← logic.windReady]
  exact write_noted same rfl (by unfold Chamber.sameLogic at logic ⊢; rw [logic]) _

theorem setSupplyOk_noted (b : Bool) : QuietlySame (s.noted c { ch with supplyOk := b }
    (marks ++ [(.supply c, decide ¬b = ch.supplyOk)])) (setSupplyOk c b t) := by
  have logic := chamber_of_noted same
  rw [← logic.supplyOk]
  exact write_noted same rfl (by unfold Chamber.sameLogic at logic ⊢; rw [logic]) _

theorem setBoards_noted (b : BitVec 16) : QuietlySame (s.noted c { ch with boards := b }
    (marks ++ [(.driverFault c, decide ¬b = ch.boards)])) (setBoards c b t) := by
  have logic := chamber_of_noted same
  rw [← logic.boards]
  exact write_noted same rfl (by unfold Chamber.sameLogic at logic ⊢; rw [logic]) _

theorem changeChamber_noted {x y : Chamber} (logic : x.sameLogic y) :
    QuietlySame (s.noted c x (marks ++ [(.state c, decide ¬stateCode x.state = stateCode ch.state)]))
      (changeChamber c y t) := by
  have before := (chamber_of_noted same).state
  rw [← before, ← logic.state]
  exact write_noted same rfl logic _

/-- R139: entry to FAULT. -/
theorem enterFault_noted (sound : ch.state ≠ .fault) :
    QuietlySame (s.noted c { ch with state := .fault, supply := false, windTimer := none, settleTimer := none }
      (marks ++ [(.state c, true)])) (enterFault c t) := by
  have logic := chamber_of_noted same
  have changed : decide (¬stateCode ChamberState.fault = stateCode ch.state) = true := by
    cases given : ch.state with
    | fault => exact absurd given sound
    | dark | blower | settle | enabled | lowering phase => rfl
  have moved := changeChamber_noted same
    (x := { ch with state := .fault, supply := false, windTimer := none, settleTimer := none })
    (y := { (t.chamber c).setLines (t.chamber c).blower false with
      windTimer := none, settleTimer := none, state := .fault })
    (by unfold Chamber.sameLogic at logic ⊢; rw [logic]; rfl)
  rw [changed] at moved
  exact moved

/-- R138: BLOWER to SETTLE. -/
theorem enterSettle_noted (blower : ch.state = .blower) :
    QuietlySame (s.noted c { ch with state := .settle, supply := true, windTimer := none, settleTimer := some ch.settle }
      (marks ++ [(.state c, true)])) (enterSettle c t) := by
  have logic := chamber_of_noted same
  have changed : decide (¬stateCode ChamberState.settle = stateCode ch.state) = true := by rw [blower]; rfl
  have moved := changeChamber_noted same
    (x := { ch with state := .settle, supply := true, windTimer := none, settleTimer := some ch.settle })
    (y := { (t.chamber c).setLines (t.chamber c).blower true with
      state := .settle, windTimer := none, settleTimer := some (t.chamber c).settle })
    (by unfold Chamber.sameLogic at logic ⊢; rw [logic]; rfl)
  rw [changed] at moved
  exact moved

/-- R141: the loss of the link of a chamber that is coming up or ENABLED. -/
theorem failIfUp_noted :
    QuietlySame (s.noted c { ch with
        state := if ch.isUp then .fault else ch.state
        supply := if ch.isUp then false else ch.supply
        windTimer := if ch.isUp then none else ch.windTimer
        settleTimer := if ch.isUp then none else ch.settleTimer }
      (marks ++ [(.state c, ch.isUp)])) (failIfUp c t) := by
  have state := (chamber_of_noted same).state
  by_cases up : ch.isUp = true
  · have moves : failIfUp c t = enterFault c t := by
      rcases of_decide_eq_true up with is | is | is <;> simp only [failIfUp, state, is]
    rw [moves, up]
    exact enterFault_noted same fun fault => by simp [Chamber.isUp, fault] at up
  · have stays : failIfUp c t = t := by
      rw [failIfUp, state]
      cases given : ch.state with
      | dark | fault | lowering phase => rfl
      | blower | settle | enabled => exact absurd (by simp [Chamber.isUp, given]) up
    rw [stays, Bool.eq_false_iff.2 up, noted_snoc]
    exact same

end Operations

/-- A chamber written, with nothing latched yet. -/
theorem noted_refl (s : State) (c : Nat) (ch : Chamber) : QuietlySame (s.noted c ch []) (s.setChamber c ch) := .refl _

theorem noted_start (s : State) (c : Nat) : QuietlySame (s.noted c (s.chamber c) []) s := by
  refine ⟨reportsOnly_of_chambers rfl fun d => ?_, rfl⟩
  rw [noted_chamber]
  split
  · next own => rw [own]; exact .refl _
  · exact .refl _

/-- R144: the choice of a chamber's transmitter at the end of the command. -/
theorem noted_chooses {s t v : State} {c : Nat} {ch x : Chamber} {marks : List (StatusItem × Bool)} (inRange : c < 4)
    (same : QuietlySame (s.noted c ch marks) v) (written : v.chamber c = x) (logic : ch.sameLogic x) :
    Chooses c (s.setChamber c x) (conclude t v) := by
  refine (conclude_chooses inRange t v).congr (written.trans (chamber_setChamber_same s c x).symm) (fun g => ?_) rfl
  rw [nextImage_of_reports same.1, noted_nextImage]
  exact (nextImage_of_reports (setChamber_reportsOnly_of_sameLogic s c logic) c g).symm

/-! ### Timers (R138, R139, R141) -/

/-- The items of one chamber have different flags. -/
theorem chamberItems_apart (c : Nat) :
    itemIndex (.wind c) ≠ itemIndex (.supply c) ∧ itemIndex (.wind c) ≠ itemIndex (.driverFault c) ∧
      itemIndex (.wind c) ≠ itemIndex (.state c) ∧ itemIndex (.supply c) ≠ itemIndex (.driverFault c) ∧
      itemIndex (.supply c) ≠ itemIndex (.state c) ∧ itemIndex (.driverFault c) ≠ itemIndex (.state c) := by
  simp only [itemIndex, itemNumber]
  omega

theorem chamberLinkExpires_noted {s : State} {c : Nat} (running : (s.chamber c).linkTimer.isSome = true) :
    QuietlySame (s.noted c { s.chamber c with
        present := false, linkTimer := none, windReady := false, supplyOk := false,
        state := if (s.chamber c).isUp then .fault else (s.chamber c).state,
        supply := if (s.chamber c).isUp then false else (s.chamber c).supply,
        windTimer := if (s.chamber c).isUp then none else (s.chamber c).windTimer,
        settleTimer := if (s.chamber c).isUp then none else (s.chamber c).settleTimer }
      [(.wind c, (s.chamber c).windReady), (.supply c, (s.chamber c).supplyOk), (.state c, (s.chamber c).isUp)])
      (chamberLinkExpires c s) := by
  have lost : chamberLinkExpires c s = failIfUp c (setSupplyOk c false (setWind c false
      (s.setChamber c { s.chamber c with present := false, linkTimer := none }))) :=
    if_neg (by rw [Option.isNone_iff_eq_none]; exact Option.isSome_iff_ne_none.1 running)
  have falls : ∀ b : Bool, decide (¬false = b) = b := by decide
  have quiet := failIfUp_noted (setSupplyOk_noted (setWind_noted
    (noted_refl s c { s.chamber c with present := false, linkTimer := none }) false) false)
  rw [falls, falls, ← lost] at quiet
  exact quiet

/-- Settles O50: each expiry is followed through its writes, and the three flags are read off the items noted. -/
theorem chamberTimersExpire : Obligations.ChamberTimersExpire := by
  intro s c
  refine ⟨fun running blower => ?_, fun running settles => ⟨_, rfl, fun ok => ?_, fun lost => ?_⟩, fun running => ?_⟩
  · have moves : windExpires c s = enterFault c s := if_pos ⟨running, blower⟩
    refine ⟨_, rfl, ?_⟩
    rw [moves]
    exact (enterFault_noted (noted_start s c) (by simp [blower])).conclude s
  · have moves : settleExpires c s = changeChamber c { s.chamber c with state := .enabled, settleTimer := none } s :=
      (if_pos ⟨running, settles⟩).trans (if_pos ok)
    have quiet := changeChamber_noted (noted_start s c)
      (x := { s.chamber c with state := .enabled, settleTimer := none }) (.refl _)
    have changed : decide (¬stateCode ChamberState.enabled = stateCode (s.chamber c).state) = true := by rw [settles]; rfl
    rw [changed] at quiet
    rw [moves]
    exact quiet.conclude s
  · have moves : settleExpires c s = enterFault c s :=
      (if_pos ⟨running, settles⟩).trans (if_neg (by rw [lost]; decide))
    rw [moves]
    exact (enterFault_noted (noted_start s c) (by simp [settles])).conclude s
  · have quiet := (chamberLinkExpires_noted running).conclude s
    obtain ⟨engine, claims, pool, -⟩ := noted_units s c { s.chamber c with
        present := false, linkTimer := none, windReady := false, supplyOk := false,
        state := if (s.chamber c).isUp then .fault else (s.chamber c).state,
        supply := if (s.chamber c).isUp then false else (s.chamber c).supply,
        windTimer := if (s.chamber c).isUp then none else (s.chamber c).windTimer,
        settleTimer := if (s.chamber c).isUp then none else (s.chamber c).settleTimer }
      [(.wind c, (s.chamber c).windReady), (.supply c, (s.chamber c).supplyOk), (.state c, (s.chamber c).isUp)]
    have logic := chamber_of_noted quiet
    obtain ⟨windSupply, -, windState, -, supplyState, -⟩ := chamberItems_apart c
    have flags : ∀ i, i ≠ .returnOverrun → (conclude s (chamberLinkExpires c s)).latched i = _ := fun i other =>
      (quiet.1.flags i other).trans (noted_latched ..)
    refine ⟨_, rfl, quiet, ?_, ?_, ?_, logic.blower, logic.present, logic.linkTimer, logic.windReady, logic.supplyOk,
      logic.boards, logic.state.trans ?_, fun d other => ?_, quiet.1.claims.trans claims, quiet.1.pool.trans pool⟩
    · rw [flags (.wind c) nofun]
      simp [windSupply, windState, Bool.or_comm]
    · rw [flags (.supply c) nofun]
      simp [windSupply.symm, supplyState, Bool.or_comm]
    · rw [flags (.state c) nofun]
      simp [windState.symm, supplyState.symm, Bool.or_comm]
    · simp only [Chamber.isUp, decide_eq_true_eq]
    · have same := quiet.1.chambers d
      rwa [noted_chamber, if_neg other] at same

/-! ### The phases of a lowering (R140) -/

/-- The release of the lines at the end of the drain, and the transmitter's choice after it. -/
theorem drainExpires_releases {s : State} {c : Nat} (inRange : c < 4) (running : (s.chamber c).drainTimer.isSome = true)
    (draining : (s.chamber c).state = .lowering .draining) (on : (s.chamber c).supply = true) :
    QuietlySame (s.setChamber c { s.chamber c with
        state := .lowering .releasing, supply := false, drainTimer := none }) (conclude s (drainExpires c s)) ∧
      Chooses c (s.setChamber c { s.chamber c with
        state := .lowering .releasing, supply := false, drainTimer := none, controlDue := true })
        (conclude s (drainExpires c s)) := by
  have moves : drainExpires c s = changeChamber c { s.chamber c with
      state := .lowering .releasing, supply := false, drainTimer := none, controlDue := true }
      (s.setChamber c { s.chamber c with drainTimer := none }) := by
    refine ((if_pos ⟨running, draining⟩).trans (if_pos on)).trans ?_
    simp [chamber_setChamber_same, Chamber.setLines, on]
  have quiet := changeChamber_noted (noted_refl s c { s.chamber c with drainTimer := none })
    (x := { s.chamber c with state := .lowering .releasing, supply := false, drainTimer := none })
    (y := { s.chamber c with state := .lowering .releasing, supply := false, drainTimer := none, controlDue := true }) rfl
  have unchanged : decide (¬stateCode (.lowering .releasing) = stateCode (s.chamber c).state) = false := by
    rw [draining]; rfl
  rw [unchanged] at quiet
  rw [moves]
  exact ⟨quiet.conclude s, noted_chooses inRange quiet ((changeChamber_chamber ..).trans (if_pos rfl)) rfl⟩

/-- The end of a lowering, from a chamber with one thing written, and the transmitter's choice after it. -/
theorem enterDark_ends {s : State} {c : Nat} (inRange : c < 4) {ch : Chamber} {phase : LowerPhase}
    (lowering : ch.state = .lowering phase) :
    QuietlySame ((s.setChamber c { ch with state := .dark, blower := false }).setLatched (.state c) true)
        (conclude s (enterDark c (s.setChamber c ch))) ∧
      Chooses c (s.setChamber c { ch with state := .dark, blower := false, controlDue := ch.controlDue || ch.blower })
        (conclude s (enterDark c (s.setChamber c ch))) := by
  have moves : enterDark c (s.setChamber c ch) = changeChamber c { ch with
      state := .dark, blower := false, controlDue := ch.controlDue || ch.blower } (s.setChamber c ch) := by
    rw [enterDark, chamber_setChamber_same]
    cases given : ch.blower <;> simp [Chamber.setLines, given]
  have quiet := changeChamber_noted (noted_refl s c ch) (x := { ch with state := .dark, blower := false })
    (y := { ch with state := .dark, blower := false, controlDue := ch.controlDue || ch.blower }) rfl
  have changed : decide (¬stateCode .dark = stateCode ch.state) = true := by rw [lowering]; rfl
  rw [changed] at quiet
  rw [moves]
  exact ⟨quiet.conclude s, noted_chooses inRange quiet ((changeChamber_chamber ..).trans (if_pos rfl)) rfl⟩

/-- A frame sent in full and nothing more: its transmitter is free, and chooses. -/
theorem freed_chooses {s : State} {c : Nat} (inRange : c < 4) :
    QuietlySame s (conclude s (s.setChamber c { s.chamber c with tx := .free })) ∧
      Chooses c (s.setChamber c { s.chamber c with tx := .free })
        (conclude s (s.setChamber c { s.chamber c with tx := .free })) :=
  ⟨QuietlySame.conclude ⟨setChamber_reportsOnly s c { s.chamber c with tx := .free } rfl, rfl⟩ s, conclude_chooses inRange s _⟩

theorem noneForced_iff (ch : Chamber) : ch.noneForced = true ↔ ∀ g, g < 16 → (ch.group g).forced = false := by
  simp [Chamber.noneForced]

theorem driveEnds_eq {s : State} {c g : Nat} {image : Image} (sent : (s.chamber c).tx = .drive g image) :
    driveEnds c s = endClearing c (s.setChamber c { s.chamber c with tx := .free }) := by
  simp only [driveEnds, sent]

/-- The end of CLEARING, and the transmitter's choice after it. -/
theorem endClearing_drains {s : State} {c : Nat} (inRange : c < 4) (clearing : (s.chamber c).state = .lowering .clearing)
    (cleared : (s.chamber c).noneForced = true) :
    QuietlySame (s.setChamber c { s.chamber c with state := .lowering .draining, drainTimer := some 200 })
        (conclude s (endClearing c (s.setChamber c { s.chamber c with tx := .free }))) ∧
      Chooses c (s.setChamber c { s.chamber c with state := .lowering .draining, drainTimer := some 200, tx := .free })
        (conclude s (endClearing c (s.setChamber c { s.chamber c with tx := .free }))) := by
  have moves : endClearing c (s.setChamber c { s.chamber c with tx := .free }) = changeChamber c { s.chamber c with
      state := .lowering .draining, drainTimer := some 200, tx := .free } (s.setChamber c { s.chamber c with tx := .free }) := by
    simp only [endClearing, chamber_setChamber_same]
    exact if_pos ⟨clearing, cleared⟩
  have quiet := changeChamber_noted (noted_refl s c { s.chamber c with tx := .free })
    (x := { s.chamber c with state := .lowering .draining, drainTimer := some 200 })
    (y := { s.chamber c with state := .lowering .draining, drainTimer := some 200, tx := .free }) rfl
  have unchanged : decide (¬stateCode (.lowering .draining) = stateCode (s.chamber c).state) = false := by
    rw [clearing]; rfl
  rw [unchanged] at quiet
  rw [moves]
  exact ⟨quiet.conclude s, noted_chooses inRange quiet ((changeChamber_chamber ..).trans (if_pos rfl)) rfl⟩

theorem endClearing_other {s : State} {c : Nat}
    (other : ¬((s.chamber c).state = .lowering .clearing ∧ (s.chamber c).noneForced = true)) :
    endClearing c (s.setChamber c { s.chamber c with tx := .free }) = s.setChamber c { s.chamber c with tx := .free } := by
  simp only [endClearing, chamber_setChamber_same]
  exact if_neg other

/-- Settles O51: each phase's end is a change of the chamber, after which its transmitter chooses. -/
theorem loweringPhasesFollowFrames : Obligations.LoweringPhasesFollowFrames := by
  intro s c
  refine ⟨fun running draining => ⟨_, rfl, drainExpires_releases c.isLt running draining, fun off => ?_⟩,
    fun blower supply sent => ⟨_, rfl, fun releasing carried => ?_, fun other => ?_⟩,
    fun g image sent => ⟨_, rfl, fun clearing cleared => ?_, fun other => ?_, fun due => ?_⟩⟩
  · have moves : drainExpires c s = enterDark c (s.setChamber c { s.chamber c with drainTimer := none }) :=
      (if_pos ⟨running, draining⟩).trans (if_neg (by rw [off]; decide))
    rw [moves]
    exact enterDark_ends c.isLt (ch := { s.chamber c with drainTimer := none }) draining
  · have moves : controlEnds c s = enterDark c (s.setChamber c { s.chamber c with tx := .free }) := by
      simp only [controlEnds, sent]
      exact if_pos ⟨releasing, by rw [carried]; rfl⟩
    rw [moves]
    obtain ⟨⟨reports, requests⟩, chooses⟩ := enterDark_ends c.isLt (s := s)
      (ch := { s.chamber c with tx := .free }) releasing
    have dark : QuietlySame ((s.setChamber c { s.chamber c with state := .dark, blower := false }).setLatched (.state c) true)
        ((s.setChamber c { s.chamber c with tx := .free, state := .dark, blower := false }).setLatched (.state c) true) :=
      ⟨(setChamber_reportsOnly_of_sameLogic s c (x := { s.chamber c with state := .dark, blower := false })
        (y := { s.chamber c with tx := .free, state := .dark, blower := false }) rfl).setLatched _ _, rfl⟩
    exact ⟨dark.trans ⟨reports, requests⟩, chooses⟩
  · have moves : controlEnds c s = s.setChamber c { s.chamber c with tx := .free } := by
      simp only [controlEnds, sent]
      refine if_neg fun ⟨releasing, off⟩ => ?_
      rcases other with elsewhere | on
      · exact elsewhere releasing
      · simp [on] at off
    rw [moves]
    exact freed_chooses c.isLt
  · rw [driveEnds_eq sent]
    exact endClearing_drains c.isLt clearing ((noneForced_iff _).2 cleared)
  · have still : ¬((s.chamber c).state = .lowering .clearing ∧ (s.chamber c).noneForced = true) := by
      rintro ⟨clearing, cleared⟩
      rcases other with elsewhere | ⟨h, inRange, forced⟩
      · exact elsewhere clearing
      · rw [(noneForced_iff _).1 cleared h inRange] at forced
        exact absurd forced (by decide)
    rw [driveEnds_eq sent, endClearing_other still]
    exact freed_chooses c.isLt
  · have takes : ∀ (x : Chamber) (t : State), Chooses c (s.setChamber c x) t → x.tx = .free →
        x.controlDue = true → x.blower = (s.chamber c).blower → x.supply = (s.chamber c).supply →
        (t.chamber c).tx = .control (s.chamber c).blower (s.chamber c).supply ∧ (t.chamber c).controlAge = 0 ∧
          (t.chamber c).controlDue = false := by
      intro x t chooses free pends blower supply
      have sent := chooses.control (by rw [chamber_setChamber_same, free])
        (.inl (by rw [chamber_setChamber_same, pends]))
      rw [chamber_setChamber_same] at sent
      rw [sent, blower, supply]
      exact ⟨rfl, rfl, rfl⟩
    rw [driveEnds_eq sent]
    by_cases ends : (s.chamber c).state = .lowering .clearing ∧ (s.chamber c).noneForced = true
    · obtain ⟨clearing, cleared⟩ := ends
      exact takes _ _ (endClearing_drains c.isLt clearing cleared).2 rfl due rfl rfl
    · rw [endClearing_other ends]
      exact takes _ _ (freed_chooses c.isLt).2 rfl due rfl rfl

/-! ### The CHSTATUS frame (R138, R141) -/

/-- The reaction of the chamber state to a CHSTATUS frame: it settles, fails, or stands. -/
theorem reactToStatus_noted {s t : State} {c : Nat} {ch : Chamber} {marks : List (StatusItem × Bool)}
    (same : QuietlySame (s.noted c ch marks) t) (wind supply : Bool) :
    (ch.state = .blower → wind = true → QuietlySame (s.noted c { ch with
        state := .settle, supply := true, windTimer := none, settleTimer := some ch.settle } (marks ++ [(.state c, true)]))
      (reactToStatus c wind supply t)) ∧
    ((ch.state = .settle ∧ wind = false) ∨ (ch.state = .enabled ∧ (wind = false ∨ supply = false)) →
      QuietlySame (s.noted c { ch with state := .fault, supply := false, windTimer := none, settleTimer := none }
        (marks ++ [(.state c, true)])) (reactToStatus c wind supply t)) ∧
    (¬(ch.state = .blower ∧ wind = true) → ¬(ch.state = .settle ∧ wind = false) →
      ¬(ch.state = .enabled ∧ (wind = false ∨ supply = false)) → reactToStatus c wind supply t = t) := by
  have state := (chamber_of_noted same).state
  refine ⟨fun blower ready => ?_, fun fails => ?_, fun rises settles fails => ?_⟩
  · have moves : reactToStatus c wind supply t = enterSettle c t := by simp only [reactToStatus, state, blower, ready, if_true]
    rw [moves]
    exact enterSettle_noted same blower
  · have moves : reactToStatus c wind supply t = enterFault c t := by
      rcases fails with ⟨settles, lost⟩ | ⟨enabled, lost | lost⟩
      · simp only [reactToStatus, state, settles, lost, Bool.false_eq_true, if_false]
      · simp only [reactToStatus, state, enabled, lost, Bool.false_and, Bool.false_eq_true, if_false]
      · simp only [reactToStatus, state, enabled, lost, Bool.and_false, Bool.false_eq_true, if_false]
    rw [moves]
    refine enterFault_noted same fun fault => ?_
    simp [fault] at fails
  · rw [reactToStatus, state]
    cases given : ch.state with
    | blower => exact if_neg fun ready => rises ⟨given, ready⟩
    | settle => exact if_pos (Bool.of_not_eq_false fun lost => settles ⟨given, lost⟩)
    | enabled =>
      refine if_pos (Bool.and_eq_true_iff.2 ⟨?_, ?_⟩)
      · exact Bool.of_not_eq_false fun lost => fails ⟨given, .inl lost⟩
      · exact Bool.of_not_eq_false fun lost => fails ⟨given, .inr lost⟩
    | dark | lowering phase | fault => rfl

/-- What a CHSTATUS frame writes of its chamber, and the items it notes: `moved` says whether the state has changed. -/
structure StatusTaken (old : Chamber) (wind supply : Bool) (boards : BitVec 16) (x : Chamber) (moved : Bool) : Prop where
  present : x.present = true
  linkTimer : x.linkTimer = some 100
  windReady : x.windReady = wind
  supplyOk : x.supplyOk = supply
  boards : x.boards = boards
  settles : old.state = .blower → wind = true → x.state = .settle ∧ x.supply = true ∧ x.windTimer = none ∧
    x.settleTimer = some old.settle ∧ moved = true
  fails : (old.state = .settle ∧ wind = false) ∨ (old.state = .enabled ∧ (wind = false ∨ supply = false)) →
    x.state = .fault ∧ x.supply = false ∧ x.settleTimer = none ∧ moved = true
  stands : ¬(old.state = .blower ∧ wind = true) → ¬(old.state = .settle ∧ wind = false) →
    ¬(old.state = .enabled ∧ (wind = false ∨ supply = false)) →
    x.state = old.state ∧ x.supply = old.supply ∧ moved = false
  blower : x.blower = old.blower

/-- R141: the chamber with its link renewed and the values of a CHSTATUS frame held. -/
def Chamber.heard (ch : Chamber) (wind supply : Bool) (boards : BitVec 16) : Chamber :=
  { ch with present := true, linkTimer := some 100, windReady := wind, supplyOk := supply, boards := boards }

theorem heard_noted (s : State) (c : Nat) (wind supply : Bool) (boards : BitVec 16) :
    QuietlySame (s.noted c ((s.chamber c).heard wind supply boards) [(.wind c, decide ¬wind = (s.chamber c).windReady),
        (.supply c, decide ¬supply = (s.chamber c).supplyOk), (.driverFault c, decide ¬boards = (s.chamber c).boards)])
      (setBoards c boards (setSupplyOk c supply (setWind c wind (renewChamberLink c s)))) :=
  setBoards_noted (setSupplyOk_noted (setWind_noted
    (noted_refl s c { s.chamber c with present := true, linkTimer := some Config.chamberLinkTime }) wind) supply) boards

theorem takeStatus_noted (s : State) (c : Nat) (wind supply : Bool) (boards : BitVec 16) :
    ∃ x moved, StatusTaken (s.chamber c) wind supply boards x moved ∧
      QuietlySame (s.noted c x [(.wind c, decide ¬wind = (s.chamber c).windReady),
        (.supply c, decide ¬supply = (s.chamber c).supplyOk), (.driverFault c, decide ¬boards = (s.chamber c).boards),
        (.state c, moved)]) (takeStatus c wind supply boards s) := by
  have quiet := heard_noted s c wind supply boards
  obtain ⟨settles, fails, stands⟩ := reactToStatus_noted quiet wind supply
  by_cases rises : (s.chamber c).state = .blower ∧ wind = true
  · obtain ⟨blower, ready⟩ := rises
    refine ⟨_, true, ?_, settles blower ready⟩
    refine ⟨rfl, rfl, rfl, rfl, rfl, fun _ _ => ⟨rfl, rfl, rfl, rfl, rfl⟩, fun lost => ?_, fun other => ?_, rfl⟩
    · simp [blower] at lost
    · exact absurd ⟨blower, ready⟩ other
  · by_cases lost : ((s.chamber c).state = .settle ∧ wind = false) ∨
        ((s.chamber c).state = .enabled ∧ (wind = false ∨ supply = false))
    · refine ⟨_, true, ?_, fails lost⟩
      refine ⟨rfl, rfl, rfl, rfl, rfl, fun blower ready => ?_, fun _ => ⟨rfl, rfl, rfl, rfl⟩, fun _ settled enabled => ?_, rfl⟩
      · exact absurd ⟨blower, ready⟩ rises
      · exact absurd lost (not_or.2 ⟨settled, enabled⟩)
    · obtain ⟨settled, enabled⟩ := not_or.1 lost
      have still : takeStatus c wind supply boards s = _ := stands rises settled enabled
      rw [still]
      refine ⟨_, false, ?_, quiet⟩
      refine ⟨rfl, rfl, rfl, rfl, rfl, fun blower ready => ?_, fun failed => ?_, fun _ _ _ => ⟨rfl, rfl, rfl⟩, rfl⟩
      · exact absurd ⟨blower, ready⟩ rises
      · exact absurd failed lost

/-- Settles O49: the frame's values are written and noted in turn, and then the state reacts. -/
theorem chamberStatusDrivesState : Obligations.ChamberStatusDrivesState := by
  intro s c wind supply boards
  obtain ⟨x, moved, taken, quiet⟩ := takeStatus_noted s c wind supply boards
  obtain ⟨engine, claims, pool, router, sequencer, expression, scan⟩ := noted_units s c x
    [(.wind c, decide ¬wind = (s.chamber c).windReady), (.supply c, decide ¬supply = (s.chamber c).supplyOk),
      (.driverFault c, decide ¬boards = (s.chamber c).boards), (.state c, moved)]
  obtain ⟨windSupply, windBoards, windState, supplyBoards, supplyState, boardsState⟩ := chamberItems_apart c
  have flags : ∀ i, i ≠ .returnOverrun → (conclude s (takeStatus c wind supply boards s)).latched i = _ := fun i other =>
    ((quiet.conclude s).1.flags i other).trans (noted_latched ..)
  obtain ⟨reports, -⟩ := quiet.conclude s
  have logic := chamber_of_noted (quiet.conclude s)
  have stateFlag : (conclude s (takeStatus c wind supply boards s)).latched (.state c) = (s.latched (.state c) || moved) := by
    rw [flags (.state c) nofun]
    simp [windState.symm, supplyState.symm, boardsState.symm]
  refine ⟨_, rfl, logic.present.trans taken.present, logic.linkTimer.trans taken.linkTimer,
    logic.windReady.trans taken.windReady, logic.supplyOk.trans taken.supplyOk, logic.boards.trans taken.boards,
    ?_, ?_, ?_, fun blower ready => ?_, fun failed => ?_, fun rises settled enabled => ?_, logic.blower.trans taken.blower,
    fun d other => ?_, reports.engine.trans engine, reports.claims.trans claims, reports.pool.trans pool,
    reports.router.trans router, reports.sequencer.trans sequencer, reports.expression.trans expression,
    reports.scan.trans scan⟩
  · rw [flags (.wind c) nofun]
    simp [windSupply, windBoards, windState]
  · rw [flags (.supply c) nofun]
    simp [windSupply.symm, supplyBoards, supplyState]
  · rw [flags (.driverFault c) nofun]
    simp [windBoards.symm, supplyBoards.symm, boardsState]
  · obtain ⟨state, on, windTimer, settleTimer, changed⟩ := taken.settles blower ready
    exact ⟨logic.state.trans state, logic.supply.trans on, logic.windTimer.trans windTimer,
      logic.settleTimer.trans settleTimer, by rw [stateFlag, changed, Bool.or_true]⟩
  · obtain ⟨state, off, settleTimer, changed⟩ := taken.fails failed
    exact ⟨logic.state.trans state, logic.supply.trans off, logic.settleTimer.trans settleTimer,
      by rw [stateFlag, changed, Bool.or_true]⟩
  · obtain ⟨state, line, unchanged⟩ := taken.stands rises settled enabled
    exact ⟨logic.state.trans state, logic.supply.trans line, by rw [stateFlag, unchanged, Bool.or_false]⟩
  · have same := reports.chambers d
    rwa [noted_chamber, if_neg other] at same

end Sys2Proof.Machine
end

section
/-! PROOF. Players: what a step's actions do to a hold set, a step timer's expiry, and the start of a delivery (R112 to
R116). -/

namespace Sys2Proof.Machine

/-! ### Frames of a player's actions -/

section Touched

variable {A : List Part} {s t : State} (touched : Touches A s t)

include touched

theorem notePoint_of_touches (rank : Nat) (note : Int) : t.notePoint rank note = s.notePoint rank note := by
  unfold State.notePoint
  rw [rank_of_touches touched]

theorem isStruck_of_touches (p : Point) : t.isStruck p = s.isStruck p := by
  unfold State.isStruck
  rw [rankOf_of_touches touched]
  cases s.rankOf p with
  | none => rfl
  | some r => simp only [rank_of_touches touched]

theorem heldAfterAction_of_touches (holds : List Point) (a : Action) :
    heldAfterAction t holds a = heldAfterAction s holds a := by
  unfold heldAfterAction
  rw [notePoint_of_touches touched]

theorem heldAfter_of_touches (actions : List Action) (holds : List Point) :
    heldAfter t actions holds = heldAfter s actions holds := by
  unfold heldAfter
  rw [show heldAfterAction t = heldAfterAction s from
    funext fun holds => funext fun a => heldAfterAction_of_touches touched holds a]

theorem heldOverflow_of_touches (actions : List Action) (holds : List Point) :
    heldOverflow t actions holds = heldOverflow s actions holds := by
  induction actions generalizing holds with
  | nil => rfl
  | cons a rest ih => rw [heldOverflow, heldOverflow, notePoint_of_touches touched, heldAfterAction_of_touches touched, ih]

theorem strikesOnly_of_touches (demand : .demand ∉ A) (generator : .generator ∉ A) (tremDemand : .tremDemand ∉ A)
    (waiting : .waiting ∉ A) : t.pool = { s.pool with strikes := t.pool.strikes } := by
  have demands := touched.demand demand
  have generators := touched.generators generator
  have tremulants := touched.tremulants
  have tremDemands := touched.tremDemand tremDemand
  have waits := touched.waiting waiting
  revert demands generators tremulants tremDemands waits
  obtain ⟨_, _, _, _, _, _⟩ := t.pool
  rintro rfl rfl rfl rfl rfl
  rfl

theorem stepRecord_of_touches (i : Nat) : t.stepRecord i = s.stepRecord i := by
  unfold State.stepRecord
  rw [touched.memory]

theorem seqEntry_of_touches (q : Nat) : t.seqEntry q = s.seqEntry q := by
  unfold State.seqEntry
  rw [touched.directory]

theorem firstHolds_of_touches (q : Nat) : firstHolds t q = firstHolds s q := by
  unfold firstHolds
  rw [seqEntry_of_touches touched]
  cases (s.seqEntry q).first with
  | none => rfl
  | some i => simp only [stepRecord_of_touches touched, heldAfter_of_touches touched]

end Touched

theorem player_setPlayer (n m : Nat) (x : Option Run) (s : State) :
    (s.setPlayer n x).player m = if m = n then x else s.player m := Table.get_put _ _ _ _ _

/-! ### Strike timers that stay running -/

/-- No strike timer that ran in `s` has stopped in `t`. -/
def StrikesLast (s t : State) : Prop := ∀ p, (s.strikeTimer p).isSome = true → (t.strikeTimer p).isSome = true

theorem StrikesLast.trans {s t u : State} (first : StrikesLast s t) (later : StrikesLast t u) : StrikesLast s u :=
  fun p runs => later p (first p runs)

theorem StrikesLast.of_touches {A : List Part} {s t : State} (touched : Touches A s t) (strike : .strike ∉ A) :
    StrikesLast s t := by
  intro p runs
  unfold State.strikeTimer
  rwa [touched.strikes strike]

theorem strike_lasts (p : Point) (s : State) : StrikesLast s (strike p s) := by
  intro q runs
  obtain ⟨-, still⟩ | ⟨r, -, -, ⟨-, still⟩ | ⟨-, started⟩⟩ := strike_cases p s
  · rwa [still]
  · rwa [still]
  · rw [started, strikeTimer_setStrikeTimer]
    split
    · rfl
    · exact runs

theorem strike_handed (p : Point) (s : State) (struck : s.isStruck p = true) :
    (s.servedBy (.struck p)).isSome ∨ ((strike p s).strikeTimer p).isSome := by
  obtain ⟨unstruck, -⟩ | ⟨r, -, -, ⟨absorbed, still⟩ | ⟨-, started⟩⟩ := strike_cases p s
  · rw [unstruck] at struck
    exact absurd struck (by decide)
  · rw [still]
    exact absorbed
  · rw [started, strikeTimer_setStrikeTimer, if_pos rfl]
    exact .inr rfl

/-! ### The actions of a step (R113) -/

/-- R113: player `n`, playing `run`, has applied a list of actions. -/
structure ActionsTaken (n : Nat) (run : Run) (actions : List Action) (s t : State) : Prop where
  touched : Touches playerParts s t
  player : t.player n = some { run with holds := heldAfter s actions run.holds }
  others : ∀ m, m ≠ n → t.player m = s.player m
  claims : run.holds.Nodup → ∀ p : Point, occurrences p run.holds ≤ s.claimCount p →
    t.claimCount p + occurrences p run.holds = s.claimCount p + occurrences p (heldAfter s actions run.holds)
  full : t.latched .seqHoldFull = (s.latched .seqHoldFull || heldOverflow s actions run.holds)
  strikes : StepStrikes actions s t
  lasts : StrikesLast s t

theorem occurrences_filter {p : Point} {holds : List Point} (mem : p ∈ holds) (once : holds.Nodup) (q : Point) :
    occurrences q holds = occurrences q (holds.filter fun x => x ≠ p) + if p.index = q.index then 1 else 0 := by
  have same : (holds.filter fun x => x ≠ p) = holds.erase p := by
    rw [once.erase_eq_filter]
    congr 1
    funext x
    by_cases own : x = p <;> simp [own]
  rw [same, ← occurrences_cons]
  exact (List.perm_cons_erase mem).countP_eq _

theorem heldAfterAction_nodup {s : State} {holds : List Point} {a : Action} (once : holds.Nodup) :
    (heldAfterAction s holds a).Nodup := by
  unfold heldAfterAction
  cases a.kind with
  | strike => exact once
  | holdOn =>
    dsimp only
    split
    · exact once
    · next free =>
      exact once.append (List.nodup_singleton _) (List.disjoint_singleton.2 (not_or.1 free).1)
  | holdOff => exact once.filter _

theorem stepStrikes_of_other {a : Action} (other : a.kind ≠ .strike) (s t : State) : StepStrikes [a] s t :=
  fun _ mem kind => absurd ((List.mem_singleton.1 mem) ▸ kind) other

section Action

variable {n : Nat} {run : Run} {s : State} {a : Action} (playing : s.player n = some run)

/-- An action that changes the hold set, and with it one claim. -/
theorem ActionsTaken.held {t : State} {holds : List Point} (same : heldAfterAction s run.holds a = holds)
    (touched : Touches claimParts (s.setPlayer n (some { run with holds := holds })) t)
    (all : Touches playerParts s t)
    (claims : run.holds.Nodup → ∀ p : Point, occurrences p run.holds ≤ s.claimCount p →
      t.claimCount p + occurrences p run.holds = s.claimCount p + occurrences p holds)
    (fits : heldOverflow s [a] run.holds = false) (strikes : StepStrikes [a] s t) : ActionsTaken n run [a] s t where
  touched := all
  player := by
    rw [player_of_touches touched (by decide), player_setPlayer, if_pos rfl]
    exact congrArg (fun holds => some { run with holds := holds }) same.symm
  others m other := by rw [player_of_touches touched (by decide), player_setPlayer, if_neg other]
  claims := by
    have held : heldAfter s [a] run.holds = holds := same
    rwa [held]
  full := by
    rw [fits, Bool.or_false]
    exact touched.latched_same (by decide) (by decide)
  strikes := strikes
  lasts := StrikesLast.of_touches (s := s.setPlayer n (some { run with holds := holds })) touched (by decide)

include playing

/-- An action that changes no hold. -/
theorem ActionsTaken.unheld {t : State} {A : List Part} (touched : Touches A s t) (sub : A ⊆ playerParts)
    (player : .player ∉ A) (count : .count ∉ A) (same : heldAfterAction s run.holds a = run.holds)
    (full : t.latched .seqHoldFull = (s.latched .seqHoldFull || heldOverflow s [a] run.holds))
    (strikes : StepStrikes [a] s t) (lasts : StrikesLast s t) : ActionsTaken n run [a] s t where
  touched := touched.mono sub
  player := by
    rw [player_of_touches touched player, playing]
    exact congrArg (fun holds => some { run with holds := holds }) same.symm
  others m _ := player_of_touches touched player m
  claims _ p _ := by
    have counts : t.claimCount p = s.claimCount p := claimCount_of_counts (touched.counts count) p
    have held : heldAfter s [a] run.holds = run.holds := same
    rw [counts, held]
  full := full
  strikes := strikes
  lasts := lasts

theorem applyAction_taken (a : Action) : ActionsTaken n run [a] s (applyAction n a s) := by
  have all := Touches.applyAction n a s
  cases kind : a.kind with
  | strike =>
    have acts : applyAction n a s = strike (s.notePoint a.rank a.note) s := by simp only [applyAction, playing, kind]
    have touched := Touches.strike (s.notePoint a.rank a.note) s
    rw [acts]
    refine .unheld playing touched (by decide) (by decide) (by decide) (by rw [heldAfterAction, kind]) ?_ ?_
      (strike_lasts _ s)
    · rw [touched.latched_same (by decide) (by decide)]
      simp [heldOverflow, kind]
    · intro x mem is struck
      rw [List.mem_singleton.1 mem] at struck ⊢
      rw [servedBy_of_generators (touched.generators (by decide))]
      exact strike_handed _ s struck
  | holdOn =>
    have other : a.kind ≠ .strike := by rw [kind]; decide
    by_cases held : s.notePoint a.rank a.note ∈ run.holds
    · have acts : applyAction n a s = s := by simp only [applyAction, playing, kind, held, if_true]
      rw [acts]
      refine .unheld playing (.refl (A := []) s) (by decide) (by decide) (by decide) ?_ ?_
        (stepStrikes_of_other other s s) fun _ runs => runs
      · simp only [heldAfterAction, kind, held, true_or, if_true]
      · simp [heldOverflow, held]
    · by_cases full : 8 ≤ run.holds.length
      · have acts : applyAction n a s = latch .seqHoldFull s := by
          simp only [applyAction, playing, kind, held, if_false]
          exact if_pos full
        have touched : Touches [.report .seqHoldFull] s (latch .seqHoldFull s) := .latch (by decide) s
        rw [acts]
        refine .unheld playing touched (by decide) (by decide) (by decide) ?_ ?_
          (stepStrikes_of_other other s _) (.of_touches touched (by decide))
        · simp only [heldAfterAction, kind, full, or_true, if_true]
        · rw [latch_latched_same]
          simp [heldOverflow, kind, held, full]
      · have acts : applyAction n a s = addClaim (s.notePoint a.rank a.note)
            (s.setPlayer n (some { run with holds := run.holds ++ [s.notePoint a.rank a.note] })) := by
          simp only [applyAction, playing, kind, held, if_false]
          exact if_neg full
        rw [acts] at all ⊢
        refine .held ?_ ((Touches.addClaim _ _).mono (by decide)) all ?_ ?_ (stepStrikes_of_other other s _)
        · simp only [heldAfterAction, kind, held, full, or_self, if_false]
        · intro _ p _
          have moves := addClaim_moves (s.notePoint a.rank a.note)
            (s.setPlayer n (some { run with holds := run.holds ++ [s.notePoint a.rank a.note] })) p
          have before : (s.setPlayer n (some { run with holds := run.holds ++ [s.notePoint a.rank a.note] })).claimCount p =
              s.claimCount p := rfl
          rw [moves, before, occurrences_append, occurrences_cons, occurrences_nil, Nat.zero_add]
          by_cases own : p.index = (s.notePoint a.rank a.note).index
          · rw [if_pos own, if_pos own.symm]
            dsimp only
            omega
          · rw [if_neg own, if_neg (Ne.symm own), Nat.add_zero]
        · simp [heldOverflow, full]
  | holdOff =>
    have other : a.kind ≠ .strike := by rw [kind]; decide
    have fits : heldOverflow s [a] run.holds = false := by simp [heldOverflow, kind]
    by_cases held : s.notePoint a.rank a.note ∈ run.holds
    · have acts : applyAction n a s = removeClaim (s.notePoint a.rank a.note) (s.setPlayer n (some { run with
          holds := run.holds.filter (fun q => q ≠ s.notePoint a.rank a.note) })) := by
        simp only [applyAction, playing, kind, held, if_true]
      rw [acts] at all ⊢
      refine .held ?_ (Touches.removeClaim _ _) all ?_ fits (stepStrikes_of_other other s _)
      · simp only [heldAfterAction, kind]
      · intro once p enough
        have moves := removeClaim_moves (s.notePoint a.rank a.note) (s.setPlayer n (some { run with
          holds := run.holds.filter (fun q => q ≠ s.notePoint a.rank a.note) })) p
        have before : (s.setPlayer n (some { run with
            holds := run.holds.filter (fun q => q ≠ s.notePoint a.rank a.note) })).claimCount p = s.claimCount p := rfl
        have split := occurrences_filter held once p
        rw [moves, before]
        by_cases own : p.index = (s.notePoint a.rank a.note).index
        · rw [if_pos own.symm] at split
          rw [if_pos own]
          dsimp only
          omega
        · rw [if_neg (Ne.symm own)] at split
          rw [if_neg own]
          omega
    · have acts : applyAction n a s = s := by simp only [applyAction, playing, kind, held, if_false]
      rw [acts]
      refine .unheld playing (.refl (A := []) s) (by decide) (by decide) (by decide) ?_ ?_
        (stepStrikes_of_other other s s) fun _ runs => runs
      · simp only [heldAfterAction, kind]
        exact List.filter_eq_self.2 fun _ mem => decide_eq_true fun own => held (own ▸ mem)
      · rw [fits, Bool.or_false]

end Action

/-- Actions one after the other. -/
theorem ActionsTaken.cons {n : Nat} {run : Run} {a : Action} {rest : List Action} {s t u : State}
    (first : ActionsTaken n run [a] s t)
    (later : ActionsTaken n { run with holds := heldAfterAction s run.holds a } rest t u) :
    ActionsTaken n run (a :: rest) s u where
  touched := first.touched.trans later.touched
  player := by
    rw [later.player, heldAfter_of_touches first.touched]
    rfl
  others m other := (later.others m other).trans (first.others m other)
  claims once p enough := by
    have one := first.claims once p enough
    have held : heldAfter s [a] run.holds = heldAfterAction s run.holds a := rfl
    rw [held] at one
    have two := later.claims (heldAfterAction_nodup once) p (by dsimp only; omega)
    rw [heldAfter_of_touches first.touched] at two
    have all : heldAfter s (a :: rest) run.holds = heldAfter s rest (heldAfterAction s run.holds a) := rfl
    rw [all]
    dsimp only at two
    omega
  full := by
    rw [later.full, first.full, heldOverflow_of_touches first.touched]
    simp [heldOverflow, Bool.or_assoc]
  strikes x mem kind struck := by
    have served := fun p => servedBy_of_generators (later.touched.generators (by decide)) (.struck p)
    rcases List.mem_cons.1 mem with rfl | mem
    · rw [served]
      exact (first.strikes x (List.mem_singleton_self x) kind struck).imp_right (later.lasts _)
    · have point := notePoint_of_touches first.touched x.rank x.note
      have handed := later.strikes x mem kind (by rw [point, isStruck_of_touches first.touched]; exact struck)
      rwa [point] at handed
  lasts := first.lasts.trans later.lasts

theorem applyActions_taken {n : Nat} (actions : List Action) {run : Run} {s : State} (playing : s.player n = some run) :
    ActionsTaken n run actions s (forEach actions (applyAction n) s) := by
  induction actions generalizing run s with
  | nil =>
    exact ⟨.refl s, playing, fun _ _ => rfl, fun _ _ _ => rfl, (Bool.or_false _).symm,
      fun _ mem => absurd mem List.not_mem_nil,
      fun _ runs => runs⟩
  | cons a rest ih =>
    have first := applyAction_taken playing a
    rw [forEach_cons]
    exact first.cons (ih first.player)

/-! ### A step taken, and a player stopped (R113, R116) -/

section Step

variable {n i : Nat} {run : Run} {s : State} (playing : s.player n = some run)

include playing

theorem applyStep_eq : ∃ u, ActionsTaken n { run with step := i } (s.stepRecord i).actions
      (s.setPlayer n (some { run with step := i })) u ∧
    applyStep n i s = u.setPlayer n (some { run with
      step := i
      timer := 10 * (s.stepRecord i).duration
      holds := heldAfter s (s.stepRecord i).actions run.holds }) := by
  have acts := applyActions_taken (s.stepRecord i).actions (n := n) (run := { run with step := i })
    (s := s.setPlayer n (some { run with step := i })) ((player_setPlayer ..).trans (if_pos rfl))
  refine ⟨_, acts, ?_⟩
  simp only [applyStep, playing, acts.player]
  rfl

theorem applyStep_moved : PlayerMoved n run i s (applyStep n i s) := by
  obtain ⟨u, acts, ends⟩ := applyStep_eq (i := i) playing
  rw [ends]
  have same := heldOverflow_of_touches (Touches.replay (A := playerParts) (by decide) n (new := { run with step := i })
    playing rfl) (s.stepRecord i).actions run.holds
  refine ⟨(player_setPlayer ..).trans (if_pos rfl), acts.claims, ?_, acts.strikes⟩
  rw [← same]
  exact acts.full

theorem applyStep_others (m : Nat) (other : m ≠ n) : (applyStep n i s).player m = s.player m := by
  obtain ⟨u, acts, ends⟩ := applyStep_eq (i := i) playing
  rw [ends, player_setPlayer, if_neg other, acts.others m other, player_setPlayer, if_neg other]

theorem applyStep_lasts : StrikesLast s (applyStep n i s) := by
  obtain ⟨u, acts, ends⟩ := applyStep_eq (i := i) playing
  rw [ends]
  exact acts.lasts

theorem stopPlayer_stopped : PlayerStopped n run s (stopPlayer n s) where
  idle := (stopPlayer_player n n s).trans (if_pos rfl)
  claims p := by
    have moves := removeAll_moves run.holds (s.setPlayer n none) p
    simp only [stopPlayer, playing]
    exact moves
  pool := pool_of_touches (Touches.stopPlayer n s) (by decide) (by decide) (by decide) (by decide) (by decide)

end Step

/-! ### A step timer's expiry (R114 to R116) -/

section Reports

variable {n i : Nat} {run : Run} {s t u : State} (reports : ReportsOnly u t)

include reports

theorem PlayerMoved.of_reports (moved : PlayerMoved n run i s u) : PlayerMoved n run i s t where
  moved := (player_of_reports reports n).trans moved.moved
  claims once p enough := by
    rw [claimCount_of_reports reports]
    exact moved.claims once p enough
  full := (reports.flags _ (by decide)).trans moved.full
  strikes a mem kind struck := by
    rw [servedBy_of_generators (congrArg Pool.generators reports.pool), strikeTimer_of_reports reports]
    exact moved.strikes a mem kind struck

theorem PlayerStopped.of_reports (stopped : PlayerStopped n run s u) : PlayerStopped n run s t where
  idle := (player_of_reports reports n).trans stopped.idle
  claims p := (claimCount_of_reports reports p).trans (stopped.claims p)
  pool := reports.pool.trans stopped.pool

end Reports

section Expiry

variable {n : Nat} {run : Run} {s : State} (playing : s.player n = some run)

include playing

theorem stepExpires_finishing (finishing : run.finishing = true) : stepExpires n s = stopPlayer n s := by
  simp only [stepExpires, playing, finishing, if_true]

theorem stepExpires_timed (runs : run.finishing = false) (timed : (s.stepRecord ((run.step + 1) % 1024)).kind = .timed) :
    stepExpires n s = applyStep n ((run.step + 1) % 1024) s := by
  simp only [stepExpires, playing, runs, moveOn, timed, Bool.false_eq_true, if_false, if_true]

theorem stepExpires_final (runs : run.finishing = false) (final : (s.stepRecord ((run.step + 1) % 1024)).kind = .final) :
    stepExpires n s = if (s.seqEntry run.sequence).loop then takeFirstStep n s else stopPlayer n s := by
  simp [stepExpires, playing, runs, moveOn, final]

theorem takeFirstStep_timed {i : Nat} (first : (s.seqEntry run.sequence).first = some i)
    (timed : (s.stepRecord i).kind = .timed) : takeFirstStep n s = applyStep n i s := by
  simp only [takeFirstStep, playing, first, timed, if_true]

/-- The first step of a sequence is taken, or the player stops. -/
theorem takeFirstStep_cases : (∃ i, (s.seqEntry run.sequence).first = some i ∧ (s.stepRecord i).kind = .timed ∧
      takeFirstStep n s = applyStep n i s) ∨
    ((∀ i, (s.seqEntry run.sequence).first = some i → (s.stepRecord i).kind ≠ .timed) ∧
      takeFirstStep n s = stopPlayer n s) := by
  cases first : (s.seqEntry run.sequence).first with
  | none => exact .inr ⟨nofun, by simp only [takeFirstStep, playing, first]⟩
  | some i =>
    by_cases timed : (s.stepRecord i).kind = .timed
    · exact .inl ⟨i, rfl, timed, takeFirstStep_timed playing first timed⟩
    · refine .inr ⟨fun j same => Option.some.inj same ▸ timed, ?_⟩
      simp only [takeFirstStep, playing, first, timed, if_false]

theorem takeFirstStep_others (m : Nat) (other : m ≠ n) : (takeFirstStep n s).player m = s.player m := by
  obtain ⟨i, -, -, moves⟩ | ⟨-, stops⟩ := takeFirstStep_cases playing
  · rw [moves, applyStep_others playing m other]
  · rw [stops, stopPlayer_player, if_neg other]

theorem stepExpires_others (m : Nat) (other : m ≠ n) : (stepExpires n s).player m = s.player m := by
  have stops : (stopPlayer n s).player m = s.player m := by rw [stopPlayer_player, if_neg other]
  cases finishing : run.finishing with
  | true => rw [stepExpires_finishing playing finishing, stops]
  | false =>
    cases kind : (s.stepRecord ((run.step + 1) % 1024)).kind with
    | timed => rw [stepExpires_timed playing finishing kind, applyStep_others playing m other]
    | final =>
      rw [stepExpires_final playing finishing kind]
      split
      · exact takeFirstStep_others playing m other
      · exact stops

end Expiry

/-! ### The start of a delivery (R112) -/

/-- The players that are IDLE, ascending. -/
def State.idlePlayers (s : State) : List Nat := (List.range 8).filter fun m => (s.player m).isNone

/-- R112: a player as it is assigned, before its first step. -/
def assigned (level : Bool) (input q : Nat) : Run := ⟨false, q, level, input, 0, 0, []⟩

theorem idlePlayer_eq (s : State) : s.idlePlayer = s.idlePlayers.head? := (List.head?_filter ..).symm

theorem idlePlayers_nodup (s : State) : s.idlePlayers.Nodup := List.nodup_range.filter _

theorem idlePlayers_setPlayer {s : State} {n : Nat} {rest : List Nat} (idle : s.idlePlayers = n :: rest) (run : Run) :
    (s.setPlayer n (some run)).idlePlayers = rest := by
  have once := idlePlayers_nodup s
  have apart : (s.setPlayer n (some run)).idlePlayers = s.idlePlayers.filter fun m => m ≠ n := by
    unfold State.idlePlayers
    rw [List.filter_filter]
    refine List.filter_congr fun m _ => ?_
    rw [player_setPlayer]
    by_cases own : m = n <;> simp [own]
  rw [idle] at once
  obtain ⟨out, -⟩ := List.nodup_cons.1 once
  rw [apart, idle, List.filter_cons, if_neg (by simp)]
  exact List.filter_eq_self.2 fun m mem => decide_eq_true fun own => out (own ▸ mem)

theorem idlePlayers_congr {s t : State} (same : ∀ m, t.player m = s.player m) : t.idlePlayers = s.idlePlayers := by
  unfold State.idlePlayers
  simp only [same]

/-- R112: players are assigned in list order while any is IDLE. -/
theorem assignPlayers_taken (level : Bool) (input : Nat) (sequences : List Nat) (s : State) :
    (assignPlayers level input sequences s).1 = (s.idlePlayers.zip sequences).map Prod.fst ∧
    (∀ x ∈ s.idlePlayers.zip sequences,
      (assignPlayers level input sequences s).2.player x.1 = some (assigned level input x.2)) ∧
    (∀ m, m ∉ (s.idlePlayers.zip sequences).map Prod.fst →
      (assignPlayers level input sequences s).2.player m = s.player m) ∧
    (s.idlePlayers.length < sequences.length →
      (assignPlayers level input sequences s).2.latched .seqNoPlayer = true) := by
  induction sequences generalizing s with
  | nil =>
    rw [List.zip_nil_right]
    exact ⟨rfl, fun _ mem => absurd mem List.not_mem_nil, fun _ _ => rfl, fun few => absurd few (Nat.not_lt_zero _)⟩
  | cons q rest ih =>
    have found := idlePlayer_eq s
    cases idle : s.idlePlayers with
    | nil =>
      rw [idle, List.head?_nil] at found
      have acts : assignPlayers level input (q :: rest) s = assignPlayers level input rest (latch .seqNoPlayer s) := by
        simp only [assignPlayers, found]
      have players : ∀ m, (latch .seqNoPlayer s).player m = s.player m := fun m => by
        unfold State.player
        rw [latch_sequencer]
      have still := idlePlayers_congr players
      obtain ⟨started, -, others, -⟩ := ih (latch .seqNoPlayer s)
      rw [still, idle, List.zip_nil_left] at started others
      rw [acts, List.zip_nil_left]
      refine ⟨started, fun _ mem => absurd mem List.not_mem_nil, fun m out => (others m out).trans (players m), fun _ => ?_⟩
      exact (Touches.assignPlayers level input rest (latch .seqNoPlayer s)).announces.rises _ (latch_latched_same _ s)
    | cons n later =>
      rw [idle, List.head?_cons] at found
      have acts : assignPlayers level input (q :: rest) s =
          (n :: (assignPlayers level input rest (s.setPlayer n (some (assigned level input q)))).1,
            (assignPlayers level input rest (s.setPlayer n (some (assigned level input q)))).2) := by
        simp only [assignPlayers, found]
        rfl
      have still := idlePlayers_setPlayer idle (assigned level input q)
      have once := idlePlayers_nodup s
      rw [idle] at once
      obtain ⟨apart, -⟩ := List.nodup_cons.1 once
      obtain ⟨started, players, others, refused⟩ := ih (s.setPlayer n (some (assigned level input q)))
      rw [still] at started players others refused
      have out : n ∉ (later.zip rest).map Prod.fst := fun mem => by
        obtain ⟨x, inZip, same⟩ := List.mem_map.1 mem
        exact apart (same ▸ (List.of_mem_zip inZip).1)
      rw [acts, List.zip_cons_cons, List.map_cons]
      refine ⟨congrArg (n :: ·) started, fun x mem => ?_, fun m free => ?_, fun few => ?_⟩
      · rcases List.mem_cons.1 mem with rfl | mem
        · exact (others n out).trans ((player_setPlayer ..).trans (if_pos rfl))
        · exact players x mem
      · obtain ⟨other, free⟩ := not_or.1 (mt List.mem_cons.2 free)
        exact (others m free).trans ((player_setPlayer ..).trans (if_neg other))
      · exact refused (Nat.lt_of_succ_lt_succ few)

/-- R112: an assigned player has taken the first step of its sequence. -/
structure FirstTaken (level : Bool) (input n q : Nat) (s t : State) : Prop where
  timed : ∀ i, (s.seqEntry q).first = some i → (s.stepRecord i).kind = .timed →
    t.player n = some ⟨false, q, level, input, i, 10 * (s.stepRecord i).duration,
      heldAfter s (s.stepRecord i).actions []⟩ ∧ StepStrikes (s.stepRecord i).actions s t
  final : ∀ i, (s.seqEntry q).first = some i → (s.stepRecord i).kind = .final → t.player n = none

theorem takeFirstStep_taken {level : Bool} {input n q : Nat} {s : State}
    (playing : s.player n = some (assigned level input q)) : FirstTaken level input n q s (takeFirstStep n s) ∧
      ∀ p : Point, (takeFirstStep n s).claimCount p = s.claimCount p + occurrences p (firstHolds s q) := by
  obtain ⟨i, first, timed, moves⟩ | ⟨other, stops⟩ := takeFirstStep_cases playing
  · have moved := applyStep_moved (i := i) playing
    have first' : (s.seqEntry q).first = some i := first
    have holds : firstHolds s q = heldAfter s (s.stepRecord i).actions [] := by simp only [firstHolds, first', timed, if_true]
    rw [moves]
    refine ⟨⟨fun j same _ => ?_, fun j same kind => ?_⟩, fun p => ?_⟩
    · obtain rfl := Option.some.inj (first'.symm.trans same)
      exact ⟨moved.moved, moved.strikes⟩
    · obtain rfl := Option.some.inj (first'.symm.trans same)
      exact absurd (timed.symm.trans kind) (by decide)
    · rw [holds]
      exact moved.claims List.nodup_nil p (Nat.zero_le _)
  · have stopped := stopPlayer_stopped playing
    rw [stops]
    refine ⟨⟨fun i first timed => absurd timed (other i first), fun _ _ _ => stopped.idle⟩, fun p => ?_⟩
    have empty : firstHolds s q = [] := by
      unfold firstHolds
      cases first : (s.seqEntry q).first with
      | none => rfl
      | some i => exact if_neg (other i first)
    rw [empty]
    exact stopped.claims p

theorem takeFirstStep_lasts (n : Nat) (s : State) : StrikesLast s (takeFirstStep n s) := by
  cases playing : s.player n with
  | none =>
    have still : takeFirstStep n s = s := by simp only [takeFirstStep, playing]
    rw [still]
    exact fun _ runs => runs
  | some run =>
    obtain ⟨i, -, -, moves⟩ | ⟨-, stops⟩ := takeFirstStep_cases playing
    · rw [moves]
      exact applyStep_lasts playing
    · rw [stops]
      exact .of_touches (Touches.stopPlayer n s) (by decide)

theorem takeFirstSteps_lasts (ns : List Nat) (s : State) : StrikesLast s (forEach ns takeFirstStep s) := by
  induction ns generalizing s with
  | nil => exact fun _ runs => runs
  | cons n rest ih =>
    rw [forEach_cons]
    exact (takeFirstStep_lasts n s).trans (ih _)

/-- What a player's first step is does not depend on the players that have taken theirs before. -/
theorem FirstTaken.congr {level : Bool} {input n q : Nat} {A : List Part} {s u t v : State} (touched : Touches A s u)
    (taken : FirstTaken level input n q u t) (player : v.player n = t.player n)
    (served : ∀ c, v.servedBy c = t.servedBy c) (lasts : StrikesLast t v) :
    FirstTaken level input n q s v where
  timed i first timed := by
    obtain ⟨moved, strikes⟩ := taken.timed i (by rw [seqEntry_of_touches touched]; exact first)
      (by rw [stepRecord_of_touches touched]; exact timed)
    rw [stepRecord_of_touches touched] at moved strikes
    rw [heldAfter_of_touches touched] at moved
    refine ⟨player.trans moved, fun a mem kind struck => ?_⟩
    have point := notePoint_of_touches touched a.rank a.note
    have handed := strikes a mem kind (by rw [point, isStruck_of_touches touched]; exact struck)
    rw [point] at handed
    rw [served]
    exact handed.imp_right (lasts _)
  final i first final := by
    refine player.trans (taken.final i ?_ ?_)
    · rw [seqEntry_of_touches touched]; exact first
    · rw [stepRecord_of_touches touched]; exact final

theorem takeFirstStep_playing {n m : Nat} {s : State} (other : m ≠ n) : (takeFirstStep n s).player m = s.player m := by
  cases playing : s.player n with
  | none =>
    have still : takeFirstStep n s = s := by simp only [takeFirstStep, playing]
    rw [still]
  | some run => exact takeFirstStep_others playing m other

theorem takeFirstSteps_others {m : Nat} (ns : List Nat) (s : State) (out : m ∉ ns) :
    (forEach ns takeFirstStep s).player m = s.player m := by
  induction ns generalizing s with
  | nil => rfl
  | cons n rest ih =>
    obtain ⟨other, later⟩ := not_or.1 (mt List.mem_cons.2 out)
    rw [forEach_cons, ih _ later, takeFirstStep_playing other]

/-- R112: the assigned players take their first steps, each as if it alone did. -/
theorem takeFirstSteps_taken {level : Bool} {input : Nat} (pairs : List (Nat × Nat)) (s : State)
    (once : (pairs.map Prod.fst).Nodup)
    (playing : ∀ x ∈ pairs, s.player x.1 = some (assigned level input x.2)) :
    (∀ x ∈ pairs, FirstTaken level input x.1 x.2 s (forEach (pairs.map Prod.fst) takeFirstStep s)) ∧
      ∀ p : Point, (forEach (pairs.map Prod.fst) takeFirstStep s).claimCount p =
        s.claimCount p + occurrences p (pairs.flatMap fun x => firstHolds s x.2) := by
  induction pairs generalizing s with
  | nil => exact ⟨fun _ mem => absurd mem List.not_mem_nil, fun _ => rfl⟩
  | cons x rest ih =>
    obtain ⟨apart, once⟩ := List.nodup_cons.1 once
    have first := Touches.takeFirstStep x.1 s
    have later : Touches playerParts (takeFirstStep x.1 s)
        (forEach (rest.map Prod.fst) takeFirstStep (takeFirstStep x.1 s)) :=
      Touches.forEach (fun n t => Touches.takeFirstStep n t) _ _
    obtain ⟨taken, claims⟩ := takeFirstStep_taken (playing x List.mem_cons_self)
    obtain ⟨others, claims'⟩ := ih (takeFirstStep x.1 s) once fun y mem =>
      (takeFirstStep_playing fun own => apart (List.mem_map.2 ⟨y, mem, own⟩)).trans (playing y (List.mem_cons_of_mem _ mem))
    rw [List.map_cons, forEach_cons]
    refine ⟨fun y mem => ?_, fun p => ?_⟩
    · rcases List.mem_cons.1 mem with rfl | mem
      · exact taken.congr (.refl (A := playerParts) s) (takeFirstSteps_others _ _ apart)
          (servedBy_of_generators (later.generators (by decide))) (takeFirstSteps_lasts _ _)
      · exact (others y mem).congr first rfl (fun _ => rfl) fun _ runs => runs
    · have same : (fun y : Nat × Nat => firstHolds (takeFirstStep x.1 s) y.2) = fun y => firstHolds s y.2 :=
        funext fun y => firstHolds_of_touches first y.2
      rw [claims', claims, same, List.flatMap_cons, occurrences_append, Nat.add_assoc]

theorem not_mem_take_of_le {l : List Nat} (once : l.Nodup) {k n m : Nat} (at_k : l[k]? = some n) (few : m ≤ k) :
    n ∉ l.take m := by
  intro mem
  obtain ⟨j, inTake, is⟩ := List.mem_iff_getElem.1 mem
  obtain ⟨inRange, here⟩ := List.getElem?_eq_some_iff.1 at_k
  rw [List.length_take] at inTake
  rw [List.getElem_take, ← here, once.getElem_inj_iff] at is
  omega

theorem map_fst_zip_take (l m : List Nat) : (l.zip m).map Prod.fst = l.take m.length := by
  induction l generalizing m with
  | nil => rw [List.zip_nil_left, List.map_nil, List.take_nil]
  | cons a rest ih =>
    cases m with
    | nil => rfl
    | cons b later => rw [List.zip_cons_cons, List.map_cons, ih, List.length_cons, List.take_succ_cons]

/-- R112: a delivery of sequences. -/
theorem startDelivery_starts (level : Bool) (input : Nat) (sequences : List Nat) (s : State) :
    PlayersStart level input sequences s (startDelivery level input sequences s) := by
  have assigns := Touches.assignPlayers level input sequences s
  obtain ⟨started, playing, others, refused⟩ := assignPlayers_taken level input sequences s
  have acts : startDelivery level input sequences s =
      forEach (assignPlayers level input sequences s).1 takeFirstStep (assignPlayers level input sequences s).2 := rfl
  rw [acts, started]
  have once : ((s.idlePlayers.zip sequences).map Prod.fst).Nodup := by
    rw [map_fst_zip_take]
    exact (idlePlayers_nodup s).sublist (List.take_sublist _ _)
  obtain ⟨taken, claims⟩ := takeFirstSteps_taken _ (assignPlayers level input sequences s).2 once playing
  have steps : Touches playerParts (assignPlayers level input sequences s).2
      (forEach ((s.idlePlayers.zip sequences).map Prod.fst) takeFirstStep (assignPlayers level input sequences s).2) :=
    Touches.forEach (fun n t => Touches.takeFirstStep n t) _ _
  have still : ∀ m, m ∉ (s.idlePlayers.zip sequences).map Prod.fst →
      (forEach ((s.idlePlayers.zip sequences).map Prod.fst) takeFirstStep
        (assignPlayers level input sequences s).2).player m = s.player m := fun m out =>
    (takeFirstSteps_others _ _ out).trans (others m out)
  have all := (assigns.mono (B := playerParts) (by decide)).trans steps
  have counts : ∀ p : Point, (assignPlayers level input sequences s).2.claimCount p = s.claimCount p :=
    claimCount_of_counts (assigns.counts (by decide))
  have same : (fun x : Nat × Nat => firstHolds (assignPlayers level input sequences s).2 x.2) =
      fun x => firstHolds s x.2 := funext fun x => firstHolds_of_touches assigns x.2
  generalize (assignPlayers level input sequences s).2 = u at *
  generalize forEach ((s.idlePlayers.zip sequences).map Prod.fst) takeFirstStep u = t at *
  refine ⟨fun k n q here asked => ?_, fun n _ busy => still n ?_, fun k n here few => ?_, fun few => ?_, fun p => ?_, ?_⟩
  · have mem : (n, q) ∈ s.idlePlayers.zip sequences :=
      List.mem_of_getElem? (List.getElem?_zip_eq_some.2 ⟨here, asked⟩)
    have taken := (taken (n, q) mem).congr assigns rfl (fun _ => rfl) fun _ runs => runs
    exact ⟨taken.timed, taken.final⟩
  · rw [map_fst_zip_take]
    intro mem
    have idle := (List.mem_filter.1 (List.mem_of_mem_take mem)).2
    rw [Option.isNone_iff_eq_none] at idle
    rw [idle] at busy
    exact absurd busy (by decide)
  · have idle := (List.mem_filter.1 (List.mem_of_getElem? here)).2
    rw [still n (by rw [map_fst_zip_take]; exact not_mem_take_of_le (idlePlayers_nodup s) here few)]
    exact Option.isNone_iff_eq_none.1 idle
  · exact steps.announces.rises _ (refused few)
  · rw [claims, counts, same]
    rfl
  · exact strikesOnly_of_touches all (by decide) (by decide) (by decide) (by decide)

/-- Settles O57: an expiry by its cases, and a delivery by the players assigned. -/
theorem stepTimerMovesPlayer : Obligations.StepTimerMovesPlayer := by
  refine ⟨fun s n run playing => ?_, fun s level input sequences => startDelivery_starts level input sequences s⟩
  have touched := Touches.stepExpires n s
  obtain ⟨reports, -⟩ := conclude_quietly s (stepExpires n s)
  have others := stepExpires_others playing
  refine ⟨_, rfl, fun finishing => ?_, fun runs timed => ?_, fun runs final => ⟨fun ends => ?_, fun loops i first timed => ?_⟩,
    fun m other => (player_of_reports reports m).trans (others m other),
    (congrArg Sequencer.memory reports.sequencer).trans touched.memory,
    (congrArg Sequencer.directory reports.sequencer).trans touched.directory,
    reports.engine.trans (engine_of_touches touched (by decide)),
    reports.scan.trans (scan_of_touches touched (by decide) (by decide) (by decide) (by decide)),
    reports.router.trans (router_of_touches touched (by decide) (by decide)),
    reports.expression.trans touched.expression⟩
  · refine PlayerStopped.of_reports reports ?_
    rw [stepExpires_finishing playing finishing]
    exact stopPlayer_stopped playing
  · refine PlayerMoved.of_reports reports ?_
    rw [stepExpires_timed playing runs timed]
    exact applyStep_moved playing
  · refine PlayerStopped.of_reports reports ?_
    rw [stepExpires_final playing runs final, if_neg (by rw [ends]; decide)]
    exact stopPlayer_stopped playing
  · refine PlayerMoved.of_reports reports ?_
    rw [stepExpires_final playing runs final, if_pos loops, takeFirstStep_timed playing first timed]
    exact applyStep_moved playing

end Sys2Proof.Machine
end

section
/-! PROOF. What a command puts on the return line (R157, R167, R168): the NOTICE of a rise of attention, the LAMP frame of a
change, and behind a REPLY what was held. -/

namespace Sys2Proof.Machine

/-! ### Frames put out by an act -/

/-- From `s` to `u`, with no request to serve and room for `k` frames, at most `k` frames have been added to what is to leave:
no LAMP frame, and one NOTICE where attention has risen. -/
structure Puts (k : Nat) (s u : State) : Prop where
  requests : u.port.requests = s.port.requests
  attention : s.attention = true → u.attention = true
  puts : s.port.requests = [] → s.hasRoom k → ∃ added : List UpFrame, u.outgoing = s.outgoing ++ added ∧
    (∀ f ∈ added, f.isLamp = false) ∧
    (added.filter UpFrame.isNotice).length = (if s.attention = false ∧ u.attention = true then 1 else 0) ∧
    added.length ≤ k ∧ u.port.returnQueue.length ≤ s.port.returnQueue.length + added.length

namespace Puts

theorem trans {j k : Nat} {s t u : State} (first : Puts j s t) (later : Puts k t u) : Puts (j + k) s u where
  requests := later.requests.trans first.requests
  attention up := later.attention (first.attention up)
  puts idle room := by
    unfold State.hasRoom at room
    obtain ⟨before, out, dark, notices, few, queue⟩ := first.puts idle (by unfold State.hasRoom; omega)
    obtain ⟨after, out', dark', notices', few', queue'⟩ := later.puts (first.requests.trans idle)
      (by unfold State.hasRoom; omega)
    refine ⟨before ++ after, by rw [out', out, List.append_assoc], fun f mem => ?_, ?_, ?_, ?_⟩
    · exact (List.mem_append.1 mem).elim (dark f) (dark' f)
    · rw [List.filter_append, List.length_append, notices, notices']
      have up := first.attention
      have up' := later.attention
      revert up up'
      cases s.attention <;> cases t.attention <;> cases u.attention <;> simp
    · rw [List.length_append]
      omega
    · rw [List.length_append]
      omega

theorem mono {j k : Nat} {s u : State} (puts : Puts j s u) (fewer : j ≤ k) : Puts k s u where
  requests := puts.requests
  attention := puts.attention
  puts idle room := by
    obtain ⟨added, out, dark, notices, few, queue⟩ := puts.puts idle (room.mono fewer)
    exact ⟨added, out, dark, notices, few.trans fewer, queue⟩

theorem of_same {k : Nat} {s u : State} (requests : u.port.requests = s.port.requests)
    (queue : u.port.returnQueue = s.port.returnQueue) (line : u.port.line = s.port.line)
    (latched : u.status.latched = s.status.latched) (masked : u.status.masked = s.status.masked) : Puts k s u := by
  have same : u.attention = s.attention := attention_congr latched masked
  refine ⟨requests, fun up => same.trans up, fun _ _ => ⟨[], ?_, fun _ mem => absurd mem List.not_mem_nil, ?_, Nat.zero_le _,
    by rw [queue]; exact Nat.le_add_right _ _⟩⟩
  · rw [List.append_nil, State.outgoing, State.outgoing, queue, line]
  · rw [same]
    cases s.attention <;> simp

theorem after {k : Nat} {s t u : State} (later : Puts k t u) (first : Puts 0 s t) : Puts k s u := by
  have both := first.trans later
  rwa [Nat.zero_add] at both

theorem of_announces {s u : State} (announces : Announces s u) : Puts 1 s u := by
  refine ⟨announces.requests, announces.attention, fun idle room => ?_⟩
  by_cases rises : s.attention = false ∧ u.attention = true
  · obtain ⟨low, high⟩ := rises
    obtain ⟨f, notice, dark, out, queue⟩ := announces.risen idle low room.lt high
    refine ⟨[f], out, fun g mem => ?_, ?_, le_refl _, queue⟩
    · rw [List.mem_singleton.1 mem]
      exact dark
    · rw [if_pos ⟨low, high⟩, List.filter_cons, if_pos notice]
      rfl
  · have same : u.attention = s.attention := by
      have up := announces.attention
      revert up rises
      cases s.attention <;> cases u.attention <;> simp
    obtain ⟨out, queue⟩ := announces.level idle (.inr room.lt) same
    refine ⟨[], out.trans (List.append_nil _).symm, fun _ mem => absurd mem List.not_mem_nil, ?_, Nat.zero_le _, queue⟩
    rw [if_neg rises]
    rfl

theorem offer {f : UpFrame} (notNotice : f.isNotice = false) (notLamp : f.isLamp = false) (s : State) :
    Puts 1 s (Machine.offer f s) where
  requests := offer_requests f s
  attention up := by
    refine attention_eq_any ?_ (fun i set => ?_) up
    · have settings := offer_status f s
      rw [settings]
    · by_cases room : s.port.returnQueue.length < Config.returnCapacity
      · rw [latched_of_status (congrArg Status.latched (offer_status_of_room room f))]
        exact set
      · rw [offer_full f s room]
        simp only [overrun]
        split
        · exact setFlag_rises _ s i set
        · exact setFlag_rises _ s i set
  puts _ room := by
    have same : (Machine.offer f s).attention = s.attention :=
      attention_congr (by rw [offer_status_of_room room.lt f]) (by rw [offer_status_of_room room.lt f])
    refine ⟨[f], offer_outgoing f s room.lt, fun g mem => ?_, ?_, le_refl _, ?_⟩
    · rw [List.mem_singleton.1 mem]
      exact notLamp
    · rw [same, List.filter_cons, notNotice]
      cases s.attention <;> simp
    · have placed : Machine.offer f s = startLine (s.setPort { s.port with returnQueue := s.port.returnQueue ++ [f] }) :=
        if_pos room.lt
      have shorter := startLine_queue_le (s.setPort { s.port with returnQueue := s.port.returnQueue ++ [f] })
      rw [State.setPort_port, List.length_append] at shorter
      rw [placed]
      exact shorter

end Puts

/-! ### The acts -/

theorem Announces.keptByChambers (s : State) : KeptByChambers (Announces s) where
  latch i u announces := announces.trans (latch_announces i u)
  written _ _ _ _ announces := announces.trans (.of_same rfl rfl rfl rfl rfl)

theorem enterLink_puts (x : LinkState) (s : State) : Puts 1 s (enterLink x s) :=
  (Puts.of_announces (latch_announces _ _)).after (.of_same rfl rfl rfl rfl rfl)

theorem setExtUp_puts (b : Bool) (s : State) : Puts 1 s (setExtUp b s) := by
  unfold setExtUp
  split
  · exact .of_same rfl rfl rfl rfl rfl
  · exact (Puts.of_announces (latch_announces _ _)).after (.of_same rfl rfl rfl rfl rfl)

theorem renewExt_puts (b : Bool) (x : Option Nat) (s : State) : Puts 1 s (setExtUp b (s.setExt { s.ext with timer := x })) :=
  (setExtUp_puts b _).after (.of_same rfl rfl rfl rfl rfl)

theorem forwardFrame_puts (i : Instr) (s : State) : Puts 0 s (forwardFrame i s) := by
  unfold forwardFrame forwardDown
  split
  · split
    · exact .of_same rfl rfl rfl rfl rfl
    · exact .of_same rfl rfl rfl rfl rfl
  · exact .of_same rfl rfl rfl rfl rfl

theorem recomputeGoals_puts (cs : List Nat) (s : State) : Puts 0 s (forEach cs recomputeGoal s) := by
  induction cs generalizing s with
  | nil => exact .of_same rfl rfl rfl rfl rfl
  | cons c rest ih =>
    rw [forEach_cons, recomputeGoal_eq]
    exact (ih _).after (.of_same rfl rfl rfl rfl rfl)

theorem takeSample_puts (shoe sample : Nat) (s : State) : Puts 0 s (takeSample shoe sample s) := by
  simp only [takeSample]
  split
  · exact (recomputeGoals_puts _ _).after (.of_same rfl rfl rfl rfl rfl)
  · exact .of_same rfl rfl rfl rfl rfl

theorem startTraining_puts (s : State) : Puts 1 s (startTraining s) := by
  unfold startTraining
  split
  · exact (enterLink_puts _ _).after (.of_same rfl rfl rfl rfl rfl)
  · exact .of_same rfl rfl rfl rfl rfl
  · exact .of_same rfl rfl rfl rfl rfl

theorem train_puts (s : State) : Puts 1 s (train s) := by
  unfold train
  split
  · exact .of_same rfl rfl rfl rfl rfl
  · exact (enterLink_puts _ _).after (.of_same rfl rfl rfl rfl rfl)

theorem reportLoss_announces (s : State) : Announces s (reportLoss s) := by
  obtain ⟨t, touched, same | chosen⟩ := reportLoss_touched s
  · rw [same]
    exact touched.announces
  · rw [chosen]
    exact touched.announces.trans (.of_same rfl rfl rfl rfl rfl)

theorem enterDown_puts {s : State} (idle : s.port.requests = []) : Puts 1 s (enterDown s) := by
  have ported : Puts 0 s (s.setPort { s.port with
      timer := none, badRun := 0, goodRun := 0, requests := s.port.requests.take 1, link := .down }) :=
    .of_same (by rw [State.setPort_port, idle]; rfl) rfl rfl rfl rfl
  exact (ported.trans (.of_announces ((latch_announces .link _).trans (reportLoss_announces _)))).mono (by decide)

/-- What an act puts out, by the act: up to three frames; a request may have been queued, the link lost, or a frame sent. -/
theorem act_puts {s u : State} {i : Instr} (act : Act s i u) : Puts 3 s u ∨
    (s.port.requests.length < u.port.requests.length) ∨
    ((i = .linkTimerExpiry ∨ i = .badFrame) ∧ (s.port.requests = [] → Puts 3 s u)) ∨
    (i = .returnFrameSent ∧ u.port.requests = s.port.requests) := by
  have announced : ∀ {v : State}, Announces s v → Puts 3 s v := fun a => (Puts.of_announces a).mono (by decide)
  have played : ∀ {v : State} {A : List Part}, Touches A s v → Puts 3 s v := fun t => announced t.announces
  have renewed : Puts 0 s (renewLink s) := .of_same rfl rfl rfl rfl rfl
  have chambers := Announces.keptByChambers s
  have start := Announces.refl s
  cases act with
  | trained training => exact .inl ((renewed.trans (train_puts _)).mono (by decide))
  | scanned kind row image up =>
    have scanned := Puts.of_announces (Touches.takeScan kind.toNat row.toNat image (renewLink s)).announces
    exact .inl (((renewed.trans scanned).trans (forwardFrame_puts _ _)).mono (by decide))
  | sampled shoe sample up =>
    exact .inl (((renewed.trans (takeSample_puts _ _ _)).trans (forwardFrame_puts _ _)).mono (by decide))
  | greeted =>
    have replied : Puts 1 s (offer s.helloReply s) := .offer rfl rfl s
    exact .inl (((replied.trans (forwardFrame_puts _ _)).trans (startTraining_puts _)).mono (by decide))
  | queued address tag code fields up =>
    unfold queueRequest
    split
    · refine .inr (.inl ?_)
      rw [State.setPort_port, List.length_append]
      exact Nat.lt_succ_self _
    · have busy : Puts 1 (renewLink s) (offer ((renewLink s).replyFrame tag .busy) (renewLink s)) := .offer rfl rfl _
      exact .inl ((renewed.trans busy).mono (by decide))
  | passedOn address tag code fields up => exact .inl ((renewed.trans (forwardFrame_puts _ _)).mono (by decide))
  | idled sender up => exact .inl (renewed.mono (by decide))
  | spoiled live =>
    refine .inr (.inr (.inl ⟨.inr rfl, fun idle => ?_⟩))
    unfold countBad
    split
    · exact .of_same rfl rfl rfl rfl rfl
    · exact (enterDown_puts idle).mono (by decide)
  | lost running => exact .inr (.inr (.inl ⟨.inl rfl, fun idle => (enterDown_puts idle).mono (by decide)⟩))
  | received bytes =>
    have offered : Puts 1 (renewExt s) (offer (.forwarded bytes) (renewExt s)) := .offer rfl rfl _
    exact .inl (((renewExt_puts true _ s).trans offered).mono (by decide))
  | heard => exact .inl ((renewExt_puts true _ s).mono (by decide))
  | extLost => exact .inl ((renewExt_puts false _ s).mono (by decide))
  | reported n wind supply boards => exact .inl (announced (chambers.takeStatus n wind supply boards s start))
  | chamberLost n => exact .inl (announced (chambers.chamberLinkExpires n s start))
  | windless n => exact .inl (announced (chambers.windExpires n s start))
  | settled n => exact .inl (announced (chambers.settleExpires n s start))
  | drained n => exact .inl (announced (chambers.drainExpires n s start))
  | driven n => exact .inl (announced (chambers.driveEnds n s start))
  | controlled n => exact .inl (announced (chambers.controlEnds n s start))
  | groupAged n g => exact .inl (announced (chambers.groupAges n g s start))
  | controlAged n => exact .inl (announced (chambers.controlAges n s start))
  | guarded n p => exact .inl (announced (chambers.onTimerExpires _ s start))
  | struck n p => exact .inl (announced (.of_same rfl rfl rfl rfl rfl))
  | levelled g => exact .inl (played (Touches.levelOff _ s))
  | returned g => exact .inl (played (Touches.returnToZero _ s))
  | plucked row key stop => exact .inl (played (Touches.pizzExpires _ _ _ s))
  | split input => exact .inl (played (Touches.splitExpires _ s))
  | stepped player => exact .inl (played (Touches.stepExpires _ s))
  | slewed channel =>
    simp only [slewExpires]
    split
    · exact .inl (announced start)
    · exact .inl (announced (.of_same rfl rfl rfl rfl rfl))
  | sent busy => exact .inr (.inr (.inr ⟨rfl, by rw [startLine_port]; rfl⟩))
  | silent quiet => exact .inl ((Puts.offer rfl rfl s).mono (by decide))
  | turned => exact .inl (announced (.of_same rfl rfl rfl rfl rfl))
  | unstretched item => exact .inl (announced (.of_same rfl rfl rfl rfl rfl))
  | still => exact .inl (announced start)

/-! ### The LAMP frame of a command with no request to serve (R168) -/

/-- Reports that start no stretch change no lamp. -/
theorem lampOutputs_of_reports {u t : State} (reports : ReportsOnly u t) (stretch : t.status.stretch = u.status.stretch) :
    t.lampOutputs = u.lampOutputs := by
  have link : t.port.link = u.port.link := by rw [reports.port]
  have mode := mode_of_reports reports
  have lamps : t.status.lamps = u.status.lamps := by rw [reports.status]
  have blink : t.status.blinkOn = u.status.blinkOn := by rw [reports.status]
  have lit (i : StatusItem) : t.itemLit i = u.itemLit i := by
    cases i with
    | link => exact congrArg (fun l => decide (l = LinkState.up)) link
    | ext =>
      simp only [State.itemLit]
      rw [reports.ext]
    | mode => exact congrArg (fun m => decide (m = Mode.play)) mode
    | state c => exact congrArg (fun x => decide (x = ChamberState.enabled)) (reports.chambers c).state
    | wind c => exact (reports.chambers c).windReady
    | supply c => exact (reports.chambers c).supplyOk
    | driverFault c => exact congrArg (fun b : BitVec 16 => decide (b ≠ 0)) (reports.chambers c).boards
    | cipher => exact cipherAny_of_reports reports
    | waiting => exact congrArg (fun pool : Pool => pool.waiting.entries.any (·.2)) reports.pool
    | returnOverrun | cipherOverflow | genSteal | pizzFull | seqNoPlayer | seqHoldFull =>
      simp only [State.itemLit, State.stretch, stretch]
  have shown (n : Nat) : t.lampOutput n = u.lampOutput n := by
    simp [State.lampOutput, State.lamp, lamps, blink, lit]
  simp only [State.lampOutputs, shown]

theorem transmitAll_lampOutputs (s : State) : (transmitAll s).lampOutputs = s.lampOutputs :=
  lampOutputs_of_reports (transmitAll_reportsOnly s) (by rw [transmitAll_status])

theorem transmitAll_attention (s : State) : (transmitAll s).attention = s.attention :=
  attention_congr (by rw [transmitAll_status]) (by rw [transmitAll_status])

/-- What the end of a command adds to what is to leave. -/
def State.lampChange (s t : State) : List UpFrame :=
  if t.lampOutputs = s.lampOutputs then [] else [t.lampFrame t.lampOutputs]

theorem conclude_puts {s u : State} (idle : u.port.requests = []) (room : u.hasRoom 1) :
    (conclude s u).outgoing = u.outgoing ++ s.lampChange (conclude s u) ∧ (conclude s u).attention = u.attention := by
  by_cases same : u.lampOutputs = s.lampOutputs
  · have still : (conclude s u).lampOutputs = s.lampOutputs := by
      rw [conclude_sameLamps same, transmitAll_lampOutputs, same]
    rw [State.lampChange, if_pos still, List.append_nil, conclude_sameLamps same]
    exact ⟨transmitAll_outgoing u, transmitAll_attention u⟩
  · have free : u.serving = false := by simp [State.serving, idle]
    have shows : conclude s u = transmitAll (offer (u.lampFrame u.lampOutputs) u) := by
      rw [conclude, announceLamps, if_neg same, free, if_neg (by decide)]
    have lamps : (conclude s u).lampOutputs = u.lampOutputs := by
      rw [shows, transmitAll_lampOutputs, offer_lampOutputs room.lt]
    have strap : (conclude s u).status.strap = u.status.strap := by
      rw [shows, transmitAll_status, offer_status_of_room room.lt]
    rw [State.lampChange, if_neg (by rw [lamps]; exact same), lampFrame_of_strap strap, lamps, shows, transmitAll_outgoing,
      transmitAll_attention, offer_outgoing _ _ room.lt]
    exact ⟨rfl, attention_congr (by rw [offer_status_of_room room.lt]) (by rw [offer_status_of_room room.lt])⟩

/-- R167, R168: what a command that leaves no request to be served puts out. -/
theorem exec_puts {s t : State} {i : Instr} (ran : exec i s = .next t) (notPower : ∀ strap, i ≠ .powerOnReset strap)
    (notSent : i ≠ .returnFrameSent) (idle : s.port.requests = []) (idle' : t.port.requests = []) (room : s.hasRoom 4) :
    ∃ before, t.outgoing = s.outgoing ++ before ++ s.lampChange t ∧ (∀ f ∈ before, f.isLamp = false) ∧
      (before.filter UpFrame.isNotice).length = if s.attention = false ∧ t.attention = true then 1 else 0 := by
  cases taken_of_exec ran with
  | nothing =>
    refine ⟨[], ?_, fun _ mem => absurd mem List.not_mem_nil, ?_⟩
    · rw [State.lampChange, if_pos rfl, List.append_nil, List.append_nil]
    · cases s.attention <;> simp
  | acted act =>
    next u =>
    have after : u.port.requests = [] := (conclude_quietly s u).2.symm.trans idle'
    have puts : Puts 3 s u := by
      obtain puts | queued | ⟨-, puts⟩ | ⟨sent, -⟩ := act_puts act
      · exact puts
      · rw [idle, after] at queued
        exact absurd queued (Nat.lt_irrefl _)
      · exact puts idle
      · exact absurd sent notSent
    obtain ⟨added, out, dark, notices, few, queue⟩ := puts.puts idle (room.mono (by decide))
    have left : u.hasRoom 1 := by
      unfold State.hasRoom at *
      omega
    obtain ⟨out', attention⟩ := conclude_puts (s := s) after left
    exact ⟨added, by rw [out', out], dark, by rw [notices, attention]⟩
  | served queue => rw [idle] at queue; exact absurd queue (by simp)
  | powerOn strap => exact absurd rfl (notPower strap)
  | reset queue => rw [idle] at queue; exact absurd queue (by simp)

/-! ### What a service holds (R167) -/

/-- A service has left the port alone, and holds a NOTICE where attention has risen. -/
structure Holds (s u : State) : Prop where
  port : u.port = s.port
  notice : u.status.heldNotice = (s.status.heldNotice || (!s.attention && u.attention))
  lamps : u.status.heldLamps = s.status.heldLamps
  strap : u.status.strap = s.status.strap

/-- Flags have been latched, and no LAMP frame has been held. -/
def Latches (s u : State) : Prop := Announces s u ∧ u.status.heldLamps = s.status.heldLamps

theorem Latches.trans {s t u : State} (first : Latches s t) (later : Latches t u) : Latches s u := by
  obtain ⟨announces, lamps⟩ := first
  obtain ⟨announces', lamps'⟩ := later
  exact ⟨announces.trans announces', lamps'.trans lamps⟩

theorem Latches.of_same {s u : State} (port : u.port = s.port) (status : u.status.latched = s.status.latched)
    (masked : u.status.masked = s.status.masked) (strap : u.status.strap = s.status.strap)
    (held : u.status.heldNotice = s.status.heldNotice) (lamps : u.status.heldLamps = s.status.heldLamps) : Latches s u :=
  ⟨.of_same port status masked strap held, lamps⟩

theorem Latches.of_status {s u : State} (port : u.port = s.port) (status : u.status = s.status) : Latches s u :=
  .of_same port (by rw [status]) (by rw [status]) (by rw [status]) (by rw [status]) (by rw [status])

theorem Touches.latches {A : List Part} {s u : State} (touched : Touches A s u) : Latches s u :=
  ⟨touched.announces, by rw [touched.status]⟩

theorem Latches.keptByChambers (s : State) : KeptByChambers (Latches s) where
  latch i u latches := latches.trans ⟨latch_announces i u, latch_heldLamps i u⟩
  written _ _ _ _ latches := latches.trans (.of_status rfl rfl)

theorem Latches.holds {s u : State} (serving : s.port.requests ≠ []) (latches : Latches s u) : Holds s u := by
  obtain ⟨announces, lamps⟩ := latches
  obtain ⟨port, notice⟩ := announces.serving serving
  exact ⟨port, notice, lamps, announces.strap⟩

theorem writeMask_latches (i : Nat) (m : Bool) (s : State) : Latches s (writeMask i m s) := by
  have written : Latches s (s.setRoute i { s.route i with fields := { (s.route i).fields with masked := m } }) :=
    .of_status rfl rfl
  simp only [writeMask]
  split
  · exact written.trans (Touches.becomeMasked i _).latches
  · exact written.trans (Touches.becomeUnmasked i _).latches
  · exact written

theorem takeRoute_latches (i : Nat) (x : RouteFields) (s : State) : Latches s (takeRoute i x s) := by
  unfold takeRoute
  split
  · have dropped : Latches s (dropPending i x.defer s) := by
      unfold dropPending
      split
      · exact (Touches.setRouteState i _ _ s).latches
      · exact .of_status rfl rfl
    have written : Latches (dropPending i x.defer s) ((dropPending i x.defer s).setRoute i
        { (dropPending i x.defer s).route i with
          fields := { ((dropPending i x.defer s).route i).fields with defer := x.defer } }) := .of_status rfl rfl
    exact ((dropped.trans written).trans (writeMask_latches i _ _)).trans (Touches.drainReleases _).latches
  · exact .of_status rfl rfl

theorem select_latches (sel : TuningSelection) (s : State) : Latches s (select sel s) := by
  unfold select
  split
  · split
    · exact .of_status rfl rfl
    · have ended : Latches s (endPresentTuning s) := by
        unfold endPresentTuning
        split
        · exact (Touches.endTuningRow _ s).latches
        · exact .of_status rfl rfl
      have chosen : Latches (endPresentTuning s) (setSelection sel (endPresentTuning s)) := .of_status rfl rfl
      exact (ended.trans chosen).trans (Touches.startTuningRow sel _).latches
  · exact .of_status rfl rfl

theorem writeKeySetting_latches (r : Nat) (x : KeySetting) (s : State) : Latches s (writeKeySetting r x s) := by
  have written : Latches s (s.setKeySetting r x) := .of_status rfl rfl
  simp only [writeKeySetting]
  split
  · exact written
  · exact (written.trans (Touches.setRow (A := [.row .key]) (by decide) r _ _).latches).trans (Touches.keyRun r _ _).latches

/-- Flags cleared raise no attention. -/
theorem clearItems_holds (items : List StatusItem) (s : State) : Holds s (clearItems items s) := by
  have settings := clearItems_settings items s
  have falls : (clearItems items s).attention = true → s.attention = true := by
    intro high
    obtain ⟨i, known, up⟩ := List.any_eq_true.1 high
    refine List.any_eq_true.2 ⟨i, known, ?_⟩
    have masked : (clearItems items s).maskedItem i = s.maskedItem i := by
      rw [State.maskedItem, clearItems_masked]
      rfl
    simp only [State.raised, Bool.and_eq_true, clearItems_latched, masked] at up ⊢
    exact ⟨up.1.1, up.2⟩
  refine ⟨clearItems_port items s, ?_, by rw [settings]; rfl, clearItems_strap items s⟩
  have held : (clearItems items s).status.heldNotice = s.status.heldNotice := by rw [settings]; rfl
  rw [held]
  revert falls
  cases s.attention <;> cases (clearItems items s).attention <;> simp

/-- R167: a rise of attention from a change of masks is held behind the REPLY. -/
theorem announce_holds {s u : State} (serving : s.port.requests ≠ []) (port : u.port = s.port)
    (held : u.status.heldNotice = s.status.heldNotice) (lamps : u.status.heldLamps = s.status.heldLamps)
    (strap : u.status.strap = s.status.strap) : Holds s (announce s u) := by
  have busy : u.serving = true := by simp [State.serving, port, serving]
  unfold announce
  by_cases rise : (u.attention && !s.attention) = true
  · rw [if_pos rise, if_pos busy]
    have same : (u.setStatus { u.status with heldNotice := true }).attention = u.attention := attention_congr rfl rfl
    simp only [Bool.and_eq_true, Bool.not_eq_true'] at rise
    obtain ⟨high, low⟩ := rise
    exact ⟨port, by rw [same, high, low]; simp, lamps, strap⟩
  · rw [if_neg rise]
    refine ⟨port, ?_, lamps, strap⟩
    rw [held]
    revert rise
    cases s.attention <;> cases u.attention <;> simp

/-- Every service leaves its frames to the end of the request. -/
theorem serves_holds {s : State} {acted : Served} (serves : Serves s acted) (serving : s.port.requests ≠ []) :
    Holds s acted.1 := by
  have played : ∀ {v : State} {A : List Part}, Touches A s v → Holds s v := fun t => t.latches.holds serving
  have chambers := Latches.keptByChambers s
  have start : Latches s s := .of_status rfl rfl
  cases serves with
  | mode m => exact played (Touches.modeSet m s)
  | route read inTable taken => exact (takeRoute_latches _ _ s).holds serving
  | keyRow read inTable => exact (writeKeySetting_latches _ _ s).holds serving
  | mask i m => exact ((writeMask_latches i m s).trans (Touches.drainReleases _).latches).holds serving
  | raise inTable => exact (chambers.enterBlower _ s start).holds serving
  | lower inTable => exact (chambers.enterLowering _ s start).holds serving
  | select sel => exact (select_latches sel s).holds serving
  | addHold p tune =>
    unfold addHold
    split
    · exact start.holds serving
    · split
      · exact start.holds serving
      · split
        · exact start.holds serving
        · have held : Latches s (setHolds (s.claims.holds ++ [p]) s) := .of_status rfl rfl
          exact (held.trans (Touches.addClaim p _).latches).holds serving
  | removeHold p tune =>
    unfold removeHold
    split
    · have held : Latches s (setHolds (s.claims.holds.filter (fun q => q ≠ p)) s) := .of_status rfl rfl
      exact (held.trans (Touches.removeClaim p _).latches).holds serving
    · exact start.holds serving
  | clearHolds tune => exact played (Touches.emptyTuningHolds s)
  | readGroup g => exact clearItems_holds (groupItems g) s
  | snapshot =>
    have cleared := clearItems_holds allItems s
    rw [← clearAll_eq] at cleared
    exact cleared
  | maskItem x => exact announce_holds serving rfl rfl rfl rfl
  | ciphers x => exact (chambers.clearCiphers x s start).holds serving
  | releaseAll =>
    have asked := (Touches.askRelease s).latches
    have drained := (asked.trans (Touches.drainReleases _).latches).holds serving
    simp only [releaseAll]
    exact drained
  | _ => exact Latches.holds serving (.of_same rfl rfl rfl rfl rfl rfl)

/-! ### What a service puts out (R157, R167, R168) -/

theorem holdLamps_holds {s u : State} (holds : Holds s u) : (holdLamps s u).port = s.port ∧
    (holdLamps s u).status.latched = u.status.latched ∧ (holdLamps s u).status.masked = u.status.masked ∧
    (holdLamps s u).status.strap = s.status.strap ∧ (holdLamps s u).status.heldNotice = u.status.heldNotice ∧
    (holdLamps s u).lampOutputs = u.lampOutputs ∧ (holdLamps s u).status.heldLamps = s.status.heldLamps ++
      if u.lampOutputs = s.lampOutputs then [] else [u.lampOutputs] := by
  obtain ⟨port, -, lamps, strap⟩ := holds
  unfold holdLamps
  by_cases same : u.lampOutputs = s.lampOutputs
  · rw [if_pos same, if_pos same, List.append_nil]
    exact ⟨port, rfl, rfl, strap, rfl, rfl, lamps⟩
  · rw [if_neg same, if_neg same]
    exact ⟨port, rfl, rfl, strap, rfl, lampOutputs_congr rfl rfl rfl rfl rfl rfl rfl rfl,
      congrArg (· ++ [u.lampOutputs]) lamps⟩

theorem afterService_puts {s u : State} {r : Request} {reply : Reply} (holds : Holds s u)
    (room : s.hasRoom (s.status.heldLamps.length + 3)) :
    ∃ t, s.afterService r (u, reply) = t ∧ t.outgoing = s.outgoing ++ s.replyFrame r.tag reply ::
      ((if s.status.heldNotice = true ∨ (s.attention = false ∧ t.attention = true) then [t.noticeFrame] else []) ++
        s.status.heldLamps.map s.lampFrame ++ s.lampChange t) := by
  obtain ⟨port, latched, masked, strap, notice, lamps, held⟩ := holdLamps_holds holds
  have again : s.afterService r (u, reply) = (holdLamps s u).afterService r (holdLamps s u, reply) := by
    have still : holdLamps (holdLamps s u) (holdLamps s u) = holdLamps s u := if_pos rfl
    simp only [State.afterService, finishService, still]
  have few : (holdLamps s u).heldFrames.length + 1 ≤ s.status.heldLamps.length + 3 := by
    have most := heldFrames_length_le (holdLamps s u)
    rw [held, List.length_append] at most
    split at most
    · rw [List.length_nil] at most
      omega
    · rw [List.length_singleton] at most
      omega
  obtain ⟨out, status⟩ := afterService_room (r := r) (reply := reply) (u := holdLamps s u) rfl
    ((room.of_queue (by rw [port])).mono few)
  have reports : ReportsOnly (holdLamps s u) (s.afterService r (u, reply)) := by
    have ends : s.afterService r (u, reply) =
        transmitAll (leaveQueue (releaseHeld (sendReply r.tag reply (holdLamps s u)))) := rfl
    rw [ends]
    exact (((sendReply_reportsOnly _ _ _).trans (releaseHeld_reportsOnly _)).trans (leaveQueue_reportsOnly _)).trans
      (transmitAll_reportsOnly _)
  rw [← again] at out status
  refine ⟨_, rfl, ?_⟩
  generalize s.afterService r (u, reply) = t at *
  have attention : t.attention = u.attention := attention_congr (by rw [status, latched]) (by rw [status, masked])
  have outputs : t.lampOutputs = u.lampOutputs :=
    (lampOutputs_of_reports reports (by rw [status])).trans lamps
  have strap' : t.status.strap = s.status.strap := by rw [status, strap]
  have noticeFrame : (holdLamps s u).noticeFrame = t.noticeFrame := by
    have raised : (holdLamps s u).raised = t.raised := by
      funext i
      simp only [State.raised, State.latched, State.maskedItem, status]
    simp only [State.noticeFrame, State.noticeGroups, raised, strapByte_of_status (strap.trans strap'.symm)]
  have replyFrame : (holdLamps s u).replyFrame r.tag reply = s.replyFrame r.tag reply := by
    simp only [State.replyFrame, strapByte_of_status strap]
  have sent : (holdLamps s u).outgoing = s.outgoing := by simp only [State.outgoing, port]
  have asked : ((holdLamps s u).status.heldNotice = true) ↔
      (s.status.heldNotice = true ∨ (s.attention = false ∧ t.attention = true)) := by
    rw [notice, holds.notice, attention]
    simp
  have notices : (if (holdLamps s u).status.heldNotice = true then [t.noticeFrame] else []) =
      if s.status.heldNotice = true ∨ (s.attention = false ∧ t.attention = true) then [t.noticeFrame] else [] :=
    if_congr asked rfl rfl
  have change : (if u.lampOutputs = s.lampOutputs then [] else [u.lampOutputs]).map s.lampFrame = s.lampChange t := by
    rw [State.lampChange, outputs, lampFrame_of_strap strap']
    split
    · rfl
    · rfl
  rw [out, sent, replyFrame, State.heldFrames, noticeFrame, held, lampFrame_of_strap strap, List.map_append, notices, change,
    List.append_assoc]

/-! ### STATUS-MASK and latches (R166, R167) -/

/-- R167: attention after a flag is set. -/
theorem setFlag_attention {item : StatusItem} (known : item ∈ allItems) (s : State) :
    (setFlag item s).attention = (s.attention || !s.maskedItem item) := by
  have masked : ∀ j, (setFlag item s).maskedItem j = s.maskedItem j := fun j => by
    rw [State.maskedItem, setFlag_status item s]
    rfl
  rw [Bool.eq_iff_iff, Bool.or_eq_true, Bool.not_eq_true']
  refine ⟨fun high => ?_, fun either => ?_⟩
  · obtain ⟨j, mem, up⟩ := List.any_eq_true.1 high
    simp only [State.raised, masked, setFlag_latched, Bool.and_eq_true, Bool.not_eq_true'] at up
    obtain ⟨set, free⟩ := up
    by_cases own : itemIndex j = itemIndex item
    · rw [itemIndex_injective mem known own] at free
      exact .inr free
    · rw [if_neg own] at set
      exact .inl (List.any_eq_true.2 ⟨j, mem, by simp [State.raised, set, free]⟩)
  · rcases either with high | free
    · exact attention_eq_any (by rw [setFlag_status item s]) (setFlag_rises item s) high
    · exact List.any_eq_true.2 ⟨item, known, by simp [State.raised, setFlag_latched, masked, free]⟩

theorem latch_outgoing {item : StatusItem} (known : item ∈ allItems) {s : State} (idle : s.port.requests = [])
    (room : s.hasRoom 1) : (latch item s).outgoing = s.outgoing ++
      (if s.attention = false ∧ s.maskedItem item = false then [(latch item s).noticeFrame] else []) := by
  have attention := setFlag_attention known s
  have port := setFlag_port item s
  have free : (setFlag item s).serving = false := by simp [State.serving, port, idle]
  have room' : (setFlag item s).hasRoom 1 := room.of_queue (by rw [port])
  have sent : (setFlag item s).outgoing = s.outgoing := by simp only [State.outgoing, port]
  by_cases rises : s.attention = false ∧ s.maskedItem item = false
  · obtain ⟨low, unmasked⟩ := rises
    have offered : latch item s = offer (setFlag item s).noticeFrame (setFlag item s) := by
      simp [latch, announce, attention, low, unmasked, free]
    rw [if_pos ⟨low, unmasked⟩, offered, offer_outgoing _ _ room'.lt, sent,
      noticeFrame_of_status (offer_status_of_room room'.lt _)]
  · have still : latch item s = setFlag item s := by
      refine if_neg fun rise => rises ?_
      rw [attention] at rise
      revert rise
      cases s.attention <;> cases s.maskedItem item <;> simp
    rw [if_neg rises, still, sent, List.append_nil]

theorem latch_attention {item : StatusItem} (known : item ∈ allItems) {s : State} (unmasked : s.maskedItem item = false) :
    (latch item s).attention = true := by
  refine List.any_eq_true.2 ⟨item, known, ?_⟩
  have masked : (latch item s).maskedItem item = s.maskedItem item := by
    rw [State.maskedItem, (latch_announces item s).masked]
    rfl
  rw [State.raised, masked, unmasked, latch_latched_same]
  rfl

/-- What was held leaves, the NOTICE first. -/
theorem releaseHeld_notice {s : State} (held : s.status.heldNotice = true) (room : s.hasRoom 1) :
    ∃ later, (releaseHeld s).outgoing = s.outgoing ++ s.noticeFrame :: later := by
  have longer : ∀ (outputs : List (BitVec 16)) (t : State), ∃ later,
      (outputs.foldl (fun u o => offer (u.lampFrame o) u) t).outgoing = t.outgoing ++ later := by
    intro outputs
    induction outputs with
    | nil => exact fun t => ⟨[], (List.append_nil _).symm⟩
    | cons o rest ih =>
      intro t
      obtain ⟨first, out⟩ := (offer_reportsOnly (t.lampFrame o) t).outgoing
      obtain ⟨later, out'⟩ := ih (offer (t.lampFrame o) t)
      exact ⟨first ++ later, by rw [List.foldl_cons, out', out, List.append_assoc]⟩
  obtain ⟨later, out⟩ := longer s.status.heldLamps (offer s.noticeFrame s)
  rw [offer_outgoing _ _ room.lt, List.append_assoc] at out
  refine ⟨later, ?_⟩
  simp only [releaseHeld, held, if_true]
  exact out

/-- R167: a NOTICE that a service holds follows its REPLY directly. -/
theorem afterService_notice {s u : State} {r : Request} {reply : Reply} (holds : Holds s u)
    (held : u.status.heldNotice = true) (room : s.hasRoom 2) : ∃ later,
      (s.afterService r (u, reply)).outgoing = s.outgoing ++ s.replyFrame r.tag reply :: u.noticeFrame :: later := by
  obtain ⟨port, latched, masked, strap, notice, -, -⟩ := holdLamps_holds holds
  have room' : (holdLamps s u).hasRoom 2 := room.of_queue (by rw [port])
  have status := offer_status_of_room room'.lt ((holdLamps s u).replyFrame r.tag reply)
  obtain ⟨later, out⟩ := releaseHeld_notice (s := offer ((holdLamps s u).replyFrame r.tag reply) (holdLamps s u))
    (by rw [status, notice, held]) (room'.offer _)
  have ends : s.afterService r (u, reply) =
      transmitAll (leaveQueue (releaseHeld (offer ((holdLamps s u).replyFrame r.tag reply) (holdLamps s u)))) := rfl
  have raised : (holdLamps s u).raised = u.raised := by
    funext i
    simp only [State.raised, State.latched, State.maskedItem, latched, masked]
  have noticeFrame : (holdLamps s u).noticeFrame = u.noticeFrame := by
    simp only [State.noticeFrame, State.noticeGroups, raised, strapByte_of_status (strap.trans holds.strap.symm)]
  have replyFrame : (holdLamps s u).replyFrame r.tag reply = s.replyFrame r.tag reply := by
    simp only [State.replyFrame, strapByte_of_status strap]
  have sent : (holdLamps s u).outgoing = s.outgoing := by simp only [State.outgoing, port]
  refine ⟨later, ?_⟩
  rw [ends, transmitAll_outgoing, leaveQueue_outgoing, out, noticeFrame_of_status status, noticeFrame,
    offer_outgoing _ _ room'.lt, replyFrame, sent, List.append_assoc]
  rfl

section Mask

variable {g no mask : Byte}

theorem readItemMask_ok {i : StatusItem} (item : itemAt g.toNat no.toNat = some i) (few : mask.toNat ≤ 1) :
    readItemMask g.toNat [no, mask] = .ok (i, decide (mask = 0#8)) := by
  have first : takeEnum (groupItems g.toNat) [no, mask] = some (i, [mask]) := by
    rw [takeEnum, show (groupItems g.toNat)[no.toNat]? = some i from item]
  have second : takeEnum masks [mask] = some (decide (mask = 0#8), []) := by
    have either : mask = 0#8 ∨ mask = 1#8 := by
      rcases Nat.le_one_iff_eq_zero_or_eq_one.1 few with zero | one
      · exact .inl (BitVec.eq_of_toNat_eq zero)
      · exact .inr (BitVec.eq_of_toNat_eq one)
    rcases either with rfl | rfl <;> rfl
  simp only [readItemMask, field, first, second]
  rfl

theorem readItemMask_unknown (beyond : (groupItems g.toNat).length ≤ no.toNat) :
    readItemMask g.toNat [no, mask] = .error 2 := by
  have missing : takeEnum (groupItems g.toNat) [no, mask] = none := by
    rw [takeEnum, List.getElem?_eq_none beyond]
  simp only [readItemMask, field, missing]

end Mask

/-- Settles O44: a mask is read and written; a latch by whether attention rises; a command by the frames its acts put out, or
its service holds. -/
theorem statusMaskSetsMask : Obligations.StatusMaskSetsMask := by
  refine ⟨fun s r g no mask head => ⟨fun beyond => ?_, fun group beyond => ?_, fun group i item few => ?_⟩,
    fun s item known => ⟨latch_latched_same item s, fun idle room => ?_, fun serving => ?_⟩,
    fun s t i ran notPower notSent idle idle' room => ?_, fun s t i r ran notPower notReset notLost notBad first left moved room => ?_⟩
  · exact head.answeredUnchanged (exec_statusMask s) (withNumber_beyond beyond _ _ s)
  · refine head.answeredUnchanged (exec_statusMask s) ?_
    rw [withNumber_inRange group, readItemMask_unknown beyond]
    rfl
  · have acts : withNumber 3 (fun g rest => withFields (readItemMask g rest) maskItem) [g, no, mask] s =
        (announce s (s.setMasked i (decide (mask = 0#8))), .done []) := by
      rw [withNumber_inRange group, readItemMask_ok item few]
      rfl
    have holds : Holds s (announce s (s.setMasked i (decide (mask = 0#8)))) :=
      announce_holds head.serving rfl rfl rfl rfl
    obtain ⟨ran, answered, reports⟩ := head.answers (exec_statusMask s) acts holds.port holds.strap
    refine ⟨⟨_, ran, answered, (announce_reportsOnly s _).trans reports⟩, fun low high room => ?_⟩
    have busy : (s.setMasked i (decide (mask = 0#8))).serving = true := by
      have serving := head.serving
      simp [State.serving, State.setMasked, serving]
    have risen : announce s (s.setMasked i (decide (mask = 0#8))) = (s.setMasked i (decide (mask = 0#8))).setStatus
        { (s.setMasked i (decide (mask = 0#8))).status with heldNotice := true } := by
      unfold announce
      rw [high, low]
      exact if_pos busy
    obtain ⟨later, out⟩ := afterService_notice (r := r) (reply := .done []) holds (by rw [risen]; rfl) room
    have frame : (announce s (s.setMasked i (decide (mask = 0#8)))).noticeFrame =
        (s.setMasked i (decide (mask = 0#8))).noticeFrame := by rw [risen]; rfl
    rw [frame] at out
    exact ⟨_, later, ran, out⟩
  · exact latch_outgoing known idle room
  · obtain ⟨port, notice⟩ := (latch_announces item s).serving serving
    refine ⟨by simp only [State.outgoing, port], fun low unmasked => ?_⟩
    rw [notice, low, latch_attention known unmasked]
    simp
  · obtain ⟨before, out, dark, notices⟩ := exec_puts ran notPower notSent idle idle' room
    refine ⟨before ++ s.lampChange t, by rw [out, List.append_assoc], ?_⟩
    have plain : (s.lampChange t).filter UpFrame.isNotice = [] := by
      unfold State.lampChange
      split
      · rfl
      · rfl
    rw [List.filter_append, plain, List.append_nil, notices]
  · obtain ⟨rest, queue⟩ := List.head?_eq_some_iff.1 first
    rw [queue, List.tail_cons] at left
    cases taken_of_exec ran with
    | nothing => exact absurd rfl moved
    | acted act =>
      next u =>
      have same := (conclude_quietly s u).2
      rw [left] at same
      have fewer : u.port.requests.length < s.port.requests.length := by
        rw [← same, queue]
        exact Nat.lt_succ_self _
      obtain puts | queued | ⟨lost | bad, -⟩ | ⟨-, kept⟩ := act_puts act
      · rw [puts.requests] at fewer
        exact absurd fewer (Nat.lt_irrefl _)
      · exact absurd queued (Nat.lt_asymm fewer)
      · exact absurd lost notLost
      · exact absurd bad notBad
      · rw [kept] at fewer
        exact absurd fewer (Nat.lt_irrefl _)
    | served queue' serves =>
      next r' rest' acted =>
      obtain rfl : r = r' := by rw [queue] at queue'; exact (List.cons.inj queue').1
      obtain ⟨v, reply⟩ := acted
      have holds := serves_holds serves (by rw [queue]; exact List.cons_ne_nil _ _)
      obtain ⟨t, rfl, out⟩ := afterService_puts (r := r) (reply := reply) holds room
      exact ⟨reply, out⟩
    | powerOn strap => exact absurd rfl (notPower strap)
    | reset queue => exact absurd rfl notReset

/-! ### Lamps (R168) -/

theorem testBit_foldr (f : Nat → Bool) (l : List Nat) (i : Nat) :
    (l.foldr (fun n acc => (f n).toNat + 2 * acc) 0).testBit i = (l[i]?.map f).getD false := by
  induction l generalizing i with
  | nil => simp
  | cons n rest ih =>
    rw [List.foldr_cons]
    have few := Bool.toNat_le (f n)
    cases i with
    | zero =>
      rw [Nat.testBit_zero]
      cases lit : f n <;> simp [lit]
    | succ i =>
      have half : ((f n).toNat + 2 * rest.foldr (fun n acc => (f n).toNat + 2 * acc) 0) / 2 =
          rest.foldr (fun n acc => (f n).toNat + 2 * acc) 0 := by omega
      rw [Nat.testBit_succ, half, ih, List.getElem?_cons_succ]

theorem lampOutputs_getLsbD (s : State) {n : Nat} (inTable : n < 16) : s.lampOutputs.getLsbD n = s.lampOutput n := by
  rw [State.lampOutputs, BitVec.getLsbD_ofNat, testBit_foldr]
  simp [inTable]

theorem itemLit_iff (s : State) (i : StatusItem) : s.itemLit i = true ↔ s.followLit i := by
  cases i with
  | link | mode | state c | driverFault c => exact decide_eq_true_iff
  | ext | wind c | supply c | waiting => exact Iff.rfl
  | cipher => simp [State.itemLit, State.cipherAny, State.followLit]
  | returnOverrun | cipherOverflow | genSteal | pizzFull | seqNoPlayer | seqHoldFull => exact Option.isSome_iff_exists

theorem stretch_setStretch (i j : StatusItem) (x : Option Nat) (s : State) :
    (s.setStretch i x).stretch j = if itemIndex j = itemIndex i then x else s.stretch j := Table.get_put _ _ _ _ _

theorem setStretch_quietly (i : StatusItem) (x : Option Nat) (s : State) : QuietlySame s (s.setStretch i x) :=
  ⟨⟨rfl, rfl, rfl, rfl, rfl, rfl, rfl, rfl, rfl, fun _ => rfl, rfl, rfl, fun _ _ => rfl,
    ⟨[], (List.append_nil _).symm⟩⟩, rfl⟩

theorem eventItem_event (item : EventItem) : isEvent (eventItem item) = true := by cases item <;> rfl

theorem eventItem_injective {i j : EventItem} (same : itemIndex (eventItem i) = itemIndex (eventItem j)) : i = j := by
  revert same
  cases i <;> cases j <;> decide

/-- A flag set starts no stretch but 100 ms, and leaves a stretch of 100 ms so. -/
theorem setFlag_stretch (i : StatusItem) {j : StatusItem} {s : State} (runs : s.stretch j = some 100) :
    (setFlag i s).stretch j = some 100 := by
  have latched : (s.setLatched i true).stretch j = some 100 := runs
  simp only [setFlag]
  split
  · rw [stretch_setStretch]
    split
    · rfl
    · exact latched
  · exact latched

theorem latch_stretch (item : EventItem) (s : State) :
    (latch (eventItem item) s).stretch (eventItem item) = some 100 := by
  have kept : KeptByReports (fun t => t.stretch (eventItem item) = some 100) :=
    { offered := fun f t runs => by
        by_cases room : t.port.returnQueue.length < Config.returnCapacity
        · have same := congrArg (fun status : Status => status.stretch.get none (itemIndex (eventItem item)))
            (offer_status_of_room room f)
          exact same.trans runs
        · rw [offer_full f t room]
          simp only [overrun]
          split
          · exact setFlag_stretch _ runs
          · exact setFlag_stretch _ runs
      flagged := fun i t runs => setFlag_stretch i runs
      held := fun _ _ _ runs => runs }
  refine kept.announce s _ ?_
  simp only [setFlag, eventItem_event, if_true]
  rw [stretch_setStretch, if_pos rfl]
  rfl

/-- The end of a command starts no stretch while there is room for its LAMP frame. -/
theorem conclude_stretch {s u : State} (room : u.hasRoom 1) : (conclude s u).status.stretch = u.status.stretch := by
  rw [conclude, transmitAll_status]
  unfold announceLamps
  split
  · rfl
  · split
    · unfold holdLamps
      split
      · rfl
      · rfl
    · rw [offer_status_of_room room.lt]

/-- A turn of the blink clock changes the outputs where a lamp blinks. -/
theorem blink_outputs (s : State) (left : Nat) :
    ((∃ n, n < 16 ∧ (s.lamp n).mode = .blink) →
      (s.setStatus { s.status with blinkOn := !s.status.blinkOn, blinkLeft := left }).lampOutputs ≠ s.lampOutputs) ∧
    ((∀ n, n < 16 → (s.lamp n).mode ≠ .blink) →
      (s.setStatus { s.status with blinkOn := !s.status.blinkOn, blinkLeft := left }).lampOutputs = s.lampOutputs) := by
  refine ⟨fun ⟨n, inTable, blinks⟩ same => ?_, fun steady => BitVec.eq_of_getLsbD_eq fun n inTable => ?_⟩
  · have bit := congrArg (fun b : BitVec 16 => b.getLsbD n) same
    simp only [lampOutputs_getLsbD _ inTable, State.lampOutput] at bit
    have lamp : (s.setStatus { s.status with blinkOn := !s.status.blinkOn, blinkLeft := left }).lamp n = s.lamp n := rfl
    rw [lamp] at bit
    simp [blinks] at bit
  · rw [lampOutputs_getLsbD _ inTable, lampOutputs_getLsbD _ inTable]
    have other := steady n inTable
    have lamp : (s.setStatus { s.status with blinkOn := !s.status.blinkOn, blinkLeft := left }).lamp n = s.lamp n := rfl
    simp only [State.lampOutput, lamp]
    cases mode : (s.lamp n).mode with
    | off => rfl
    | steady => rfl
    | blink => exact absurd mode other
    | follow => exact congrArg (xor · _) (by cases (s.lamp n).item <;> rfl)

/-- Settles O60: a lamp by its mode, a command by the LAMP frame of its end, and the two clocks. -/
theorem lampClocksAct : Obligations.LampClocksAct := by
  refine ⟨fun s n inTable => ?_, fun s item => latch_stretch item s, fun s t i ran notPower notSent idle idle' room => ?_,
    fun s => ⟨⟨_, rfl, ?_, fun blinks idle room => ?_, fun steady => ?_⟩, fun item => ⟨_, rfl, ?_, fun room => ?_⟩⟩⟩
  · rw [lampOutputs_getLsbD s inTable]
    refine ⟨fun mode => ?_, fun mode => ?_, fun mode => ?_, fun mode => ?_⟩
    · simp only [State.lampOutput, mode]
    · simp only [State.lampOutput, mode]
    · simp only [State.lampOutput, mode]
    · rw [← itemLit_iff]
      simp only [State.lampOutput, mode]
      cases s.itemLit (s.lamp n).item <;> cases (s.lamp n).invert <;> simp
  · obtain ⟨before, out, dark, -⟩ := exec_puts ran notPower notSent idle idle' room
    exact ⟨before, out, dark⟩
  · exact conclude_quietly s _
  · obtain ⟨changes, -⟩ := blink_outputs s Config.blinkHalf
    obtain ⟨out, -⟩ := conclude_puts (s := s)
      (u := s.setStatus { s.status with blinkOn := !s.status.blinkOn, blinkLeft := Config.blinkHalf }) idle room
    have reports := (conclude_quietly s
      (s.setStatus { s.status with blinkOn := !s.status.blinkOn, blinkLeft := Config.blinkHalf })).1
    have stretch := conclude_stretch (s := s)
      (u := s.setStatus { s.status with blinkOn := !s.status.blinkOn, blinkLeft := Config.blinkHalf }) room
    have outputs := lampOutputs_of_reports reports stretch
    rw [State.lampChange, if_neg (by rw [outputs]; exact changes blinks)] at out
    exact out
  · obtain ⟨-, still⟩ := blink_outputs s Config.blinkHalf
    exact conclude_outgoing_sameLamps (still steady)
  · exact (setStretch_quietly (eventItem item) none s).conclude s
  · have stretch := conclude_stretch (s := s) (u := s.setStretch (eventItem item) none) room
    have after : ∀ j, (conclude s (s.setStretch (eventItem item) none)).stretch j =
        if itemIndex j = itemIndex (eventItem item) then none else s.stretch j := fun j => by
      rw [← stretch_setStretch, State.stretch, stretch]
      rfl
    refine ⟨(after _).trans (if_pos rfl), fun j other => (after _).trans (if_neg fun same => other ?_)⟩
    exact eventItem_injective same

end Sys2Proof.Machine
end

section
/-! PROOF. RELAY-RESET (R145, R169). -/

namespace Sys2Proof.Machine

/-! ### A controller at RELAY-RESET -/

/-- Groups set forced with their driven images kept, one after the other. -/
def Chamber.resetEach (old : Chamber) (gs : List Nat) (ch : Chamber) : Chamber :=
  gs.foldl (fun x g => x.setGroup g ⟨(old.group g).driven, 0, true⟩) ch

theorem Chamber.resetEach_group (old : Chamber) (gs : List Nat) (ch : Chamber) (g : Nat) :
    (old.resetEach gs ch).group g = if g ∈ gs then ⟨(old.group g).driven, 0, true⟩ else ch.group g := by
  induction gs generalizing ch with
  | nil => simp [Chamber.resetEach]
  | cons h rest ih =>
    have step : old.resetEach (h :: rest) ch = old.resetEach rest (ch.setGroup h ⟨(old.group h).driven, 0, true⟩) := rfl
    rw [step, ih, Chamber.group_setGroup]
    by_cases later : g ∈ rest
    · rw [if_pos later, if_pos (List.mem_cons_of_mem _ later)]
    · by_cases own : g = h
      · rw [if_neg later, if_pos own, if_pos (by rw [own]; exact List.mem_cons_self), own]
      · rw [if_neg later, if_neg own, if_neg (by simp [own, later])]

theorem Chamber.resetEach_eq (old : Chamber) (gs : List Nat) (ch : Chamber) :
    old.resetEach gs ch = { ch with groups := (old.resetEach gs ch).groups } := by
  induction gs generalizing ch with
  | nil => rfl
  | cons g rest ih => exact ih (ch.setGroup g ⟨(old.group g).driven, 0, true⟩)

/-- R145, R151: the reset controller is the power-on one but for its groups and the frame on the link. -/
theorem Chamber.relayReset_eq (ch : Chamber) : ∃ groups, ch.relayReset = { resetChamber with groups := groups, tx := ch.tx } ∧
    ∀ g, g < 16 → ch.relayReset.group g = ⟨(ch.group g).driven, 0, true⟩ := by
  have resets : ch.relayReset = { ch.resetEach (List.range 16) resetChamber with tx := ch.tx } := rfl
  refine ⟨(ch.resetEach (List.range 16) resetChamber).groups, ?_, fun g inRange => ?_⟩
  · rw [resets, ch.resetEach_eq (List.range 16) resetChamber]
  · have groups : ch.relayReset.group g = (ch.resetEach (List.range 16) resetChamber).group g := rfl
    rw [groups, Chamber.resetEach_group, if_pos (List.mem_range.2 inRange)]

/-- R145: the first frame on a free chamber link is the CONTROL frame of both lines off. -/
theorem relayReset_sends {ch x : Chamber} {u t : State} {c : Nat} (reset : u.chamber c = ch.relayReset)
    (chooses : Chooses c u t) (after : t.chamber c = x) : ∃ groups tx due,
    x = { resetChamber with groups := groups, tx := tx, controlDue := due } ∧
    (∀ g, g < 16 → x.group g = ⟨(ch.group g).driven, 0, true⟩) ∧
    (ch.tx = .free → tx = .control false false ∧ due = false) ∧ (ch.tx ≠ .free → tx = ch.tx ∧ due = true) := by
  obtain ⟨groups, eq, group⟩ := ch.relayReset_eq
  by_cases free : ch.tx = .free
  · have sent := chooses.control (by rw [reset, eq]; exact free) (.inl (by rw [reset, eq]; rfl))
    rw [after, reset] at sent
    refine ⟨groups, .control false false, false, ?_, fun g inRange => ?_, fun _ => ⟨rfl, rfl⟩, fun busy => absurd free busy⟩
    · rw [sent, eq]
      rfl
    · rw [← group g inRange, sent]
      rfl
  · have still := chooses.busy (by rw [reset, eq]; exact free)
    rw [after, reset] at still
    refine ⟨groups, ch.tx, true, by rw [still, eq]; rfl, fun g inRange => ?_, fun other => absurd other free,
      fun _ => ⟨rfl, rfl⟩⟩
    rw [still]
    exact group g inRange

/-! ### The frames before the reset -/

/-- The state before the blocks are reset: the REPLY, what was held and the dark LAMP have been offered. -/
def State.beforeReset (s : State) (tag : Byte) : State :=
  if s.lampOutputs = 0 then releaseHeld (offer (s.replyFrame tag (.done [])) s)
  else offer ((releaseHeld (offer (s.replyFrame tag (.done [])) s)).lampFrame 0)
    (releaseHeld (offer (s.replyFrame tag (.done [])) s))

theorem relayReset_eq (tag : Byte) (s : State) : relayReset tag s = transmitAll (resetBlocks (s.beforeReset tag)) := rfl

theorem beforeReset_reports (s : State) (tag : Byte) :
    ReportsOnly (offer (s.replyFrame tag (.done [])) s) (s.beforeReset tag) := by
  unfold State.beforeReset
  split
  · exact releaseHeld_reportsOnly _
  · exact (releaseHeld_reportsOnly _).trans (offer_reportsOnly _ _)

theorem beforeReset_chambers (s : State) (tag : Byte) : (s.beforeReset tag).chambers = s.chambers := by
  unfold State.beforeReset
  split
  · rw [releaseHeld_chambers, offer_chambers]
  · rw [offer_chambers, releaseHeld_chambers, offer_chambers]

theorem offer_queue_le (f : UpFrame) (s : State) :
    (offer f s).port.returnQueue.length ≤ s.port.returnQueue.length + 1 := by
  by_cases room : s.port.returnQueue.length < Config.returnCapacity
  · have placed : offer f s = startLine (s.setPort { s.port with returnQueue := s.port.returnQueue ++ [f] }) := if_pos room
    have shorter := startLine_queue_le (s.setPort { s.port with returnQueue := s.port.returnQueue ++ [f] })
    rw [State.setPort_port, List.length_append] at shorter
    rw [placed]
    exact shorter
  · rw [offer_full f s room, overrun_port]
    exact Nat.le_succ _

theorem releaseHeld_queue_le (s : State) :
    (releaseHeld s).port.returnQueue.length ≤ s.port.returnQueue.length + 1 + s.status.heldLamps.length := by
  have longer : ∀ (outputs : List (BitVec 16)) (t : State),
      (outputs.foldl (fun u o => offer (u.lampFrame o) u) t).port.returnQueue.length ≤
        t.port.returnQueue.length + outputs.length := by
    intro outputs
    induction outputs with
    | nil => exact fun t => le_refl _
    | cons o rest ih =>
      intro t
      have first := offer_queue_le (t.lampFrame o) t
      have later := ih (offer (t.lampFrame o) t)
      rw [List.foldl_cons, List.length_cons]
      omega
  have noticed : (if s.status.heldNotice then offer s.noticeFrame s else s).port.returnQueue.length ≤
      s.port.returnQueue.length + 1 := by
    split
    · exact offer_queue_le _ s
    · exact Nat.le_succ _
  have lamps := longer s.status.heldLamps (if s.status.heldNotice then offer s.noticeFrame s else s)
  exact lamps.trans (Nat.add_le_add_right noticed _)

theorem beforeReset_outgoing {s : State} {tag : Byte} (room : s.hasRoom (s.status.heldLamps.length + 3)) :
    (s.beforeReset tag).outgoing = s.outgoing ++ s.replyFrame tag (.done []) ::
      ((if s.status.heldNotice then [s.noticeFrame] else []) ++ s.status.heldLamps.map s.lampFrame ++
        if s.lampOutputs = 0 then [] else [s.lampFrame 0]) := by
  have status := offer_status_of_room room.lt (s.replyFrame tag (.done []))
  have held : (offer (s.replyFrame tag (.done [])) s).heldFrames = s.heldFrames := by
    simp only [State.heldFrames, noticeFrame_of_status status, lampFrame_of_strap (congrArg Status.strap status), status]
  have few := heldFrames_length_le s
  have room' : (offer (s.replyFrame tag (.done [])) s).hasRoom (s.heldFrames.length + 1) :=
    State.hasRoom.offer (room.mono (by omega)) _
  obtain ⟨out, released⟩ := releaseHeld_room (s := offer (s.replyFrame tag (.done [])) s)
    (by rw [held]; exact room'.mono (Nat.le_succ _))
  rw [held, offer_outgoing _ _ room.lt] at out
  unfold State.beforeReset
  split
  · rw [out, List.append_nil, List.append_assoc]
    rfl
  · have strap : (releaseHeld (offer (s.replyFrame tag (.done [])) s)).status.strap = s.status.strap := by
      rw [released, status]
    have left : (releaseHeld (offer (s.replyFrame tag (.done [])) s)).hasRoom 1 := by
      have first := offer_queue_le (s.replyFrame tag (.done [])) s
      have later := releaseHeld_queue_le (offer (s.replyFrame tag (.done [])) s)
      rw [status] at later
      unfold State.hasRoom at *
      omega
    rw [offer_outgoing _ _ left.lt, out, lampFrame_of_strap strap, List.append_assoc, List.append_assoc]
    rfl

theorem resetBlocks_outgoing (s : State) : (resetBlocks s).outgoing = s.outgoing := rfl

/-- R169: the power-on values of every block, with what is kept; `port`, `free` and `table` are the console port, the count of
free values and the chambers. -/
def State.restored (s : State) (port : Port) (free : Nat) (table : Table Chamber) : State :=
  { State.reset with
    pending := s.pending
    port := port
    ext := { resetExt with sentDown := s.ext.sentDown }
    status := { resetStatus with
      strap := s.status.strap, blinkOn := s.status.blinkOn, blinkLeft := s.status.blinkLeft }
    freeCount := free
    chambers := table }

theorem resetBlocks_restored (s : State) :
    resetBlocks s = s.restored { s.port with requests := [] } s.freeCount (resetBlocks s).chambers := rfl

theorem restored_setChambers (s : State) (port : Port) (free : Nat) (table after : Table Chamber) :
    (s.restored port free table).setChambers after = s.restored port free after := rfl

theorem restored_of_reports {s t : State} (reports : ReportsOnly s t) : t.restored = s.restored := by
  have strap : t.status.strap = s.status.strap := by rw [reports.status]
  have blinkOn : t.status.blinkOn = s.status.blinkOn := by rw [reports.status]
  have blinkLeft : t.status.blinkLeft = s.status.blinkLeft := by rw [reports.status]
  funext port free table
  unfold State.restored
  rw [reports.pending, reports.ext, strap, blinkOn, blinkLeft]

/-- R169: every block of the reset relay but its chambers. -/
theorem relayReset_units (tag : Byte) (s : State) : ∃ free table,
    relayReset tag s = s.restored { (s.beforeReset tag).port with requests := [] } free table := by
  have reports := (offer_reportsOnly (s.replyFrame tag (.done [])) s).trans (beforeReset_reports s tag)
  have units := transmitAll_setChambers (resetBlocks (s.beforeReset tag))
  rw [relayReset_eq, units]
  generalize (transmitAll (resetBlocks (s.beforeReset tag))).chambers = after
  rw [resetBlocks_restored, restored_setChambers, restored_of_reports reports]
  exact ⟨_, _, rfl⟩

theorem relayReset_chamber (tag : Byte) (s : State) {c : Nat} (inRange : c < 4) : ∃ groups tx due,
    (relayReset tag s).chamber c = { resetChamber with groups := groups, tx := tx, controlDue := due } ∧
    (∀ g, g < 16 → ((relayReset tag s).chamber c).group g = ⟨((s.chamber c).group g).driven, 0, true⟩) ∧
    ((s.chamber c).tx = .free → tx = .control false false ∧ due = false) ∧
    ((s.chamber c).tx ≠ .free → tx = (s.chamber c).tx ∧ due = true) := by
  have chambers := beforeReset_chambers s tag
  have reset : (resetBlocks (s.beforeReset tag)).chamber c = (s.chamber c).relayReset := by
    rw [resetBlocks_chamber, if_pos inRange, State.chamber, chambers]
    rfl
  have chosen : Chooses c (resetBlocks (s.beforeReset tag)) (relayReset tag s) :=
    transmits_choose (List.range 4) List.nodup_range (List.mem_range.2 inRange) _
  exact relayReset_sends reset chosen rfl

/-- Settles O17: the frames before the reset, then each block by its power-on values, and each transmitter's choice. -/
theorem relayResets : Obligations.RelayResets := by
  intro s r head
  obtain ⟨first, code, fields⟩ := head
  obtain ⟨rest, queue⟩ := List.head?_eq_some_iff.1 first
  have ran : exec .relayReset s = .next (relayReset r.tag s) := by
    have serves : exec .relayReset s = execRelayReset s := rfl
    rw [serves, execRelayReset, queue]
    simp [hasCode, code, fields]
  have reports := (offer_reportsOnly (s.replyFrame r.tag (.done [])) s).trans (beforeReset_reports s r.tag)
  have link : (s.beforeReset r.tag).port.link = s.port.link := by rw [reports.port]
  have badRun : (s.beforeReset r.tag).port.badRun = s.port.badRun := by rw [reports.port]
  have goodRun : (s.beforeReset r.tag).port.goodRun = s.port.goodRun := by rw [reports.port]
  have timer : (s.beforeReset r.tag).port.timer = s.port.timer := by rw [reports.port]
  have silence : (s.beforeReset r.tag).port.silence = s.port.silence := by rw [reports.port]
  have outgoing : (relayReset r.tag s).outgoing = (s.beforeReset r.tag).outgoing := by
    rw [relayReset_eq, transmitAll_outgoing, resetBlocks_outgoing]
  obtain ⟨added, sent⟩ := (beforeReset_reports s r.tag).outgoing
  obtain ⟨free, table, units⟩ := relayReset_units r.tag s
  have sentFirst : s.port.returnQueue.length < 32 →
      ∃ later, (relayReset r.tag s).outgoing = s.outgoing ++ s.replyFrame r.tag (.done []) :: later := fun room => by
    refine ⟨added, ?_⟩
    rw [outgoing, sent, offer_outgoing _ _ room, List.append_assoc]
    rfl
  have sentAll : s.hasRoom (s.status.heldLamps.length + 3) → (relayReset r.tag s).outgoing = _ := fun room =>
    outgoing.trans (beforeReset_outgoing (tag := r.tag) room)
  have chambers := fun c inRange => relayReset_chamber r.tag s (c := c) inRange
  clear outgoing sent reports
  generalize relayReset r.tag s = t at *
  generalize (s.beforeReset r.tag).port = before at *
  subst units
  refine ⟨_, ran, rfl, sentFirst, fun room => sentAll (by unfold State.hasRoom; omega), rfl, link, badRun,
    goodRun, timer, silence, rfl,
    rfl, rfl, rfl, rfl, rfl, rfl, rfl, rfl, fun c inRange => ?_⟩
  obtain ⟨groups, tx, due, written, group, free, busy⟩ := chambers c inRange
  rw [written] at group ⊢
  exact ⟨rfl, rfl, rfl, rfl, rfl, rfl, rfl, rfl, rfl, rfl, rfl, rfl, rfl, rfl, fun _ => ⟨rfl, rfl⟩, group, rfl, free, busy⟩

end Sys2Proof.Machine
end

section
/-! PROOF. Frames survive their line (R170 to R173). -/

namespace Sys2Proof

open Machine

/-! ### The bytes of an image (R170) -/

theorem imageNat_imageBytes (k n : Nat) : imageNat (imageBytes k n) = n % 256 ^ k := by
  induction k generalizing n with
  | zero => simp [imageBytes, imageNat, Nat.mod_one]
  | succ k ih =>
    have low : (byteOf n).toNat = n % 256 := by simp [byteOf]
    rw [imageBytes, imageNat, ih, low, pow_succ', Nat.mod_mul]

theorem imageBytes_length (k n : Nat) : (imageBytes k n).length = k := by
  induction k generalizing n with
  | zero => rfl
  | succ k ih => rw [imageBytes, List.length_cons, ih]

theorem ofNat_imageNat (k : Nat) (b : BitVec (8 * k)) :
    BitVec.ofNat (8 * k) (imageNat (imageBytes k b.toNat)) = b := by
  have small : b.toNat < 256 ^ k := by
    have lt := b.isLt
    rwa [pow_mul] at lt
  rw [imageNat_imageBytes, Nat.mod_eq_of_lt small, BitVec.ofNat_toNat, BitVec.setWidth_eq]

theorem ofNat_wordOf (b : BitVec 16) : BitVec.ofNat 16 (wordOf (byteOf (b.toNat / 256)) (byteOf b.toNat)) = b := by
  rw [wordOf_wordBytes b.isLt, BitVec.ofNat_toNat, BitVec.setWidth_eq]

/-! ### The envelope (R170 to R172) -/

/-- A frame whose length byte and check agree is opened to its type and payload. -/
theorem openFrame_sent (type : Byte) {payload : Bytes} (few : payload.length ≤ 255) :
    openFrame ((type :: byteOf payload.length :: payload) ++ crcBytes (type :: byteOf payload.length :: payload)) =
      some (type, payload) := by
  have length : (byteOf payload.length).toNat = payload.length := toNat_byteOf (by omega)
  have whole : (payload ++ crcBytes (type :: byteOf payload.length :: payload)).take payload.length = payload := by simp
  have rest : (payload ++ crcBytes (type :: byteOf payload.length :: payload)).drop payload.length =
      crcBytes (type :: byteOf payload.length :: payload) := by simp
  have size : (payload ++ crcBytes (type :: byteOf payload.length :: payload)).length = payload.length + 2 := by
    rw [List.length_append]
    rfl
  simp only [List.cons_append, openFrame]
  rw [length, whole, rest]
  exact if_pos ⟨size, rfl⟩

theorem openFrame_frameBytes (type : Byte) {payload : Bytes} (few : payload.length ≤ 255) :
    openFrame (frameBytes type payload) = some (type, payload) := openFrame_sent type few

end Sys2Proof

namespace Sys2Proof.Machine

/-! ### Frames from a console, a chamber, and the relay below -/

theorem receiveConsole_sent {i : Instr} {bytes : Bytes} (fits : i.wellFormed = true) (sent : consoleFrame i = some bytes) :
    receiveConsole bytes = i := by
  have frame : ∀ {type : Byte} {payload : Bytes}, payload.length ≤ 255 → frameBytes type payload = bytes →
      openFrame bytes = some (type, payload) := fun few same => same ▸ openFrame_frameBytes _ few
  cases i with
  | scan kind row image =>
    have opened := frame (payload := kind :: row :: imageBytes 8 image.toNat)
      (by simp [imageBytes_length]) (Option.some.inj sent)
    have same := ofNat_imageNat 8 image
    unfold receiveConsole
    rw [opened]
    exact (if_pos (imageBytes_length 8 image.toNat)).trans (congrArg (Instr.scan kind row) same)
  | shoe shoe sample =>
    have opened := frame (payload := shoe :: wordBytes sample.toNat) (by simp [wordBytes]) (Option.some.inj sent)
    unfold receiveConsole
    rw [opened]
    exact congrArg (Instr.shoe shoe) (ofNat_wordOf sample)
  | hello =>
    have opened := frame (payload := []) (by simp) (Option.some.inj sent)
    unfold receiveConsole
    rw [opened]
    rfl
  | request address tag code fields =>
    have few : fields.length ≤ 252 := of_decide_eq_true fits
    have opened := frame (payload := address :: tag :: code :: fields)
      (by simp only [List.length_cons]; omega) (Option.some.inj sent)
    unfold receiveConsole
    rw [opened]
    rfl
  | idle sender =>
    have opened := frame (payload := [sender]) (by simp) (Option.some.inj sent)
    unfold receiveConsole
    rw [opened]
    rfl
  | _ => exact nomatch sent

theorem receiveChamber_sent (c : Fin 4) (lines : Byte) (boards : BitVec 16) :
    receiveChamber c (frameBytes 0x31#8 (lines :: imageBytes 2 boards.toNat)) =
      .chstatus c (lines.getLsbD 0) (lines.getLsbD 1) boards := by
  have opened : openFrame (frameBytes 0x31#8 (lines :: imageBytes 2 boards.toNat)) = _ :=
    openFrame_frameBytes 0x31#8 (by simp [imageBytes_length])
  unfold receiveChamber
  rw [opened]
  exact congrArg (Instr.chstatus c (lines.getLsbD 0) (lines.getLsbD 1)) (ofNat_imageNat 2 boards)

theorem receiveBelow_sent {code : Byte} {payload : Bytes} (attention : Bool) (small : code.toNat < 128)
    (few : payload.length ≤ 255) (known : upstreamLengthOk code.toNat payload.length = true) :
    receiveBelow (LineFrame.wire ⟨.own code payload, attention⟩) =
      if code = 0x05#8 then .extIdle else .extUpstreamFrame (LineFrame.wire ⟨.own code payload, attention⟩) := by
  have type : (byteOf (code.toNat + 128 * attention.toNat)).toNat % 128 = code.toNat := by
    cases attention <;> simp [byteOf] <;> omega
  have wire : LineFrame.wire ⟨.own code payload, attention⟩ =
      (byteOf (code.toNat + 128 * attention.toNat) :: byteOf payload.length :: payload) ++
        crcBytes (byteOf (code.toNat + 128 * attention.toNat) :: byteOf payload.length :: payload) := by
    simp only [LineFrame.wire, few, if_true]
  have good : goodFromBelow (LineFrame.wire ⟨.own code payload, attention⟩) = true := by
    rw [wire, goodFromBelow, openFrame_sent _ few]
    simp only [type]
    exact known
  have idle : idleFromBelow (LineFrame.wire ⟨.own code payload, attention⟩) = true ↔ code = 0x05#8 := by
    rw [wire, List.cons_append, idleFromBelow, type, beq_iff_eq]
    exact ⟨fun same => BitVec.eq_of_toNat_eq same, fun same => by rw [same]; rfl⟩
  rw [receiveBelow, if_pos good]
  exact if_congr idle rfl rfl

/-- Settles O10, by the three kinds of line. -/
theorem framesRoundTrip : Obligations.FramesRoundTrip :=
  ⟨fun _ _ fits sent => receiveConsole_sent fits sent, receiveChamber_sent,
    fun _ _ attention small few known => receiveBelow_sent attention small few known⟩

end Sys2Proof.Machine
end

section
/-! PROOF. A tick (log 2): what the relay is 1 ms later, what is then due, and what becomes of the blink clock and the link
timer while what is due is taken. -/

namespace Sys2Proof.Machine

/-! ### Counting -/

theorem countTimer_eq (timer : Option Nat) : countTimer timer = counted timer := by
  cases timer <;> rfl

theorem countGenerator_eq (g : Option Service) :
    countGenerator g = g.map (fun v => { v with counter := v.counter + 1 }) := by
  cases g <;> rfl

theorem countPlayer_eq (p : Option Run) : countPlayer p = p.map (fun run => { run with timer := run.timer - 1 }) := by
  cases p <;> rfl

theorem counted_runsOut (timer : Option Nat) : counted timer = some 0 ↔ runsOut timer := by
  cases timer with
  | none => simp [counted, runsOut]
  | some n => simp [counted, runsOut]; omega

theorem due_of_counted {later timer : Option Nat} (counts : later = counted timer) :
    decide (later = some 0) = true ↔ runsOut timer := by
  rw [decide_eq_true_eq, counts, counted_runsOut]

theorem countPort_eq (p : Port) : countPort p = { p with
    timer := counted p.timer
    silence := if p.line = none ∧ p.returnQueue = [] then p.silence + 1 else p.silence } := by
  unfold countPort
  rw [countTimer_eq]
  congr 1
  simp only [Bool.and_eq_true, Option.isNone_iff_eq_none, List.isEmpty_iff]

theorem Chamber.ageEach_group {gs : List Nat} (once : gs.Nodup) (ch : Chamber) (d : Nat) :
    (ch.ageEach gs).group d = if d ∈ gs then { ch.group d with age := (ch.group d).age + 1 } else ch.group d := by
  induction gs generalizing ch with
  | nil => simp [Chamber.ageEach]
  | cons g rest ih =>
    obtain ⟨apart, onceRest⟩ := List.nodup_cons.1 once
    have first : ch.ageEach (g :: rest) = (ageGroup g ch).ageEach rest := rfl
    rw [first, ih onceRest, ageGroup, Chamber.group_setGroup]
    by_cases own : g = d
    · subst own
      simp [apart]
    · simp [Ne.symm own]

theorem countChamber_group (ch : Chamber) {g : Nat} (group : g < 16) :
    (countChamber ch).group g = { ch.group g with age := (ch.group g).age + 1 } := by
  have aged := ch.ageEach_group (List.nodup_range (n := 16)) g
  rw [if_pos (List.mem_range.2 group)] at aged
  have same : (countChamber ch).groups = (ch.ageEach (List.range 16)).groups := by rw [countChamber_eq]
  exact (congrArg (fun groups : Table Group => groups.get resetGroup g) same).trans aged

/-- The relay of state `s` 1 ms later, where `u` is `s` with its chambers counted. -/
theorem State.counted_counted {u s : State} (pending : u.pending = s.pending) (freeCount : u.freeCount = s.freeCount)
    (scan : u.scan = s.scan) (engine : u.engine = s.engine)
    (chambers : ∀ k, k < 4 → u.chamber k = countChamber (s.chamber k)) : Counted s (u.counted s) where
  pending := pending
  freeCount := freeCount
  port := countPort_eq s.port
  ext := congrArg (fun timer => { s.ext with timer := timer }) (countTimer_eq s.ext.timer)
  scan := scan
  engine := engine
  claims := rfl
  pool := rfl
  strikes p := (Table.get_mapListed rfl s.pool.strikes p.index).trans (countTimer_eq _)
  generators g := (Table.get_mapListed rfl s.pool.generators g).trans (countGenerator_eq _)
  maskDemand := rfl
  routes i := (Table.get_mapListed (f := fun e : RouteEntry => { e with timer := countTimer e.timer })
    (reset := resetRoute) rfl s.router.entries i).trans
    (congrArg (fun timer => { s.route i with timer := timer }) (countTimer_eq _))
  sequencer := rfl
  players n := (Table.get_mapListed rfl s.sequencer.players n).trans (countPlayer_eq _)
  samples := rfl
  channels k := (Table.get_mapListed (f := fun ch : Channel => { ch with timer := countTimer ch.timer })
    (reset := resetChannel) rfl s.expression.channels k).trans
    (congrArg (fun timer => { s.channel k with timer := timer }) (countTimer_eq _))
  chambers k inRange := by
    have here : (u.counted s).chamber k = countChamber (s.chamber k) := chambers k inRange
    rw [here, countChamber_eq]
    simp only [countTimer_eq]
  onTimers k p inRange := by
    have here : (u.counted s).chamber k = countChamber (s.chamber k) := chambers k inRange
    rw [here, countChamber_eq]
    exact (Table.get_mapListed rfl (s.chamber k).onTimers p).trans (countTimer_eq _)
  groups k g inRange group := by
    have here : (u.counted s).chamber k = countChamber (s.chamber k) := chambers k inRange
    rw [here, countChamber_group _ group]
  status := rfl
  stretches i := (Table.get_mapListed rfl s.status.stretch (itemIndex i)).trans (countTimer_eq _)

theorem countDown_counted (s : State) : Counted s (countDown s) := by
  have chambers : ∀ k, k < 4 → s.chambersCounted.chamber k = countChamber (s.chamber k) := fun k inRange =>
    (countDown_chamber s k).trans (if_pos inRange)
  have same {α : Type} {view : State → α} (blind : ∀ t c x, view (t.setChamber c x) = view t) :
      view s.chambersCounted = view s :=
    foldl_setChamber_same blind (fun t c => countChamber (t.chamber c)) _ s
  rw [countDown_eq]
  exact State.counted_counted (same fun _ _ _ => rfl) (same fun _ _ _ => rfl) (same fun _ _ _ => rfl)
    (same fun _ _ _ => rfl) chambers

/-! ### What is due -/

section
variable {s c : State} (later : Counted s c)
include later

theorem Counted.line : c.port.line = s.port.line := by rw [later.port]

theorem Counted.returnQueue : c.port.returnQueue = s.port.returnQueue := by rw [later.port]

theorem Counted.lineQuiet : c.lineQuiet = s.lineQuiet := by
  rw [State.lineQuiet, State.lineQuiet, later.line, later.returnQueue]

/-- The entry that a coupling's names find is the one that they found, counted. -/
theorem Counted.pizzEntry (r k n : Nat) : c.pizzEntry r k n = (s.pizzEntry r k n).map countPizz := by
  have names : ∀ e : PizzEntry, (countPizz e).names r k n = e.names r k n := fun e => by
    unfold countPizz
    split <;> rfl
  have counts : c.claims.pizz = s.claims.pizz.map countPizz := by rw [later.claims]; rfl
  rw [State.pizzEntry, counts, List.find?_map]
  congr 2
  exact funext names

/-- After 1 ms exactly that is due whose time or count this millisecond reaches. -/
theorem Counted.isDue_iff (i : Instr) : c.isDue i = true ↔ s.dueNext i := by
  cases i with
  | linkTimerExpiry => exact due_of_counted (congrArg Port.timer later.port)
  | extTimerExpiry => exact due_of_counted (congrArg Ext.timer later.ext)
  | chamberLinkTimerExpiry k => exact due_of_counted (congrArg Chamber.linkTimer (later.chambers k k.isLt))
  | windTimerExpiry k => exact due_of_counted (congrArg Chamber.windTimer (later.chambers k k.isLt))
  | settleTimerExpiry k => exact due_of_counted (congrArg Chamber.settleTimer (later.chambers k k.isLt))
  | drainTimerExpiry k => exact due_of_counted (congrArg Chamber.drainTimer (later.chambers k k.isLt))
  | groupAgeExpiry k g =>
    have age := congrArg Group.age (later.groups k g k.isLt g.isLt)
    refine decide_eq_true_iff.trans ?_
    rw [age]
    exact Iff.rfl
  | controlAgeExpiry k =>
    have age := congrArg Chamber.controlAge (later.chambers k k.isLt)
    refine decide_eq_true_iff.trans ?_
    rw [age]
    exact Iff.rfl
  | onTimerExpiry k p => exact due_of_counted (later.onTimers k p k.isLt)
  | strikeTimerExpiry k p => exact due_of_counted (later.strikes _)
  | generatorLevelOff g =>
    change levelOffDue (c.generator g) = true ↔ ∃ v, s.generator g = some v ∧ v.level = true ∧ v.onValue ≤ v.counter + 1
    rw [later.generators]
    cases s.generator g <;> simp [levelOffDue]
  | generatorReturnToZero g =>
    change returnDue (c.generator g) = true ↔ ∃ v, s.generator g = some v ∧ v.period ≤ v.counter + 1
    rw [later.generators]
    cases s.generator g <;> simp [returnDue]
  | pizzicatoExpiry r k n =>
    change pizzDue (c.pizzEntry r k n) = true ↔ ∃ e, s.pizzEntry r k n = some e ∧ e.spent = false ∧ e.remaining ≤ 1
    rw [later.pizzEntry]
    cases s.pizzEntry r k n with
    | none => simp [pizzDue]
    | some e => cases spent : e.spent <;> simp [pizzDue, countPizz, spent, Nat.sub_eq_zero_iff_le]
  | splitTimerExpiry n => exact due_of_counted (congrArg RouteEntry.timer (later.routes n))
  | stepTimerExpiry n =>
    change stepDue (c.player n) = true ↔ ∃ run, s.player n = some run ∧ run.timer ≤ 1
    rw [later.players]
    cases s.player n <;> simp [stepDue, Nat.sub_eq_zero_iff_le]
  | slewTimerExpiry n => exact due_of_counted (congrArg Channel.timer (later.channels n))
  | returnLineSilence =>
    have silence := congrArg Port.silence later.port
    change (c.lineQuiet && decide (Config.silenceTime ≤ c.port.silence)) = true ↔
      s.port.line = Option.none ∧ s.port.returnQueue = [] ∧ 10 ≤ s.port.silence + 1
    rw [later.lineQuiet, silence]
    simp only [State.lineQuiet, Bool.and_eq_true, Option.isNone_iff_eq_none, List.isEmpty_iff, Config.silenceTime,
      and_assoc]
    refine and_congr_right fun line => and_congr_right fun queue => ?_
    rw [if_pos ⟨line, queue⟩]
    exact decide_eq_true_iff
  | blinkClockTurn =>
    have left := congrArg Status.blinkLeft later.status
    refine decide_eq_true_iff.trans ?_
    rw [left]
    exact Nat.sub_eq_zero_iff_le
  | lampStretchExpiry item => exact due_of_counted (later.stretches _)
  | _ => exact ⟨fun due => absurd due Bool.false_ne_true, False.elim⟩

end

theorem Counted.clocks {s c : State} (later : Counted s c) : c.port.timer = counted s.port.timer ∧
    c.port.link = s.port.link ∧ c.status.blinkOn = s.status.blinkOn ∧ c.status.blinkLeft = s.status.blinkLeft - 1 := by
  refine ⟨?_, ?_, ?_, ?_⟩
  · rw [later.port]
  · rw [later.port]
  · rw [later.status]
  · rw [later.status]

/-! ### What is due is among the relay's own events -/

theorem Table.mem_indices {α : Type} {t : Table α} {reset : α} {k : Nat} (listed : t.get reset k ≠ reset) :
    k ∈ t.indices :=
  List.mem_map.2 ⟨_, mem_entries_of_lookup listed, rfl⟩

theorem mem_map_ofNat {n : Nat} [NeZero n] {event : Fin n → Instr} {l : List Nat} {k : Fin n} (listed : k.val ∈ l) :
    event k ∈ l.map (fun j => event (Fin.ofNat n j)) :=
  List.mem_map.2 ⟨k.val, listed, by rw [Fin.ofNat_val_eq_self]⟩

/-- What is due is found among the events that the running timers, the ages and the counters can bring. -/
theorem State.mem_ownEvents {c : State} {i : Instr} (due : c.isDue i = true) : i ∈ c.ownEvents := by
  have chamberEvent (listed : i ∈ c.chamberEvents) : i ∈ c.ownEvents := by
    simp only [State.ownEvents, List.flatten_cons, List.mem_append]
    exact .inr (.inl listed)
  have poolEvent (listed : i ∈ c.poolEvents) : i ∈ c.ownEvents := by
    simp only [State.ownEvents, List.flatten_cons, List.mem_append]
    exact .inr (.inr (.inl listed))
  have effectEvent (listed : i ∈ c.effectEvents) : i ∈ c.ownEvents := by
    simp only [State.ownEvents, List.flatten_cons, List.mem_append]
    exact .inr (.inr (.inr (.inl listed)))
  cases i with
  | linkTimerExpiry | extTimerExpiry | returnLineSilence | blinkClockTurn => simp [State.ownEvents]
  | lampStretchExpiry item => cases item <;> simp [State.ownEvents, eventItems]
  | chamberLinkTimerExpiry k | windTimerExpiry k | settleTimerExpiry k | drainTimerExpiry k | controlAgeExpiry k =>
    exact chamberEvent (by simp [State.chamberEvents])
  | groupAgeExpiry k g => exact chamberEvent (by simp [State.chamberEvents])
  | onTimerExpiry k p =>
    have running : (c.chamber k).onTimers.get Option.none p = some 0 := of_decide_eq_true due
    have listed : p.val ∈ (c.chamber k).onTimers.indices := Table.mem_indices (running ▸ Option.some_ne_none 0)
    refine chamberEvent ?_
    simp only [State.chamberEvents, List.flatten_cons, List.mem_append]
    refine .inr (.inr (.inr (.inr (.inr (.inr (.inl ?_))))))
    exact List.mem_flatMap.2 ⟨k, List.mem_finRange k, mem_map_ofNat (event := .onTimerExpiry k) listed⟩
  | strikeTimerExpiry k p =>
    have running : c.pool.strikes.get Option.none (Point.index ⟨k, p⟩) = some 0 := of_decide_eq_true due
    have listed : Point.index ⟨k, p⟩ ∈ c.pool.strikes.indices :=
      Table.mem_indices (running ▸ Option.some_ne_none 0)
    refine poolEvent ?_
    simp only [State.poolEvents, List.flatten_cons, List.mem_append]
    refine .inl (List.mem_map.2 ⟨_, listed, ?_⟩)
    rw [pointAt_index (p := ⟨k, p⟩) p.isLt, Fin.ofNat_val_eq_self, Fin.ofNat_val_eq_self]
  | generatorLevelOff g =>
    have serving : c.pool.generators.get Option.none g ≠ Option.none := fun idle =>
      absurd ((congrArg levelOffDue idle).symm.trans due) Bool.false_ne_true
    refine poolEvent ?_
    simp only [State.poolEvents, List.flatten_cons, List.mem_append]
    exact .inr (.inl (mem_map_ofNat (event := .generatorLevelOff) (Table.mem_indices serving)))
  | generatorReturnToZero g =>
    have serving : c.pool.generators.get Option.none g ≠ Option.none := fun idle =>
      absurd ((congrArg returnDue idle).symm.trans due) Bool.false_ne_true
    refine poolEvent ?_
    simp only [State.poolEvents, List.flatten_cons, List.mem_append]
    exact .inr (.inr (.inl (mem_map_ofNat (event := .generatorReturnToZero) (Table.mem_indices serving))))
  | pizzicatoExpiry r k n =>
    have found : pizzDue (c.pizzEntry r k n) = true := due
    refine poolEvent ?_
    simp only [State.poolEvents, List.flatten_cons, List.mem_append]
    refine .inr (.inr (.inr (.inl ?_)))
    cases entry : c.pizzEntry r k n with
    | none => rw [entry] at found; cases found
    | some e =>
      have names := List.find?_some entry
      simp only [PizzEntry.names, Bool.and_eq_true, decide_eq_true_eq] at names
      obtain ⟨⟨row, key⟩, stop⟩ := names
      refine List.mem_map.2 ⟨e, List.mem_of_find?_eq_some entry, ?_⟩
      rw [row, key, stop, Fin.ofNat_val_eq_self, Fin.ofNat_val_eq_self, Fin.ofNat_val_eq_self]
  | splitTimerExpiry n =>
    have running : (c.route n).timer = some 0 := of_decide_eq_true due
    have listed : c.router.entries.get resetRoute n ≠ resetRoute := fun idle =>
      absurd ((congrArg RouteEntry.timer idle).symm.trans running) (by decide)
    refine effectEvent ?_
    simp only [State.effectEvents, List.flatten_cons, List.mem_append]
    exact .inl (mem_map_ofNat (event := .splitTimerExpiry) (Table.mem_indices listed))
  | stepTimerExpiry n =>
    have running : c.sequencer.players.get Option.none n ≠ Option.none := fun idle =>
      absurd ((congrArg stepDue idle).symm.trans due) Bool.false_ne_true
    refine effectEvent ?_
    simp only [State.effectEvents, List.flatten_cons, List.mem_append]
    exact .inr (.inl (mem_map_ofNat (event := .stepTimerExpiry) (Table.mem_indices running)))
  | slewTimerExpiry n =>
    have running : (c.channel n).timer = some 0 := of_decide_eq_true due
    have listed : c.expression.channels.get resetChannel n ≠ resetChannel := fun idle =>
      absurd ((congrArg Channel.timer idle).symm.trans running) (by decide)
    refine effectEvent ?_
    simp only [State.effectEvents, List.flatten_cons, List.mem_append]
    exact .inr (.inr (.inl (mem_map_ofNat (event := .slewTimerExpiry) (Table.mem_indices listed))))
  | _ => exact absurd due Bool.false_ne_true

/-! ### The clocks of a tick -/

/-- What the clocks of a tick show: the link timer and the link state, and the blink clock. -/
structure Clocks where
  timer : Option Nat
  link : LinkState
  blinkOn : Bool
  blinkLeft : Nat

def State.clocks (s : State) : Clocks := ⟨s.port.timer, s.port.link, s.status.blinkOn, s.status.blinkLeft⟩

section
variable {B : Clocks → Prop}

theorem clocks_keptByReports : KeptByReports (fun s => B s.clocks) where
  offered f s hs := by
    unfold offer
    split
    · unfold startLine
      split <;> exact hs
    · simp only [overrun, setFlag]
      split <;> split <;> exact hs
  flagged i s hs := by
    simp only [setFlag]
    split <;> exact hs
  held _ _ _ hs := hs

theorem clocks_keptByChambers : KeptByChambers (fun s => B s.clocks) where
  toKeptByLatches := clocks_keptByReports.latches
  written _ _ _ _ hs := hs

theorem clocks_keptByEffects : KeptByEffects (fun s => B s.clocks) where
  toKeptByLatches := clocks_keptByReports.latches
  counted _ _ _ hs := hs
  guarded _ _ _ _ hs := hs
  pizzed _ _ _ hs := hs
  pooled _ _ _ hs := hs
  played _ _ _ _ hs := hs
  routed _ _ _ _ hs := hs
  demanded _ _ hs := hs
  asked _ _ hs := hs

theorem conclude_clocks (before s : State) : (conclude before s).clocks = s.clocks :=
  (clocks_keptByReports (B := (· = s.clocks))).conclude (clocks_keptByChambers (B := (· = s.clocks))) before s rfl

theorem reportLoss_clocks (s : State) : (reportLoss s).clocks = s.clocks := by
  have touched {t : State} (touched : Touches (.row .stop :: releaseParts) s t) : t.clocks = s.clocks := by
    have timer := congrArg Port.timer touched.port
    have link := congrArg Port.link touched.port
    have blinkOn := congrArg Status.blinkOn touched.status
    have blinkLeft := congrArg Status.blinkLeft touched.status
    rw [State.clocks, timer, link, blinkOn, blinkLeft]
    rfl
  obtain ⟨t, lost, same | same⟩ := reportLoss_touched s
  · rw [same]
    exact touched lost
  · rw [same]
    exact (show (t.setFreeCount _).clocks = t.clocks from rfl).trans (touched lost)

theorem enterDown_clocks (s : State) : (enterDown s).clocks = { s.clocks with timer := none, link := .down } :=
  (reportLoss_clocks _).trans ((clocks_keptByReports (B := fun x => x = { s.clocks with timer := none, link := .down })).latch _ _ rfl)

/-- Taking what is due keeps a fact about the clocks that the end of a half of the blink clock keeps, and the end of the
link timer. -/
theorem takeDue_clocks (turned : ∀ x : Clocks, B { x with blinkLeft := 0 } → B { x with blinkOn := !x.blinkOn, blinkLeft := 250 })
    (lost : ∀ x : Clocks, B { x with timer := some 0 } → B { x with timer := none, link := .down }) (s : State) (i : Instr)
    (hs : B s.clocks) : B (takeDue s i).clocks := by
  have concluded {u : State} (hu : B u.clocks) : B (conclude s u).clocks := (congrArg B (conclude_clocks s u)).mpr hu
  have effects := clocks_keptByEffects (B := B)
  have chambers := clocks_keptByChambers (B := B)
  have reports := clocks_keptByReports (B := B)
  unfold takeDue
  split
  case isFalse => exact hs
  case isTrue due =>
    cases i with
    | linkTimerExpiry =>
      have ended : s.port.timer = some 0 := of_decide_eq_true due
      have down : B (enterDown s).clocks := by
        rw [enterDown_clocks]
        refine lost _ ?_
        rw [← ended]
        exact hs
      have either : B (if s.port.timer.isSome then enterDown s else s).clocks := by
        split
        · exact down
        · exact hs
      exact concluded either
    | blinkClockTurn =>
      have ended : s.status.blinkLeft = 0 := decide_eq_true_iff.1 due
      have half : B { s.clocks with blinkLeft := 0 } := by
        rw [← ended]
        exact hs
      have turn : B (s.setStatus { s.status with blinkOn := !s.status.blinkOn, blinkLeft := Config.blinkHalf }).clocks :=
        turned s.clocks half
      exact concluded turn
    | extTimerExpiry =>
      have left : B (if s.ext.timer.isSome then setExtUp false (s.setExt { s.ext with timer := none })
          else s).clocks := by
        unfold setExtUp
        split
        · split
          · exact hs
          · exact reports.latch _ _ hs
        · exact hs
      exact concluded left
    | chamberLinkTimerExpiry c => exact concluded (chambers.chamberLinkExpires c s hs)
    | windTimerExpiry c => exact concluded (chambers.windExpires c s hs)
    | settleTimerExpiry c => exact concluded (chambers.settleExpires c s hs)
    | drainTimerExpiry c => exact concluded (chambers.drainExpires c s hs)
    | groupAgeExpiry c g => exact concluded (chambers.groupAges c g s hs)
    | controlAgeExpiry c => exact concluded (chambers.controlAges c s hs)
    | onTimerExpiry c p => exact concluded (chambers.onTimerExpires _ s hs)
    | strikeTimerExpiry c p => exact concluded (effects.setStrikeTimer _ none s hs)
    | generatorLevelOff g =>
      refine concluded ?_
      unfold levelOff
      split
      · split <;> exact hs
      · exact hs
    | generatorReturnToZero g =>
      refine concluded ?_
      unfold returnToZero
      split <;> exact hs
    | pizzicatoExpiry r k n =>
      refine concluded ?_
      unfold pizzExpires
      split
      · split
        · exact hs
        · exact effects.removeClaim _ _ hs
      · exact hs
    | splitTimerExpiry input =>
      refine concluded ?_
      simp only [splitExpires]
      split
      · exact effects.startService _ _ (effects.setRouteState _ _ _ s hs)
      · exact hs
    | stepTimerExpiry player =>
      refine concluded ?_
      unfold stepExpires
      split
      · split
        · exact effects.stopPlayer _ s hs
        · exact effects.moveOn _ s hs
      · exact hs
    | slewTimerExpiry channel =>
      refine concluded ?_
      simp only [slewExpires]
      split <;> exact hs
    | returnLineSilence =>
      have put : B (if s.lineQuiet then offer s.idleFrame s else s).clocks := by
        split
        · exact reports.offered _ s hs
        · exact hs
      exact concluded put
    | lampStretchExpiry item => exact concluded hs
    | _ => exact absurd due Bool.false_ne_true


theorem takeDues_clocks (turned : ∀ x : Clocks, B { x with blinkLeft := 0 } →
      B { x with blinkOn := !x.blinkOn, blinkLeft := 250 })
    (lost : ∀ x : Clocks, B { x with timer := some 0 } → B { x with timer := none, link := .down })
    (events : List Instr) (s : State) (hs : B s.clocks) : B (events.foldl takeDue s).clocks := by
  induction events generalizing s with
  | nil => exact hs
  | cons i rest ih => exact ih _ (takeDue_clocks turned lost s i hs)

/-- What one of the events brings about, and the others keep, holds once all have been considered. -/
theorem takeDues_reach (turned : ∀ x : Clocks, B { x with blinkLeft := 0 } →
      B { x with blinkOn := !x.blinkOn, blinkLeft := 250 })
    (lost : ∀ x : Clocks, B { x with timer := some 0 } → B { x with timer := none, link := .down })
    {i : Instr} (reached : ∀ s, B (takeDue s i).clocks) {events : List Instr} (listed : i ∈ events) (s : State) :
    B (events.foldl takeDue s).clocks := by
  obtain ⟨before, after, split⟩ := List.append_of_mem listed
  rw [split, List.foldl_append, List.foldl_cons]
  exact takeDues_clocks turned lost after _ (reached _)

end

theorem takeDue_taken {s t : State} {i : Instr} (due : s.isDue i = true) (ran : exec i s = .next t) :
    takeDue s i = t := by
  simp only [takeDue, due, if_true, ran]

theorem takeDue_spared {s : State} {i : Instr} (spared : s.isDue i = false) : takeDue s i = s :=
  if_neg (by rw [spared]; exact Bool.false_ne_true)

/-- R168: the other half of the blink clock begins. -/
def State.turned (s : State) : State :=
  s.setStatus { s.status with blinkOn := !s.status.blinkOn, blinkLeft := Config.blinkHalf }

theorem exec_blinkClockTurn (s : State) : exec .blinkClockTurn s = .next (conclude s s.turned) := by rfl

theorem exec_linkTimerExpiry (s : State) :
    exec .linkTimerExpiry s = .next (conclude s (if s.port.timer.isSome then enterDown s else s)) := by rfl

theorem isDue_blinkClockTurn (s : State) : s.isDue .blinkClockTurn = decide (s.status.blinkLeft = 0) := by rfl

theorem isDue_linkTimerExpiry (s : State) : s.isDue .linkTimerExpiry = decide (s.port.timer = some 0) := by rfl

theorem takeDue_turned (s : State) : (takeDue s .blinkClockTurn).clocks.blinkLeft ≠ 0 := by
  have due := isDue_blinkClockTurn s
  by_cases ended : s.status.blinkLeft = 0
  · rw [decide_eq_true ended] at due
    rw [takeDue_taken due (exec_blinkClockTurn s), conclude_clocks]
    exact Nat.succ_ne_zero 249
  · rw [decide_eq_false ended] at due
    rw [takeDue_spared due]
    exact ended

theorem takeDue_lost (s : State) : (takeDue s .linkTimerExpiry).clocks.timer ≠ some 0 := by
  have due := isDue_linkTimerExpiry s
  by_cases ended : s.port.timer = some 0
  · have running : s.port.timer.isSome = true := by rw [ended]; rfl
    rw [decide_eq_true ended] at due
    rw [takeDue_taken due (exec_linkTimerExpiry s), conclude_clocks, if_pos running, enterDown_clocks]
    exact (Option.some_ne_none 0).symm
  · rw [decide_eq_false ended] at due
    rw [takeDue_spared due]
    exact ended

/-- What the tick that counts the clocks to `start` can make of them. -/
structure Clocks.After (start x : Clocks) : Prop where
  link : (x.timer = start.timer ∧ x.link = start.link) ∨ (start.timer = some 0 ∧ x.timer = none ∧ x.link = .down)
  blink : (x.blinkOn = start.blinkOn ∧ x.blinkLeft = start.blinkLeft) ∨
    (start.blinkLeft = 0 ∧ x.blinkOn = !start.blinkOn ∧ x.blinkLeft = 250)

theorem Clocks.After.turned {start : Clocks} (x : Clocks) (after : start.After { x with blinkLeft := 0 }) :
    start.After { x with blinkOn := !x.blinkOn, blinkLeft := 250 } := by
  obtain ⟨link, ⟨on, left⟩ | ⟨_, _, left⟩⟩ := after
  · exact ⟨link, .inr ⟨left.symm, congrArg (!·) on, rfl⟩⟩
  · exact absurd left (Nat.succ_ne_zero 249).symm

theorem Clocks.After.lost {start : Clocks} (x : Clocks) (after : start.After { x with timer := some 0 }) :
    start.After { x with timer := none, link := .down } := by
  obtain ⟨⟨timer, _⟩ | ⟨_, timer, _⟩, blink⟩ := after
  · exact ⟨.inr ⟨timer.symm, rfl, rfl⟩, blink⟩
  · exact absurd timer (by simp)

/-- The clocks when all that is due has been taken: each that had run out has been started again or has ended. -/
theorem takeDues_after (c : State) : c.clocks.After (c.ownEvents.foldl takeDue c).clocks ∧
    (c.ownEvents.foldl takeDue c).clocks.timer ≠ some 0 ∧ (c.ownEvents.foldl takeDue c).clocks.blinkLeft ≠ 0 := by
  have linkEvent : Instr.linkTimerExpiry ∈ c.ownEvents := by simp [State.ownEvents]
  have blinkEvent : Instr.blinkClockTurn ∈ c.ownEvents := by simp [State.ownEvents]
  refine ⟨takeDues_clocks Clocks.After.turned Clocks.After.lost _ c ⟨.inl ⟨rfl, rfl⟩, .inl ⟨rfl, rfl⟩⟩, ?_, ?_⟩
  · exact takeDues_reach (B := fun x => x.timer ≠ some 0) (fun _ kept => kept) (fun _ _ => (Option.some_ne_none 0).symm)
      takeDue_lost linkEvent c
  · exact takeDues_reach (B := fun x => x.blinkLeft ≠ 0) (fun _ _ => Nat.succ_ne_zero 249)
      (fun _ kept => kept)
      takeDue_turned blinkEvent c

theorem takeDues_none {c : State} (nothing : ∀ i, c.isDue i = false) (events : List Instr) :
    events.foldl takeDue c = c := by
  induction events with
  | nil => rfl
  | cons i rest ih =>
    rw [List.foldl_cons, takeDue_spared (nothing i), ih]

theorem transmitAll_clocks (s : State) : (transmitAll s).clocks = s.clocks :=
  (clocks_keptByChambers (B := (· = s.clocks))).transmitAll s rfl

theorem transmitAll_quietly (s : State) : QuietlySame s (transmitAll s) :=
  ⟨transmitAll_reportsOnly s, by rw [transmitAll_port]⟩

/-- The state at the end of a tick, from the state in which everything has counted. -/
def State.tickEnd (c : State) : State := transmitAll (c.ownEvents.foldl takeDue c)

theorem tick_eq (s : State) : tick s = (countDown s).tickEnd := rfl

theorem tickEnd_eq (c : State) : c.tickEnd = transmitAll (c.ownEvents.foldl takeDue c) := rfl

theorem step_tick {s : State} (waiting : s.pending = []) : step s = .next (tick s) := by
  simp only [step, waiting]

theorem tickEnd_pending (c : State) : c.tickEnd.pending = c.pending := by
  have commands : ∀ i s t, exec i s = .next t → s.pending = c.pending → t.pending = c.pending := fun i s t ran same => by
    obtain ⟨u, completes, pending⟩ := everyCommandCompletes i s
    obtain rfl : t = u := Host.Outcome.next.inj (ran.symm.trans completes)
    exact pending.trans same
  exact pending_keptByChambers.transmitAll _ (takeDues_keep commands _ c rfl)

theorem tickEnd_after (c : State) :
    c.clocks.After c.tickEnd.clocks ∧ c.tickEnd.clocks.timer ≠ some 0 ∧ c.tickEnd.clocks.blinkLeft ≠ 0 := by
  have ends := takeDues_after c
  have clocks := transmitAll_clocks (c.ownEvents.foldl takeDue c)
  rw [← clocks, ← tickEnd_eq] at ends
  exact ends

/-- The clocks at the end of a tick, field by field. -/
theorem Clocks.After.fields {c t : State} (after : c.clocks.After t.clocks) :
    ((t.port.timer = c.port.timer ∧ t.port.link = c.port.link) ∨
      (c.port.timer = some 0 ∧ t.port.timer = none ∧ t.port.link = .down)) ∧
    ((t.status.blinkOn = c.status.blinkOn ∧ t.status.blinkLeft = c.status.blinkLeft) ∨
      (c.status.blinkLeft = 0 ∧ t.status.blinkOn = !c.status.blinkOn ∧ t.status.blinkLeft = 250)) := by
  obtain ⟨link, blink⟩ := after
  exact ⟨link, blink⟩

/-- Settles O2: everything counts, which decides what is due; the clocks are followed through the events of the tick, of
which only their own touch them. -/
theorem idleStepTicksClocks : Obligations.IdleStepTicksClocks := by
  intro s waiting
  have stepped : step s = .next (countDown s).tickEnd :=
    (step_tick waiting).trans (congrArg Host.Outcome.next (tick_eq s))
  have later := countDown_counted s
  generalize countDown s = c at stepped later
  obtain ⟨timer, link, on, left⟩ := later.clocks
  have pending := tickEnd_pending c
  have ends := tickEnd_eq c
  obtain ⟨after, notLost, notTurned⟩ := tickEnd_after c
  generalize c.tickEnd = t at stepped pending ends after notLost notTurned
  obtain ⟨linked, blinked⟩ := after.fields
  rw [timer, link] at linked
  rw [on, left] at blinked
  have stays (running : counted s.port.timer ≠ some 0) :
      t.port.timer = counted s.port.timer ∧ t.port.link = s.port.link :=
    linked.resolve_right fun ⟨ended, _⟩ => running ended
  refine ⟨t, stepped, pending.trans (later.pending.trans waiting), fun ends => ?_, fun runs => ?_,
    fun n timed => ?_, fun timed => ?_, fun untimed => ?_, c, later, ends, later.isDue_iff,
    fun i due => State.mem_ownEvents ((later.isDue_iff i).2 due), fun nothing => ?_⟩
  · obtain ⟨_, zero⟩ | ⟨_, turned⟩ := blinked
    · exact absurd (zero.trans (Nat.sub_eq_zero_of_le ends)) notTurned
    · exact turned
  · exact blinked.resolve_right fun ⟨ended, _⟩ => absurd ended (by omega)
  · rw [timed] at stays
    exact stays (by simp [counted])
  · rw [timed] at linked
    obtain ⟨zero, _⟩ | ⟨_, down⟩ := linked
    · exact absurd zero notLost
    · exact down
  · rw [untimed] at stays
    exact stays (by simp [counted])
  · have none : ∀ i, c.isDue i = false := fun i =>
      Bool.eq_false_iff.2 fun due => nothing i ((later.isDue_iff i).1 due)
    rw [ends, takeDues_none none]
    exact transmitAll_quietly c

end Sys2Proof.Machine
end

section
/-! PROOF. Runs of claims and runs of the pool: what a list of removed claims does to counts, guards and timers (R47, R146),
and a list of added ones. -/

namespace Sys2Proof.Machine

/-! ### Claims removed one after the other -/

/-- Claims have been removed from the points of a list, one for each, and no other count, guard or timer has changed. -/
structure Removed (ps : List Point) (s t : State) : Prop where
  counts : ∀ q : Point, t.claimCount q = s.claimCount q - occurrences q ps
  falls : FallsClear ps s t
  stays : ∀ q : Point, s.Unguarded q → t.Unguarded q
  idle : ∀ q : Point, s.claimCount q = 0 → (t.chamber q.chamber).onTimer q.point = (s.chamber q.chamber).onTimer q.point

theorem occurrences_single (q p : Point) : occurrences q [p] = if p.index = q.index then 1 else 0 := by
  rw [occurrences_cons, occurrences_nil, Nat.zero_add]

theorem chamber_of_chambers {s t : State} (same : t.chambers = s.chambers) (c : Nat) : t.chamber c = s.chamber c :=
  congrArg (fun x => Table.get x resetChamber c) same

/-- A change elsewhere removes no claim. -/
theorem Removed.still {s t : State} (counts : t.claims.counts = s.claims.counts) (chambers : t.chambers = s.chambers) :
    Removed [] s t where
  counts := claimCount_of_counts counts
  falls _ p _ claimed free := absurd ((claimCount_of_counts counts p).symm.trans free) (Nat.ne_of_gt claimed)
  stays q free := by
    obtain ⟨guard, timer, entry⟩ := free
    exact ⟨by rw [chamber_of_chambers chambers]; exact guard, by rw [chamber_of_chambers chambers]; exact timer,
      by rw [chamber_of_chambers chambers]; exact entry⟩
  idle q _ := by rw [chamber_of_chambers chambers]

theorem Removed.of_falls {p : Point} {s t : State} (one : ClaimFalls p s t) : Removed [p] s t where
  counts q := by
    rw [one.count q, occurrences_single]
    by_cases same : q.index = p.index
    · rw [if_pos same, if_pos same.symm]
    · rw [if_neg same, if_neg (Ne.symm same), Nat.sub_zero]
  falls inRange q small claimed free := by
    have moved := (one.count q).symm.trans free
    by_cases same : q.index = p.index
    · obtain rfl := index_injective small (inRange p List.mem_cons_self) same
      rw [if_pos rfl] at moved
      dsimp only at moved
      obtain ⟨unguarded, -⟩ := one.fallen (by omega)
      exact unguarded
    · rw [if_neg same] at moved
      omega
  stays q free := by
    obtain ⟨guard, timer, entry⟩ := free
    by_cases own : q.chamber = p.chamber ∧ q.point = p.point
    · obtain rfl : q = p := by
        obtain ⟨chamber, point⟩ := q
        obtain ⟨rfl, rfl⟩ := own
        rfl
      by_cases last : s.claimCount q = 1
      · obtain ⟨unguarded, -⟩ := one.fallen last
        exact unguarded
      · obtain ⟨guard', timer', entry'⟩ := one.kept last
        exact ⟨guard'.trans guard, timer'.trans timer, entry' ▸ entry⟩
    · obtain ⟨guard', timer'⟩ := one.others q.chamber q.point own
      refine ⟨guard'.trans guard, timer'.trans timer, fun e mem => entry e ?_⟩
      by_cases chamber : q.chamber = p.chamber
      · rw [chamber] at mem ⊢
        by_cases last : s.claimCount p = 1
        · obtain ⟨-, list⟩ := one.fallen last
          rw [list] at mem
          exact (List.mem_filter.1 mem).1
        · obtain ⟨-, -, list⟩ := one.kept last
          rwa [list] at mem
      · rwa [one.lists _ chamber] at mem
  idle q unclaimed := by
    by_cases own : q.chamber = p.chamber ∧ q.point = p.point
    · obtain rfl : q = p := by
        obtain ⟨chamber, point⟩ := q
        obtain ⟨rfl, rfl⟩ := own
        rfl
      obtain ⟨-, timer, -⟩ := one.kept (by omega)
      exact timer
    · obtain ⟨-, timer⟩ := one.others q.chamber q.point own
      exact timer

theorem Removed.one (p : Point) (s : State) : Removed [p] s (removeClaim p s) := .of_falls (removeClaim_falls p s)

theorem Removed.trans {ps qs : List Point} {s t u : State} (first : Removed ps s t) (second : Removed qs t u) :
    Removed (ps ++ qs) s u where
  counts q := by rw [second.counts, first.counts, occurrences_append, Nat.sub_sub]
  falls inRange q small claimed free := by
    have earlier : ∀ p ∈ ps, p.point < 1024 := fun p mem => inRange p (List.mem_append_left _ mem)
    have later : ∀ p ∈ qs, p.point < 1024 := fun p mem => inRange p (List.mem_append_right _ mem)
    by_cases between : t.claimCount q = 0
    · exact second.stays q (first.falls earlier q small claimed between)
    · exact second.falls later q small (Nat.pos_of_ne_zero between) free
  stays q free := second.stays q (first.stays q free)
  idle q unclaimed := by
    have between : t.claimCount q = 0 := by rw [first.counts, unclaimed, Nat.zero_sub]
    rw [second.idle q between, first.idle q unclaimed]

theorem Removed.all (ps : List Point) (s : State) : Removed ps s (forEach ps removeClaim s) := by
  induction ps generalizing s with
  | nil => exact .still rfl rfl
  | cons p rest ih => exact (Removed.one p s).trans (ih _)

theorem Removed.then_still {ps : List Point} {s t u : State} (first : Removed ps s t)
    (counts : u.claims.counts = t.claims.counts) (chambers : u.chambers = t.chambers) : Removed ps s u := by
  have both := first.trans (.still counts chambers)
  rwa [List.append_nil] at both

/-! ### Claims added one after the other -/

/-- Claims have been added to the points of a list, one for each, under the mode and the ranks as they stand. -/
structure Added (ps : List Point) (s t : State) : Prop where
  counts : ∀ q : Point, t.claimCount q = s.claimCount q + occurrences q ps
  rises : RisesTimed ps s t
  stays : ∀ q : Point, t.claimCount q = 0 → s.Unguarded q → t.Unguarded q
  timers : ∀ q : Point, 0 < s.claimCount q ∨ t.claimCount q = 0 →
    (t.chamber q.chamber).onTimer q.point = (s.chamber q.chamber).onTimer q.point
  mode : t.mode = s.mode
  rankOf : ∀ p, t.rankOf p = s.rankOf p
  rank : ∀ r, t.rank r = s.rank r

theorem isPipe_of_ranks {s t : State} (rankOf : ∀ p, t.rankOf p = s.rankOf p) (rank : ∀ r, t.rank r = s.rank r) (p : Point) :
    t.isPipe p = s.isPipe p := by
  simp only [State.isPipe, rankOf, rank]

theorem Added.still {s t : State} (counts : t.claims.counts = s.claims.counts) (chambers : t.chambers = s.chambers)
    (mode : t.mode = s.mode) (rankOf : ∀ p, t.rankOf p = s.rankOf p) (rank : ∀ r, t.rank r = s.rank r) : Added [] s t where
  counts := claimCount_of_counts counts
  rises _ p _ free claimed := absurd ((claimCount_of_counts counts p).trans free) (Nat.ne_of_gt claimed)
  stays q _ free := (Removed.still counts chambers).stays q free
  timers q _ := by rw [chamber_of_chambers chambers]
  mode := mode
  rankOf := rankOf
  rank := rank

theorem Added.of_rises {p : Point} {s t : State} (one : ClaimRises p s t) (mode : t.mode = s.mode)
    (rankOf : ∀ p, t.rankOf p = s.rankOf p) (rank : ∀ r, t.rank r = s.rank r) : Added [p] s t where
  counts q := by
    rw [one.count q, occurrences_single]
    by_cases same : q.index = p.index
    · rw [if_pos same, if_pos same.symm]
    · rw [if_neg same, if_neg (Ne.symm same), Nat.add_zero]
  rises inRange q small free claimed := by
    have moved := one.count q
    by_cases same : q.index = p.index
    · obtain rfl := index_injective small (inRange p List.mem_cons_self) same
      rw [mode]
      refine ⟨fun play k ranked pipe => ?_, fun quiet => one.untimed (.inr ?_)⟩
      · by_cases limited : 0 < (s.rank k).cipherLimit
        · rw [if_pos limited]
          exact one.timed free play k ranked pipe limited
        · rw [if_neg limited]
          exact one.untimed (.inr (.inr (.inr ⟨k, ranked, Nat.eq_zero_of_not_pos limited⟩)))
      · obtain elsewhere | other := quiet
        · exact .inl elsewhere
        · exact .inr (.inl other)
    · rw [if_neg same] at moved
      omega
  stays q unclaimed free := by
    have apart : ¬(q.chamber = p.chamber ∧ q.point = p.point) := fun ⟨chamber, point⟩ => by
      have same : q.index = p.index := by rw [Point.index, Point.index, chamber, point]
      have moved := one.count q
      rw [if_pos same] at moved
      dsimp only at moved
      omega
    obtain ⟨guard, timer, entry⟩ := free
    exact ⟨(one.guards _ _).trans guard, (one.timers _ _ apart).trans timer, by rw [one.lists]; exact entry⟩
  timers q stands := by
    by_cases own : q.chamber = p.chamber ∧ q.point = p.point
    · obtain rfl : q = p := by
        obtain ⟨chamber, point⟩ := q
        obtain ⟨rfl, rfl⟩ := own
        rfl
      have moved := one.count q
      rw [if_pos rfl] at moved
      dsimp only at moved
      exact one.untimed (.inl (by omega))
    · exact one.timers _ _ own
  mode := mode
  rankOf := rankOf
  rank := rank

theorem Added.one (p : Point) (s : State) : Added [p] s (addClaim p s) :=
  have touched := Touches.addClaim p s
  .of_rises (addClaim_rises p s) (touched.mode (by decide)) (rankOf_of_touches touched) (rank_of_touches touched)

theorem Added.trans {ps qs : List Point} {s t u : State} (first : Added ps s t) (second : Added qs t u) :
    Added (ps ++ qs) s u where
  counts q := by rw [second.counts, first.counts, occurrences_append, Nat.add_assoc]
  rises inRange q small free claimed := by
    have earlier : ∀ p ∈ ps, p.point < 1024 := fun p mem => inRange p (List.mem_append_left _ mem)
    have later : ∀ p ∈ qs, p.point < 1024 := fun p mem => inRange p (List.mem_append_right _ mem)
    by_cases between : t.claimCount q = 0
    · have timer := first.timers q (.inr between)
      have risen := second.rises later q small between claimed
      simp only [first.rankOf, first.rank, isPipe_of_ranks first.rankOf first.rank, timer] at risen
      exact risen
    · have risen := first.rises earlier q small free (Nat.pos_of_ne_zero between)
      rw [second.timers q (.inl (Nat.pos_of_ne_zero between)), second.mode]
      exact risen
  stays q unclaimed free := by
    have counts := second.counts q
    exact second.stays q unclaimed (first.stays q (by omega) free)
  timers q stands := by
    have counts := first.counts q
    have counts' := second.counts q
    rw [second.timers q (by omega), first.timers q (by omega)]
  mode := second.mode.trans first.mode
  rankOf p := (second.rankOf p).trans (first.rankOf p)
  rank r := (second.rank r).trans (first.rank r)

theorem Added.all (ps : List Point) (s : State) : Added ps s (forEach ps addClaim s) := by
  induction ps generalizing s with
  | nil => exact .still rfl rfl rfl (fun _ => rfl) fun _ => rfl
  | cons p rest ih => exact (Added.one p s).trans (ih _)

/-- What touches neither claims nor ranks nor the mode adds no claim. -/
theorem Added.untouched {A : List Part} {s t : State} (touched : Touches A s t) (count : .count ∉ A) (guard : .guard ∉ A)
    (mode : .mode ∉ A) : Added [] s t :=
  .still (touched.counts count) (touched.chambers guard) (touched.mode mode) (rankOf_of_touches touched)
    (rank_of_touches touched)

theorem Removed.untouched {A : List Part} {s t : State} (touched : Touches A s t) (count : .count ∉ A)
    (guard : .guard ∉ A) : Removed [] s t :=
  .still (touched.counts count) (touched.chambers guard)

/-! ### Removals, and additions after them -/

section Exchange

variable {ps qs : List Point} {s t u : State} (removed : Removed ps s t) (added : Added qs t u)

include removed added

theorem Removed.counts_added (q : Point) : u.claimCount q = s.claimCount q - occurrences q ps + occurrences q qs := by
  rw [added.counts, removed.counts]

theorem Removed.falls_added : FallsClear ps s u := fun inRange p small claimed free => by
  have counts := added.counts p
  exact added.stays p free (removed.falls inRange p small claimed (by omega))

theorem Removed.rises_added (rankOf : ∀ p, t.rankOf p = s.rankOf p) (rank : ∀ r, t.rank r = s.rank r) :
    RisesTimed qs s u := fun inRange p small free claimed => by
  have between : t.claimCount p = 0 := by rw [removed.counts, free, Nat.zero_sub]
  have risen := added.rises inRange p small between claimed
  simp only [rankOf, rank, isPipe_of_ranks rankOf rank, removed.idle p free] at risen
  exact risen

end Exchange

end Sys2Proof.Machine
end

section
/-! PROOF. Runs of key transitions (R44): the couplings of a list of keys with a row's stops, each end and each start taken
as one alone. -/

namespace Sys2Proof.Machine

/-! ### The points of a coupling -/

/-- R40: the point of the coupling of a key with a stop of one kind, if it has one. -/
def State.coupledAt (s : State) (kind : StopKind) (x : Nat × Nat) : Option Point :=
  if (s.stop x.2).kind = kind then s.target (s.stop x.2).mapping x.1 else none

/-- R53: the point from which the end of the coupling of a key with a stop removes a claim, if there is one. -/
def State.endedAt (s : State) (r : Nat) (x : Nat × Nat) : Option Point :=
  if (s.stop x.2).kind = .tonal then s.endedClaim r x.1 x.2 else none

/-- R53: the coupling has a claim or an entry that its end takes away. -/
def State.tonalAt (s : State) (x : Nat × Nat) : Bool :=
  decide ((s.stop x.2).kind = .tonal) && (s.target (s.stop x.2).mapping x.1).isSome

/-- The couplings of keys with the stops of a list, key by key. -/
def couplings (ks active : List Nat) : List (Nat × Nat) := ks.flatMap (fun k => active.map (fun n => (k, n)))

theorem couplings_filterMap {α : Type} (f : Nat × Nat → Option α) (ks active : List Nat) :
    (couplings ks active).filterMap f = ks.flatMap (fun k => active.filterMap (fun n => f (k, n))) := by
  rw [couplings, List.filterMap_flatMap]
  exact List.flatMap_congr fun k _ => List.filterMap_map

theorem couplings_nodup {ks active : List Nat} (keys : ks.Nodup) (stops : active.Nodup) : (couplings ks active).Nodup := by
  refine List.nodup_flatMap.2 ⟨fun k _ => stops.map fun a b same => congrArg Prod.snd same, ?_⟩
  refine keys.imp fun apart x left right => ?_
  obtain ⟨n, -, rfl⟩ := List.mem_map.1 left
  obtain ⟨m, -, same⟩ := List.mem_map.1 right
  exact apart (congrArg Prod.fst same).symm

theorem mem_couplings {ks active : List Nat} {x : Nat × Nat} : x ∈ couplings ks active ↔ x.1 ∈ ks ∧ x.2 ∈ active := by
  simp only [couplings, List.mem_flatMap, List.mem_map]
  constructor
  · rintro ⟨k, key, n, stop, rfl⟩
    exact ⟨key, stop⟩
  · exact fun ⟨key, stop⟩ => ⟨x.1, key, x.2, stop, rfl⟩

theorem coupled_eq (s : State) (kind : StopKind) (r : Nat) (ks : List Nat) :
    ks.flatMap (s.coupled kind r) = (couplings ks (s.active r)).filterMap (s.coupledAt kind) := by
  rw [couplings_filterMap]
  refine List.flatMap_congr fun k _ => ?_
  rw [State.coupled, List.filterMap_filter]
  simp only [State.coupledAt, decide_eq_true_eq]

theorem endedClaims_eq (s : State) (r : Nat) (ks : List Nat) :
    ks.flatMap (s.endedClaims r) = (couplings ks (s.active r)).filterMap (s.endedAt r) := by
  rw [couplings_filterMap]
  refine List.flatMap_congr fun k _ => ?_
  rw [State.endedClaims, List.filterMap_filter]
  simp only [State.endedAt, decide_eq_true_eq]

theorem stops_of_touches {A : List Part} {s t : State} (touched : Touches A s t) : t.stop = s.stop :=
  funext (stop_of_touches touched)

theorem targets_of_touches {A : List Part} {s t : State} (touched : Touches A s t) : t.target = s.target :=
  funext fun m => funext (target_of_touches touched m)

theorem coupledAt_of_touches {A : List Part} {s t : State} (touched : Touches A s t) (kind : StopKind) :
    t.coupledAt kind = s.coupledAt kind := by
  funext x
  rw [State.coupledAt, State.coupledAt, stops_of_touches touched, targets_of_touches touched]

theorem tonalAt_of_touches {A : List Part} {s t : State} (touched : Touches A s t) : t.tonalAt = s.tonalAt := by
  funext x
  rw [State.tonalAt, State.tonalAt, stops_of_touches touched, targets_of_touches touched]

/-! ### Demands raised and lowered one after the other -/

def DemandsFall (ps : List Point) (s t : State) : Prop := ∀ q : Point, t.demandOf q = s.demandOf q - occurrences q ps

def DemandsRise (ps : List Point) (s t : State) : Prop := ∀ q : Point, t.demandOf q = s.demandOf q + occurrences q ps

theorem DemandsFall.still {s t : State} (same : t.pool.demand = s.pool.demand) : DemandsFall [] s t :=
  demandOf_of_demand same

theorem DemandsRise.still {s t : State} (same : t.pool.demand = s.pool.demand) : DemandsRise [] s t :=
  demandOf_of_demand same

theorem DemandsFall.one (p : Point) (s : State) : DemandsFall [p] s (lowerDemand p s) := fun q => by
  rw [lowerDemand_moves p s q, occurrences_single]
  by_cases same : q.index = p.index
  · rw [if_pos same, if_pos same.symm]
  · rw [if_neg same, if_neg (Ne.symm same), Nat.sub_zero]

theorem DemandsRise.one (p : Point) (s : State) : DemandsRise [p] s (raiseDemand p s) := fun q => by
  rw [raiseDemand_moves p s q, occurrences_single]
  by_cases same : q.index = p.index
  · rw [if_pos same, if_pos same.symm]
  · rw [if_neg same, if_neg (Ne.symm same), Nat.add_zero]

theorem DemandsFall.trans {ps qs : List Point} {s t u : State} (first : DemandsFall ps s t) (second : DemandsFall qs t u) :
    DemandsFall (ps ++ qs) s u := fun q => by
  rw [second q, first q, occurrences_append, Nat.sub_sub]

theorem DemandsRise.trans {ps qs : List Point} {s t u : State} (first : DemandsRise ps s t) (second : DemandsRise qs t u) :
    DemandsRise (ps ++ qs) s u := fun q => by
  rw [second q, first q, occurrences_append, Nat.add_assoc]

/-! ### One coupling -/

theorem filter_none {α : Type} {p : α → Bool} {l : List α} (free : ∀ e ∈ l, p e = false) :
    l = l.filter (fun e => !p e) := by
  refine (List.filter_eq_self.2 fun e mem => ?_).symm
  rw [free e mem]
  rfl

/-- R40, R53: what the end of one coupling does to claims, to the pizzicato list and to demands. -/
theorem endCoupling_ends (r k n : Nat) (s : State) :
    Removed (s.endedAt r (k, n)).toList s (endCoupling r k n s) ∧
      (endCoupling r k n s).claims.pizz = s.claims.pizz.filter (fun e => !(e.names r k n && s.tonalAt (k, n))) ∧
      DemandsFall (s.coupledAt .reiterate (k, n)).toList s (endCoupling r k n s) := by
  cases sounds : s.target (s.stop n).mapping k with
  | none =>
    rw [endCoupling_silent sounds]
    have ended : s.endedAt r (k, n) = none := by simp [State.endedAt, State.endedClaim, sounds]
    have coupled : s.coupledAt .reiterate (k, n) = none := by simp [State.coupledAt, sounds]
    rw [ended, coupled]
    exact ⟨.still rfl rfl, filter_none fun e _ => by simp [State.tonalAt, sounds], .still rfl⟩
  | some p =>
    by_cases tonal : (s.stop n).kind = .tonal
    · have coupled : s.coupledAt .reiterate (k, n) = none := by simp [State.coupledAt, tonal]
      have names : ∀ e : PizzEntry, (e.names r k n && s.tonalAt (k, n)) = e.names r k n := fun e => by
        simp [State.tonalAt, tonal, sounds]
      have claim : s.endedAt r (k, n) = s.endedClaim r k n := if_pos tonal
      have touched := Touches.endTonal r k n p s
      rw [endCoupling_tonal sounds tonal, coupled, claim]
      simp only [names]
      refine ⟨?_, ?_, .still (touched.demand (by decide))⟩
      · cases entry : s.pizzEntry r k n with
        | none =>
          have ended : s.endedClaim r k n = some p := by simp only [State.endedClaim, sounds, entry]
          rw [endTonal_none entry, ended]
          exact .one p s
        | some e =>
          cases spent : e.spent with
          | true =>
            have ended : s.endedClaim r k n = none := by simp only [State.endedClaim, sounds, entry, spent, if_true]
            rw [endTonal_spent entry spent, ended]
            exact .still rfl rfl
          | false =>
            have ended : s.endedClaim r k n = some e.target := by
              simp only [State.endedClaim, sounds, entry, spent, Bool.false_eq_true, if_false]
            rw [endTonal_running entry spent, ended]
            exact (Removed.one e.target s).then_still rfl rfl
      · cases entry : s.pizzEntry r k n with
        | none =>
          rw [endTonal_none entry, removeClaim_pizz]
          exact filter_none fun e mem => Bool.eq_false_iff.2 (List.find?_eq_none.1 entry e mem)
        | some e =>
          cases spent : e.spent with
          | true => rw [endTonal_spent entry spent]; rfl
          | false =>
            rw [endTonal_running entry spent]
            exact congrArg _ (removeClaim_pizz e.target s)
    · have ended : s.endedAt r (k, n) = none := if_neg tonal
      have names : ∀ e : PizzEntry, (e.names r k n && s.tonalAt (k, n)) = false := fun e => by
        simp [State.tonalAt, tonal]
      rw [ended]
      by_cases reiterate : (s.stop n).kind = .reiterate
      · have coupled : s.coupledAt .reiterate (k, n) = some p := (if_pos reiterate).trans sounds
        have touched := Touches.lowerDemand p s
        rw [endCoupling_reiterate sounds reiterate, coupled]
        exact ⟨.untouched touched (by decide) (by decide), (touched.pizz (by decide)).trans (filter_none fun e _ => names e),
          .one p s⟩
      · have coupled : s.coupledAt .reiterate (k, n) = none := if_neg reiterate
        have still : endCoupling r k n s = s := by
          simp only [endCoupling, sounds]
          cases kind : (s.stop n).kind
          case tonal => exact absurd kind tonal
          case reiterate => exact absurd kind reiterate
          all_goals rfl
        rw [coupled, still]
        exact ⟨.still rfl rfl, filter_none fun e _ => names e, .still rfl⟩

/-- R40, R51: what the start of one coupling does to claims, to the pizzicato list and to demands. -/
theorem startCoupling_starts (r k n : Nat) (s : State) :
    Added (s.coupledAt .tonal (k, n)).toList s (startCoupling r k n s) ∧
      ((s.stop n).pizz = none → (startCoupling r k n s).claims.pizz = s.claims.pizz) ∧
      DemandsRise (s.coupledAt .reiterate (k, n)).toList s (startCoupling r k n s) := by
  cases sounds : s.target (s.stop n).mapping k with
  | none =>
    rw [startCoupling_silent sounds]
    have coupled : ∀ kind, s.coupledAt kind (k, n) = none := fun kind => by simp [State.coupledAt, sounds]
    rw [coupled, coupled]
    exact ⟨.still rfl rfl rfl (fun _ => rfl) fun _ => rfl, fun _ => rfl, .still rfl⟩
  | some p =>
    have coupled : ∀ kind, s.coupledAt kind (k, n) = if (s.stop n).kind = kind then some p else none := fun kind => by
      simp only [State.coupledAt, sounds]
    have touched := Touches.startCoupling r k n s
    rw [coupled, coupled]
    by_cases tonal : (s.stop n).kind = .tonal
    · have few := startTonal_touches (r := r) tonal sounds
      rw [if_pos tonal, if_neg (by rw [tonal]; decide)]
      refine ⟨.of_rises (startTonal_rises tonal sounds) (touched.mode (by decide)) (rankOf_of_touches touched)
        (rank_of_touches touched), fun held => ?_, .still (few.demand (by decide))⟩
      rw [startCoupling_tonal sounds tonal held]
      exact addClaim_pizz p s
    · rw [if_neg tonal]
      by_cases reiterate : (s.stop n).kind = .reiterate
      · have raised := Touches.raiseDemand p s
        rw [if_pos reiterate, startCoupling_reiterate sounds reiterate]
        exact ⟨.untouched raised (by decide) (by decide) (by decide), fun _ => raised.pizz (by decide), .one p s⟩
      · rw [if_neg reiterate]
        by_cases struck : (s.stop n).kind = .struck
        · have hit := Touches.strike p s
          rw [startCoupling_struck sounds struck]
          exact ⟨.untouched hit (by decide) (by decide) (by decide), fun _ => hit.pizz (by decide),
            .still (hit.demand (by decide))⟩
        · have still : startCoupling r k n s = s := by
            simp only [startCoupling, sounds]
            cases kind : (s.stop n).kind
            case tonal => exact absurd kind tonal
            case reiterate => exact absurd kind reiterate
            case struck => exact absurd kind struck
            all_goals rfl
          rw [still]
          exact ⟨.still rfl rfl rfl (fun _ => rfl) fun _ => rfl, fun _ => rfl, .still rfl⟩

/-! ### A list of couplings -/

/-- Couplings of row `r` ended one after the other. -/
def endAll (r : Nat) (xs : List (Nat × Nat)) (s : State) : State := forEach xs (fun x => endCoupling r x.1 x.2) s

/-- Couplings of row `r` started one after the other. -/
def startAll (r : Nat) (xs : List (Nat × Nat)) (s : State) : State := forEach xs (fun x => startCoupling r x.1 x.2) s

theorem endAll_cons (r : Nat) (x : Nat × Nat) (xs : List (Nat × Nat)) (s : State) :
    endAll r (x :: xs) s = endAll r xs (endCoupling r x.1 x.2 s) := rfl

theorem startAll_cons (r : Nat) (x : Nat × Nat) (xs : List (Nat × Nat)) (s : State) :
    startAll r (x :: xs) s = startAll r xs (startCoupling r x.1 x.2 s) := rfl

theorem Touches.endAll (r : Nat) (xs : List (Nat × Nat)) (s : State) : Touches couplingParts s (endAll r xs s) :=
  Touches.forEach (f := fun x => Machine.endCoupling r x.1 x.2) (fun x t => Touches.endCoupling r x.1 x.2 t) xs s

theorem Touches.startAll (r : Nat) (xs : List (Nat × Nat)) (s : State) : Touches couplingParts s (startAll r xs s) :=
  Touches.forEach (f := fun x => Machine.startCoupling r x.1 x.2) (fun x t => Touches.startCoupling r x.1 x.2 t) xs s

theorem filterMap_cons_toList {α β : Type} (f : α → Option β) (a : α) (l : List α) :
    (a :: l).filterMap f = (f a).toList ++ l.filterMap f := by
  cases image : f a with
  | none => rw [List.filterMap_cons_none image]; rfl
  | some b => rw [List.filterMap_cons_some image]; rfl

/-- R53: the end of another coupling leaves the entry of this one. -/
theorem pizzEntry_endCoupling {r k n r' k' n' : Nat} (apart : ¬(r' = r ∧ k' = k ∧ n' = n)) (s : State) :
    (endCoupling r k n s).pizzEntry r' k' n' = s.pizzEntry r' k' n' := by
  obtain ⟨-, pizz, -⟩ := endCoupling_ends r k n s
  rw [State.pizzEntry, pizz, List.find?_filter]
  refine congrArg (fun q => List.find? q s.claims.pizz) (funext fun e => ?_)
  by_cases named : e.names r' k' n' = true
  · have other : e.names r k n = false := Bool.eq_false_iff.2 fun both => by
      obtain ⟨rfl, rfl, rfl⟩ := (e.names_iff r k n).1 both
      obtain ⟨row, key, stop⟩ := (e.names_iff r' k' n').1 named
      exact apart ⟨row.symm, key.symm, stop.symm⟩
    simp [other, named]
  · rw [Bool.not_eq_true] at named
    simp [named]

theorem endedAt_endCoupling {r : Nat} {x y : Nat × Nat} (apart : y ≠ x) (s : State) :
    (endCoupling r x.1 x.2 s).endedAt r y = s.endedAt r y := by
  have touched := Touches.endCoupling r x.1 x.2 s
  have entry : (endCoupling r x.1 x.2 s).pizzEntry r y.1 y.2 = s.pizzEntry r y.1 y.2 :=
    pizzEntry_endCoupling (fun ⟨_, key, stop⟩ => apart (Prod.ext key stop)) s
  simp only [State.endedAt, State.endedClaim, stops_of_touches touched, targets_of_touches touched, entry]

theorem endAll_removed (r : Nat) (xs : List (Nat × Nat)) (once : xs.Nodup) (s : State) :
    Removed (xs.filterMap (s.endedAt r)) s (endAll r xs s) := by
  induction xs generalizing s with
  | nil => exact .still rfl rfl
  | cons x rest ih =>
    obtain ⟨apart, onceRest⟩ := List.nodup_cons.1 once
    obtain ⟨removed, -, -⟩ := endCoupling_ends r x.1 x.2 s
    have later := ih onceRest (endCoupling r x.1 x.2 s)
    have same : rest.filterMap ((endCoupling r x.1 x.2 s).endedAt r) = rest.filterMap (s.endedAt r) :=
      List.filterMap_congr fun y mem => endedAt_endCoupling (fun same : y = x => apart (same ▸ mem)) s
    rw [same] at later
    rw [filterMap_cons_toList, endAll_cons]
    exact removed.trans later

theorem endAll_demands (r : Nat) (xs : List (Nat × Nat)) (s : State) :
    DemandsFall (xs.filterMap (s.coupledAt .reiterate)) s (endAll r xs s) := by
  induction xs generalizing s with
  | nil => exact .still rfl
  | cons x rest ih =>
    obtain ⟨-, -, lowered⟩ := endCoupling_ends r x.1 x.2 s
    have later := ih (endCoupling r x.1 x.2 s)
    rw [coupledAt_of_touches (Touches.endCoupling r x.1 x.2 s)] at later
    rw [filterMap_cons_toList, endAll_cons]
    exact lowered.trans later

/-- R53: each ended TONAL coupling with a target has taken its entry with it. -/
theorem endAll_pizz (r : Nat) (xs : List (Nat × Nat)) (s : State) : (endAll r xs s).claims.pizz =
    s.claims.pizz.filter (fun e => !xs.any (fun x => e.names r x.1 x.2 && s.tonalAt x)) := by
  induction xs generalizing s with
  | nil => exact (List.filter_true _).symm
  | cons x rest ih =>
    obtain ⟨-, pizz, -⟩ := endCoupling_ends r x.1 x.2 s
    rw [endAll_cons, ih, pizz, tonalAt_of_touches (Touches.endCoupling r x.1 x.2 s), List.filter_filter]
    refine List.filter_congr fun e _ => ?_
    rw [List.any_cons, Bool.not_or, Bool.and_comm]

theorem startAll_added (r : Nat) (xs : List (Nat × Nat)) (s : State) :
    Added (xs.filterMap (s.coupledAt .tonal)) s (startAll r xs s) := by
  induction xs generalizing s with
  | nil => exact .still rfl rfl rfl (fun _ => rfl) fun _ => rfl
  | cons x rest ih =>
    obtain ⟨added, -, -⟩ := startCoupling_starts r x.1 x.2 s
    have later := ih (startCoupling r x.1 x.2 s)
    rw [coupledAt_of_touches (Touches.startCoupling r x.1 x.2 s)] at later
    rw [filterMap_cons_toList, startAll_cons]
    exact added.trans later

theorem startAll_demands (r : Nat) (xs : List (Nat × Nat)) (s : State) :
    DemandsRise (xs.filterMap (s.coupledAt .reiterate)) s (startAll r xs s) := by
  induction xs generalizing s with
  | nil => exact .still rfl
  | cons x rest ih =>
    obtain ⟨-, -, raised⟩ := startCoupling_starts r x.1 x.2 s
    have later := ih (startCoupling r x.1 x.2 s)
    rw [coupledAt_of_touches (Touches.startCoupling r x.1 x.2 s)] at later
    rw [filterMap_cons_toList, startAll_cons]
    exact raised.trans later

theorem startAll_pizz (r : Nat) (xs : List (Nat × Nat)) (s : State) (held : ∀ x ∈ xs, (s.stop x.2).pizz = none) :
    (startAll r xs s).claims.pizz = s.claims.pizz := by
  induction xs generalizing s with
  | nil => rfl
  | cons x rest ih =>
    obtain ⟨-, pizz, -⟩ := startCoupling_starts r x.1 x.2 s
    rw [startAll_cons, ih _ fun y mem => ?_, pizz (held x List.mem_cons_self)]
    rw [stops_of_touches (Touches.startCoupling r x.1 x.2 s)]
    exact held y (List.mem_cons_of_mem _ mem)

/-! ### A list of keys -/

theorem active_of_touches {A : List Part} {s t : State} (touched : Touches A s t) (active : .active ∉ A) (r : Nat) :
    t.active r = s.active r := congrArg (fun x => Table.get x [] r) (touched.active active)

theorem endKeys_eq (r : Nat) (ks : List Nat) (s : State) :
    forEach ks (endKey r) s = endAll r (couplings ks (s.active r)) s := by
  induction ks generalizing s with
  | nil => rfl
  | cons k rest ih =>
    have first : endKey r k s = endAll r ((s.active r).map (fun n => (k, n))) s :=
      (forEach_map (fun n => (k, n)) (fun x => endCoupling r x.1 x.2) (s.active r) s).symm
    have active := active_of_touches (Touches.endKey r k s) (by decide) r
    have all : couplings (k :: rest) (s.active r) = (s.active r).map (fun n => (k, n)) ++ couplings rest (s.active r) := by
      simp only [couplings, List.flatMap_cons]
    rw [all, endAll, forEach_append, forEach_cons, ih, active, first]
    rfl

theorem startKeys_eq (r : Nat) (ks : List Nat) (s : State) :
    forEach ks (startKey r) s = startAll r (couplings ks (s.active r)) s := by
  induction ks generalizing s with
  | nil => rfl
  | cons k rest ih =>
    have first : startKey r k s = startAll r ((s.active r).map (fun n => (k, n))) s :=
      (forEach_map (fun n => (k, n)) (fun x => startCoupling r x.1 x.2) (s.active r) s).symm
    have active := active_of_touches (Touches.startKey r k s) (by decide) r
    have all : couplings (k :: rest) (s.active r) = (s.active r).map (fun n => (k, n)) ++ couplings rest (s.active r) := by
      simp only [couplings, List.flatMap_cons]
    rw [all, startAll, forEach_append, forEach_cons, ih, active, first]
    rfl

/-- R44: in PLAY a run of RELEASEs or of PRESSes of keys ends or starts their couplings. -/
theorem keyRun_play {r : Nat} (ks : List Nat) (press : Bool) {s : State} (play : s.mode = .play) :
    forEach (ks.map (fun k => (k, press))) (handOn .key r) s =
      if press then startAll r (couplings ks (s.active r)) s else endAll r (couplings ks (s.active r)) s := by
  have each : ∀ (ks : List Nat) (t : State), t.mode = .play → forEach (ks.map (fun k => (k, press))) (handOn .key r) t =
      forEach ks (fun k u => if press then startKey r k u else endKey r k u) t := by
    intro ks
    induction ks with
    | nil => exact fun _ _ => rfl
    | cons k rest ih =>
      intro t inPlay
      have one : handOn .key r (k, press) t = if press then startKey r k t else endKey r k t := by
        simp only [handOn, keyTransition, inPlay]
      have still : (if press then startKey r k t else endKey r k t).mode = .play := by
        split
        · exact ((Touches.startKey r k t).mode (by decide)).trans inPlay
        · exact ((Touches.endKey r k t).mode (by decide)).trans inPlay
      rw [List.map_cons, forEach_cons, one, ih _ still, forEach_cons]
  rw [each ks s play]
  cases press with
  | true => exact startKeys_eq r ks s
  | false => exact endKeys_eq r ks s

end Sys2Proof.Machine
end

section
/-! PROOF. Strikes amid raises and lowerings of demand (R67, R73, R76, R78): what a run of couplings does to the strike timer
of one point. -/

namespace Sys2Proof.Machine

/-! ### Clients served -/

theorem servedBy_eq_none {s : State} {c : Client} :
    s.servedBy c = none ↔ ∀ g, g < 32 → ∀ v, s.generator g = some v → v.client ≠ c := by
  unfold State.servedBy
  rw [List.find?_eq_none]
  constructor
  · intro free g inRange v serving same
    have here := free g (List.mem_range.2 inRange)
    rw [serving] at here
    exact here (decide_eq_true same)
  · intro free g mem
    cases serving : s.generator g with
    | none => exact Bool.false_ne_true
    | some v => exact fun same => free g (List.mem_range.1 mem) v serving (of_decide_eq_true same)

theorem servedBy_isSome {s : State} {c : Client} :
    (s.servedBy c).isSome = true ↔ ∃ g, g < 32 ∧ ∃ v, s.generator g = some v ∧ v.client = c := by
  rw [Option.isSome_iff_ne_none, ne_eq, servedBy_eq_none]
  push Not
  exact Iff.rfl

/-- A client that is not served is still not served when a generator has become IDLE or serves another. -/
theorem servedBy_none_of_generator {s t : State} {c : Client} {g : Nat} (free : s.servedBy c = none)
    (others : ∀ h, h ≠ g → t.generator h = s.generator h) (other : ∀ v, t.generator g = some v → v.client ≠ c) :
    t.servedBy c = none := by
  rw [servedBy_eq_none] at free ⊢
  intro h inRange v serving
  by_cases same : h = g
  · subst same
    exact other v serving
  · rw [others h same] at serving
    exact free h inRange v serving

theorem idleGenerator_idle {s : State} {g : Nat} (idle : s.idleGenerator = some g) : g < 32 ∧ s.generator g = none := by
  have mem := List.mem_of_find?_eq_some idle
  have vacant : (s.generator g).isNone = true := List.find?_some (p := fun g => (s.generator g).isNone) idle
  exact ⟨List.mem_range.1 mem, Option.isNone_iff_eq_none.1 vacant⟩

theorem struckClients_serves {s : State} {v : Nat × Point} (mem : v ∈ s.struckClients) :
    v.1 < 32 ∧ ∃ x, s.generator v.1 = some x ∧ x.client = .struck v.2 := by
  obtain ⟨g, inRange, named⟩ := List.mem_filterMap.1 mem
  cases serving : s.generator g with
  | none => rw [serving] at named; cases named
  | some x =>
    obtain ⟨client, counter, level, period, onValue⟩ := x
    rw [serving] at named
    cases client with
    | tremulant k => cases named
    | struck p =>
      cases named
      exact ⟨List.mem_range.1 inRange, _, serving, rfl⟩

theorem victim_serves {s : State} {admits : Point → Bool} {v : Nat × Point} (found : s.victim admits = some v) :
    v.1 < 32 ∧ ∃ x, s.generator v.1 = some x ∧ x.client = .struck v.2 :=
  struckClients_serves (List.mem_filter.1 (leastBy_mem found)).1

/-- R79: the waiting point that comes first waits. -/
theorem firstWaiting_waits {s : State} (bounded : ListsBounded s) {w : Point} (found : s.firstWaiting = some w) :
    s.isWaiting w = true := by
  have wellFormed := bounded.waiting
  simp only [Table.wf, Bool.and_eq_true, indicesRise_iff] at wellFormed
  obtain ⟨rising, -⟩ := wellFormed
  obtain ⟨e, inList, rfl⟩ := List.mem_map.1 (greatestBy_mem found)
  obtain ⟨inEntries, set⟩ := List.mem_filter.1 inList
  have index : (pointAt e.1).index = e.1 := by simp only [pointAt, Point.index]; omega
  simp only [State.isWaiting, index]
  exact (lookup_of_mem_entries rising inEntries).trans set

theorem setWaiting_generators (p : Point) (b : Bool) (s : State) :
    (setWaiting p b s).pool.generators = s.pool.generators := by rw [setWaiting_pool]

/-! ### A point that a change of demand passes by -/

/-- The strike timer of a point that does not wait is as it was, and where it was not served it still is not. -/
structure PassesBy (q : Point) (s t : State) : Prop where
  timer : t.strikeTimer q = s.strikeTimer q
  waits : t.isWaiting q = false
  unserved : s.servedBy (.struck q) = none → t.servedBy (.struck q) = none

theorem PassesBy.of_pool {q : Point} {s t : State} (same : t.pool = s.pool) (free : s.isWaiting q = false) :
    PassesBy q s t where
  timer := by unfold State.strikeTimer; rw [same]
  waits := by unfold State.isWaiting at free ⊢; rw [same]; exact free
  unserved := fun unserved => (servedBy_of_generators (by rw [same]) _).trans unserved

theorem PassesBy.trans {q : Point} {s t u : State} (first : PassesBy q s t) (second : PassesBy q t u) : PassesBy q s u where
  timer := second.timer.trans first.timer
  waits := second.waits
  unserved := fun unserved => second.unserved (first.unserved unserved)

theorem struck_ne {p q : Point} (apart : p.index ≠ q.index) : Client.struck p ≠ .struck q := fun same =>
  apart (congrArg Point.index (Client.struck.inj same))

/-- R79: a generator that becomes free goes to a point that waits. -/
theorem freeGenerator_passesBy {g : Nat} {q : Point} {s : State} (bounded : ListsBounded s)
    (free : s.isWaiting q = false) : PassesBy q s (freeGenerator g s) := by
  have freed := (freeGenerator_freed g s).others
  cases found : s.firstWaiting with
  | none =>
    have idle : freeGenerator g s = s.setGenerator g none := by simp only [freeGenerator, found]
    rw [idle] at freed ⊢
    have vacant : (s.setGenerator g none).generator g = none := (generator_setGenerator s g g none).trans (if_pos rfl)
    exact ⟨rfl, free, fun unserved => servedBy_none_of_generator unserved freed fun v serving =>
      absurd (vacant.symm.trans serving) (by simp)⟩
  | some w =>
    have waits := firstWaiting_waits bounded found
    have apart : w.index ≠ q.index := fun same => by
      have both : s.isWaiting w = s.isWaiting q := by unfold State.isWaiting; rw [same]
      rw [waits, free] at both
      exact absurd both (by decide)
    have granted : freeGenerator g s = grant g (.struck w) (setWaiting w false s) := by
      simp only [freeGenerator, found]
    rw [granted] at freed ⊢
    refine ⟨?_, ?_, fun unserved => servedBy_none_of_generator unserved freed fun v serving => ?_⟩
    · rw [grant_strikeTimer, if_neg (Ne.symm apart), setWaiting_strikeTimer]
    · rw [grant_isWaiting, setWaiting_isWaiting, if_neg (Ne.symm apart), free]
    · rw [grant_generator, if_pos rfl] at serving
      cases serving
      exact struck_ne apart

/-- R78: the fall of the demand of another point. -/
theorem demandFall_passesBy {m q : Point} {s : State} (apart : m.index ≠ q.index) (bounded : ListsBounded s)
    (free : s.isWaiting q = false) : PassesBy q s (demandFall m s) := by
  unfold demandFall
  split
  · exact freeGenerator_passesBy bounded free
  · refine ⟨setWaiting_strikeTimer m q false s, ?_, fun unserved => ?_⟩
    · rw [setWaiting_isWaiting, if_neg (Ne.symm apart), free]
    · exact (servedBy_of_generators (setWaiting_generators m false s) _).trans unserved

theorem lowerDemand_passesBy {m q : Point} {s : State} (apart : m.index ≠ q.index) (bounded : ListsBounded s)
    (free : s.isWaiting q = false) : PassesBy q s (lowerDemand m s) := by
  have written : PassesBy q s (s.setDemand m (s.demandOf m - 1)) := ⟨rfl, free, id⟩
  simp only [lowerDemand]
  split
  · refine written.trans (demandFall_passesBy apart ?_ free)
    exact ⟨bounded.pizz, bounded.holds, bounded.players, bounded.ciphers, bounded.waiting⟩
  · exact written

/-- R76: the rise of the demand of another point leaves the strike timer of a point, and does not serve it. -/
theorem raiseDemand_apart {m q : Point} {s : State} (apart : m.index ≠ q.index) :
    (raiseDemand m s).strikeTimer q = s.strikeTimer q ∧
      (s.servedBy (.struck q) = none → (raiseDemand m s).servedBy (.struck q) = none) := by
  simp only [raiseDemand]
  split
  case isFalse => exact ⟨rfl, id⟩
  case isTrue =>
    have written : (s.setDemand m (s.demandOf m + 1)).strikeTimer q = s.strikeTimer q := rfl
    have unserved : s.servedBy (.struck q) = none →
        (s.setDemand m (s.demandOf m + 1)).servedBy (.struck q) = none := id
    generalize s.setDemand m (s.demandOf m + 1) = u at written unserved
    rw [← written]
    cases idle : u.idleGenerator with
    | some g =>
      rw [demandRise_idle idle, grant_strikeTimer, if_neg (Ne.symm apart)]
      refine ⟨rfl, fun free => servedBy_none_of_generator (unserved free) (g := g) (fun h other => ?_) fun v serving => ?_⟩
      · rw [grant_generator, if_neg other]
      · rw [grant_generator, if_pos rfl] at serving
        cases serving
        exact struck_ne apart
    | none =>
      cases lower : u.victim (fun p => decide (u.priority p < u.priority m)) with
      | some v =>
        rw [demandRise_steal idle lower, steal_strikeTimer, if_neg (Ne.symm apart)]
        refine ⟨rfl, fun free => servedBy_none_of_generator (unserved free) (g := v.1) (fun h other => ?_)
          fun x serving => ?_⟩
        · rw [steal_generator, if_neg other]
        · rw [steal_generator, if_pos rfl] at serving
          cases serving
          exact struck_ne apart
      | none =>
        rw [demandRise_waits idle lower, (strike_taken m _).others q (Ne.symm apart), setWaiting_strikeTimer]
        have touched := Touches.strike m (setWaiting m true u)
        refine ⟨rfl, fun free => ?_⟩
        rw [servedBy_of_generators (touched.generators (by decide)),
          servedBy_of_generators (setWaiting_generators m true u)]
        exact unserved free

/-! ### A point that sounds -/

/-- The point is served, or its strike timer runs, or it waits. -/
def State.Sounds (s : State) (p : Point) : Prop :=
  (s.servedBy (.struck p)).isSome = true ∨ (s.strikeTimer p).isSome = true ∨ s.isWaiting p = true

theorem State.Sounds.of_pool {s t : State} {p : Point} (sounds : s.Sounds p) (same : t.pool = s.pool) : t.Sounds p := by
  have served := servedBy_of_generators (congrArg Pool.generators same) (.struck p)
  have timer : t.strikeTimer p = s.strikeTimer p := by unfold State.strikeTimer; rw [same]
  have waits : t.isWaiting p = s.isWaiting p := by unfold State.isWaiting; rw [same]
  rw [State.Sounds, served, timer, waits]
  exact sounds

/-- R67: a struck point that is struck sounds. -/
theorem strike_sounds {p : Point} {s : State} (struck : s.isStruck p = true) : (strike p s).Sounds p := by
  obtain ⟨unstruck, -⟩ | ⟨r, -, -, ⟨absorbed, still⟩ | ⟨-, started⟩⟩ := strike_cases p s
  · exact absurd (struck.symm.trans unstruck) (by decide)
  · rw [still]
    obtain served | running := absorbed
    · exact .inl served
    · exact .inr (.inl running)
  · rw [started, State.Sounds, strikeTimer_setStrikeTimer, if_pos rfl]
    exact .inr (.inl rfl)

theorem strike_keeps_sounding (q : Point) {p : Point} {s : State} (sounds : s.Sounds p) : (strike q s).Sounds p := by
  have touched := Touches.strike q s
  have served := servedBy_of_generators (touched.generators (by decide)) (.struck p)
  have waits : (strike q s).isWaiting p = s.isWaiting p :=
    congrArg (fun w => Table.get w false p.index) (touched.waiting (by decide))
  rw [State.Sounds, served, waits]
  refine sounds.imp_right (Or.imp_left fun running => ?_)
  obtain ⟨-, still⟩ | ⟨r, -, -, ⟨-, still⟩ | ⟨-, started⟩⟩ := strike_cases q s
  · rw [still]; exact running
  · rw [still]; exact running
  · rw [started, strikeTimer_setStrikeTimer]
    split
    · rfl
    · exact running

/-- R73: a point keeps sounding when a generator that does not serve it is granted to a point. -/
theorem grant_keeps_sounding {g : Nat} {q p : Point} {s : State} (inRange : g < 32) (small : q.point < 1024)
    (small' : p.point < 1024) (spared : s.Sounds p ∧ (∀ v, s.generator g = some v → v.client ≠ .struck p) ∨
      s.isWaiting p = true) : (grant g (.struck q) s).Sounds p := by
  by_cases same : q.index = p.index
  · obtain rfl := index_injective small small' same
    exact .inl (servedBy_isSome.2 ⟨g, inRange, _, (grant_generator g _ s g).trans (if_pos rfl), rfl⟩)
  · rw [State.Sounds, grant_strikeTimer, if_neg (Ne.symm same), grant_isWaiting]
    obtain ⟨sounds, other⟩ | waits := spared
    · refine sounds.imp_left fun served => ?_
      obtain ⟨h, inRange', v, serving, client⟩ := servedBy_isSome.1 served
      refine servedBy_isSome.2 ⟨h, inRange', v, ?_, client⟩
      rw [grant_generator, if_neg fun same : h = g => other v (same ▸ serving) client]
      exact serving
    · exact .inr (.inr waits)

/-- R76: a point that sounds keeps sounding at a rise of demand: one that loses its generator waits. -/
theorem raiseDemand_keeps_sounding {m p : Point} {s : State} (small : m.point < 1024) (small' : p.point < 1024)
    (sounds : s.Sounds p) : (raiseDemand m s).Sounds p := by
  simp only [raiseDemand]
  split
  case isFalse => exact sounds
  case isTrue =>
    have written : (s.setDemand m (s.demandOf m + 1)).Sounds p := sounds
    generalize s.setDemand m (s.demandOf m + 1) = u at written
    cases idle : u.idleGenerator with
    | some g =>
      obtain ⟨inRange, vacant⟩ := idleGenerator_idle idle
      rw [demandRise_idle idle]
      exact grant_keeps_sounding inRange small small' (.inl ⟨written, fun v serving =>
        absurd (vacant.symm.trans serving) (by simp)⟩)
    | none =>
      cases lower : u.victim (fun p => decide (u.priority p < u.priority m)) with
      | some v =>
        obtain ⟨inRange, x, serving, client⟩ := victim_serves lower
        have joined : (latch .genSteal (setWaiting v.2 true u)).pool =
            { u.pool with waiting := u.pool.waiting.put false v.2.index true } :=
          (latch_pool _ _).trans (setWaiting_pool v.2 true u)
        have waits : (latch .genSteal (setWaiting v.2 true u)).isWaiting p =
            if p.index = v.2.index then true else u.isWaiting p := by
          unfold State.isWaiting
          rw [joined]
          exact Table.get_put _ _ _ _ _
        have generator : ∀ h, (latch .genSteal (setWaiting v.2 true u)).generator h = u.generator h := fun h => by
          unfold State.generator
          rw [joined]
        rw [demandRise_steal idle lower, steal]
        refine grant_keeps_sounding inRange small small' ?_
        by_cases same : p.index = v.2.index
        · exact .inr (waits.trans (if_pos same))
        · refine .inl ⟨?_, fun y serving' same' => ?_⟩
          · have served := servedBy_of_generators (s := u) (by rw [joined]) (.struck p)
            have timer : (latch .genSteal (setWaiting v.2 true u)).strikeTimer p = u.strikeTimer p := by
              unfold State.strikeTimer
              rw [joined]
            rw [State.Sounds, served, timer, waits, if_neg same]
            exact written
          · rw [generator] at serving'
            obtain rfl := Option.some.inj (serving.symm.trans serving')
            exact same (congrArg Point.index (Client.struck.inj (client.symm.trans same'))).symm
      | none =>
        rw [demandRise_waits idle lower]
        refine strike_keeps_sounding m ?_
        have served := servedBy_of_generators (setWaiting_generators m true u) (.struck p)
        rw [State.Sounds, served, setWaiting_strikeTimer, setWaiting_isWaiting]
        refine written.imp_right (Or.imp_right fun waits => ?_)
        split
        · rfl
        · exact waits

/-! ### Couplings, seen from the pool -/

/-- R40: the end of a coupling lowers a demand or leaves the pool alone. -/
theorem endCoupling_pool (r : Nat) (x : Nat × Nat) (s : State) :
    (∃ p, s.coupledAt .reiterate x = some p ∧ endCoupling r x.1 x.2 s = lowerDemand p s) ∨
      (s.coupledAt .reiterate x = none ∧ (endCoupling r x.1 x.2 s).pool = s.pool) := by
  cases sounds : s.target (s.stop x.2).mapping x.1 with
  | none => exact .inr ⟨by simp [State.coupledAt, sounds], by rw [endCoupling_silent sounds]⟩
  | some p =>
    have coupled : s.coupledAt .reiterate x = if (s.stop x.2).kind = .reiterate then some p else none := by
      simp only [State.coupledAt, sounds]
    rw [coupled]
    cases kind : (s.stop x.2).kind with
    | reiterate => exact .inl ⟨p, rfl, endCoupling_reiterate sounds kind⟩
    | tonal =>
      have touched := Touches.endTonal r x.1 x.2 p s
      rw [endCoupling_tonal sounds kind]
      exact .inr ⟨if_neg (by decide), pool_of_touches touched (by decide) (by decide) (by decide) (by decide) (by decide)⟩
    | struck => exact .inr ⟨if_neg (by decide), by rw [endCoupling_struck kind]⟩
    | silent | tremulant | routeMask =>
      exact .inr ⟨if_neg (by decide), by rw [endCoupling_unmapped (by rw [kind]; rfl)]⟩

/-- R40: the start of a coupling strikes a point, raises a demand, or leaves the pool alone. -/
theorem startCoupling_pool (r : Nat) (x : Nat × Nat) (s : State) :
    (∃ p, s.coupledAt .struck x = some p ∧ s.coupledAt .reiterate x = none ∧ startCoupling r x.1 x.2 s = strike p s) ∨
      (∃ p, s.coupledAt .struck x = none ∧ s.coupledAt .reiterate x = some p ∧
        startCoupling r x.1 x.2 s = raiseDemand p s) ∨
      (s.coupledAt .struck x = none ∧ s.coupledAt .reiterate x = none ∧ (startCoupling r x.1 x.2 s).pool = s.pool) := by
  cases sounds : s.target (s.stop x.2).mapping x.1 with
  | none =>
    have coupled : ∀ kind, s.coupledAt kind x = none := fun kind => by simp [State.coupledAt, sounds]
    exact .inr (.inr ⟨coupled _, coupled _, by rw [startCoupling_silent sounds]⟩)
  | some p =>
    have coupled : ∀ kind, s.coupledAt kind x = if (s.stop x.2).kind = kind then some p else none := fun kind => by
      simp only [State.coupledAt, sounds]
    rw [coupled, coupled]
    cases kind : (s.stop x.2).kind with
    | struck => exact .inl ⟨p, rfl, if_neg (by decide), startCoupling_struck sounds kind⟩
    | reiterate => exact .inr (.inl ⟨p, if_neg (by decide), rfl, startCoupling_reiterate sounds kind⟩)
    | tonal =>
      have touched := startTonal_touches (r := r) kind sounds
      exact .inr (.inr ⟨if_neg (by decide), if_neg (by decide),
        pool_of_touches touched (by decide) (by decide) (by decide) (by decide) (by decide)⟩)
    | silent | tremulant | routeMask =>
      exact .inr (.inr ⟨if_neg (by decide), if_neg (by decide), by rw [startCoupling_unmapped (by rw [kind]; rfl)]⟩)

/-! ### A list of couplings, seen from the pool -/

theorem endAll_passesBy {q : Point} (r : Nat) (xs : List (Nat × Nat)) (s : State) (bounded : ListsBounded s)
    (apart : ∀ m ∈ xs.filterMap (s.coupledAt .reiterate), m.index ≠ q.index) (free : s.isWaiting q = false) :
    PassesBy q s (endAll r xs s) := by
  induction xs generalizing s with
  | nil => exact .of_pool rfl free
  | cons x rest ih =>
    have touched := Touches.endCoupling r x.1 x.2 s
    have coupled := coupledAt_of_touches touched .reiterate
    rw [filterMap_cons_toList] at apart
    have one : PassesBy q s (endCoupling r x.1 x.2 s) := by
      obtain ⟨p, moved, lowers⟩ | ⟨-, same⟩ := endCoupling_pool r x s
      · rw [lowers]
        exact lowerDemand_passesBy (apart p (List.mem_append_left _ (by rw [moved]; exact List.mem_singleton_self p)))
          bounded free
      · exact .of_pool same free
    rw [endAll_cons]
    exact one.trans (ih _ (touched.bounded bounded)
      (by rw [coupled]; exact fun m mem => apart m (List.mem_append_right _ mem)) one.waits)

theorem startAll_apart {q : Point} (r : Nat) (xs : List (Nat × Nat)) (s : State)
    (unmoved : ∀ m ∈ xs.filterMap (s.coupledAt .reiterate), m.index ≠ q.index)
    (unstruck : ∀ p ∈ xs.filterMap (s.coupledAt .struck), p.index ≠ q.index) :
    (startAll r xs s).strikeTimer q = s.strikeTimer q := by
  induction xs generalizing s with
  | nil => rfl
  | cons x rest ih =>
    have touched := Touches.startCoupling r x.1 x.2 s
    rw [filterMap_cons_toList] at unmoved unstruck
    have one : (startCoupling r x.1 x.2 s).strikeTimer q = s.strikeTimer q := by
      obtain ⟨p, hit, -, strikes⟩ | ⟨p, -, moved, raises⟩ | ⟨-, -, same⟩ := startCoupling_pool r x s
      · rw [strikes]
        exact (strike_taken p s).others q
          (Ne.symm (unstruck p (List.mem_append_left _ (by rw [hit]; exact List.mem_singleton_self p))))
      · rw [raises]
        obtain ⟨timer, -⟩ := raiseDemand_apart
          (unmoved p (List.mem_append_left _ (by rw [moved]; exact List.mem_singleton_self p)))
        exact timer
      · unfold State.strikeTimer
        rw [same]
    rw [startAll_cons, ih _ (by
      rw [coupledAt_of_touches touched]
      exact fun m mem => unmoved m (List.mem_append_right _ mem)) (by
      rw [coupledAt_of_touches touched]
      exact fun p mem => unstruck p (List.mem_append_right _ mem)), one]

/-- R67: a struck point whose demand does not move, and which is not served, is struck as if it were alone. -/
theorem startAll_strikes_alone {q : Point} {k : Nat} (r : Nat) (xs : List (Nat × Nat)) (s : State)
    (small : q.point < 1024) (inRange : ∀ p ∈ xs.filterMap (s.coupledAt .struck), p.point < 1024)
    (unmoved : ∀ m ∈ xs.filterMap (s.coupledAt .reiterate), m.index ≠ q.index) (unserved : s.servedBy (.struck q) = none)
    (ranked : s.rankOf q = some k) (struck : (s.rank k).kind = .struck) : (startAll r xs s).strikeTimer q =
      if (s.strikeTimer q).isSome then s.strikeTimer q
      else if q ∈ xs.filterMap (s.coupledAt .struck) then some (s.rank k).strikeLength else none := by
  induction xs generalizing s with
  | nil =>
    have still : startAll r [] s = s := rfl
    rw [still]
    cases s.strikeTimer q <;> simp
  | cons x rest ih =>
    have touched := Touches.startCoupling r x.1 x.2 s
    have coupled := coupledAt_of_touches touched
    have later := ih (startCoupling r x.1 x.2 s)
    rw [coupled, coupled, rankOf_of_touches touched, rank_of_touches touched] at later
    rw [filterMap_cons_toList] at inRange unmoved
    have one : (startCoupling r x.1 x.2 s).servedBy (.struck q) = none ∧
        (startCoupling r x.1 x.2 s).strikeTimer q =
          if (s.strikeTimer q).isSome then s.strikeTimer q
          else if q ∈ (s.coupledAt .struck x).toList then some (s.rank k).strikeLength else none := by
      have stands : s.strikeTimer q = if (s.strikeTimer q).isSome then s.strikeTimer q else none := by
        cases s.strikeTimer q <;> rfl
      obtain ⟨p, hit, -, strikes⟩ | ⟨p, spared, moved, raises⟩ | ⟨spared, -, same⟩ := startCoupling_pool r x s
      · have free := servedBy_of_generators ((Touches.strike p s).generators (by decide)) (.struck q)
        rw [strikes, free, hit, Option.toList_some]
        refine ⟨unserved, ?_⟩
        by_cases own : q = p
        · subst own
          rw [strike_unserved ranked struck unserved, if_pos (List.mem_singleton_self q)]
        · have apart : q.index ≠ p.index := fun same => own (index_injective small
            (inRange p (List.mem_append_left _ (by rw [hit]; exact List.mem_singleton_self p))) same)
          rw [(strike_taken p s).others q apart, if_neg fun mem => own (List.mem_singleton.1 mem)]
          exact stands
      · obtain ⟨timer, free⟩ := raiseDemand_apart (s := s)
          (unmoved p (List.mem_append_left _ (by rw [moved]; exact List.mem_singleton_self p)))
        rw [raises, spared]
        exact ⟨free unserved, by simpa using timer.trans stands⟩
      · rw [spared]
        refine ⟨(servedBy_of_generators (congrArg Pool.generators same) _).trans unserved, ?_⟩
        have timer : (startCoupling r x.1 x.2 s).strikeTimer q = s.strikeTimer q := by
          unfold State.strikeTimer
          rw [same]
        simpa using timer.trans stands
    obtain ⟨free, timer⟩ := one
    rw [startAll_cons, later (fun p mem => inRange p (List.mem_append_right _ mem))
      (fun m mem => unmoved m (List.mem_append_right _ mem)) free ranked struck, timer, filterMap_cons_toList]
    simp only [List.mem_append]
    by_cases running : (s.strikeTimer q).isSome = true
    · simp [running]
    · by_cases here : q ∈ (s.coupledAt .struck x).toList
      · simp [running, here]
      · simp only [running, here, false_or, Option.isSome_none, Bool.false_eq_true, if_false]

theorem startAll_sounds {p : Point} (r : Nat) (xs : List (Nat × Nat)) (s : State) (small : p.point < 1024)
    (inRange : ∀ m ∈ xs.filterMap (s.coupledAt .reiterate), m.point < 1024) :
    (s.Sounds p → (startAll r xs s).Sounds p) ∧
      (p ∈ xs.filterMap (s.coupledAt .struck) → s.isStruck p = true → (startAll r xs s).Sounds p) := by
  induction xs generalizing s with
  | nil => exact ⟨id, fun mem => absurd mem (by simp)⟩
  | cons x rest ih =>
    have touched := Touches.startCoupling r x.1 x.2 s
    have later := ih (startCoupling r x.1 x.2 s)
    have isStruck : (startCoupling r x.1 x.2 s).isStruck p = s.isStruck p := by
      simp only [State.isStruck, rankOf_of_touches touched, rank_of_touches touched]
    rw [coupledAt_of_touches touched, coupledAt_of_touches touched, isStruck] at later
    rw [filterMap_cons_toList] at inRange ⊢
    obtain ⟨keeps, sounds⟩ := later fun m mem => inRange m (List.mem_append_right _ mem)
    rw [startAll_cons]
    refine ⟨fun sounding => keeps ?_, fun mem struck => ?_⟩
    · obtain ⟨q, -, -, strikes⟩ | ⟨q, -, moved, raises⟩ | ⟨-, -, same⟩ := startCoupling_pool r x s
      · rw [strikes]
        exact strike_keeps_sounding q sounding
      · rw [raises]
        exact raiseDemand_keeps_sounding
          (inRange q (List.mem_append_left _ (by rw [moved]; exact List.mem_singleton_self q))) small sounding
      · exact sounding.of_pool same
    · obtain here | after := List.mem_append.1 mem
      · obtain ⟨q, hit, -, strikes⟩ | ⟨q, spared, -⟩ | ⟨spared, -⟩ := startCoupling_pool r x s
        · rw [hit] at here
          obtain rfl := List.mem_singleton.1 here
          exact keeps (by rw [strikes]; exact strike_sounds struck)
        · rw [spared] at here
          exact absurd here (by simp)
        · rw [spared] at here
          exact absurd here (by simp)
      · exact sounds after struck

/-- R67: amid demands that move, the strikes of the couplings that start after others have ended. -/
theorem couplings_strikesAmid (r : Nat) (ended started : List (Nat × Nat)) (s : State) :
    StrikesAmid (started.filterMap (s.coupledAt .struck)) ((ended ++ started).filterMap (s.coupledAt .reiterate)) s
      (startAll r started (endAll r ended s)) := by
  have touched := Touches.endAll r ended s
  have coupled := coupledAt_of_touches touched
  have rankOf := rankOf_of_touches touched
  have rank := rank_of_touches touched
  have both : (ended ++ started).filterMap (s.coupledAt .reiterate) =
      ended.filterMap (s.coupledAt .reiterate) ++ started.filterMap (s.coupledAt .reiterate) := List.filterMap_append
  rw [both]
  refine ⟨fun _ inRange p mem struck => ?_, fun bounded inRange p mem unmoved unserved free k ranked struck => ?_,
    fun bounded q apart free => ?_⟩
  · have isStruck : (endAll r ended s).isStruck p = s.isStruck p := by simp only [State.isStruck, rankOf, rank]
    have sounds := startAll_sounds (p := p) r started (endAll r ended s) (inRange p (List.mem_append_left _ mem))
    rw [coupled, coupled, isStruck] at sounds
    obtain ⟨-, hit⟩ := sounds fun m moved =>
      inRange m (List.mem_append_right _ (List.mem_append_right _ moved))
    exact hit mem struck
  · have passed := endAll_passesBy r ended s bounded (fun m moved => unmoved m (List.mem_append_left _ moved)) free
    have alone := startAll_strikes_alone (q := p) (k := k) r started (endAll r ended s) (inRange p mem)
    rw [coupled, coupled, rankOf, rank] at alone
    rw [alone inRange (fun m moved => unmoved m (List.mem_append_right _ moved)) (passed.unserved unserved) ranked struck,
      passed.timer, if_pos mem]
  · have passed := endAll_passesBy r ended s bounded (fun m moved =>
      apart m (List.mem_append_right _ (List.mem_append_left _ moved))) free
    have spared := startAll_apart (q := q) r started (endAll r ended s)
    rw [coupled, coupled] at spared
    rw [spared (fun m moved => apart m (List.mem_append_right _ (List.mem_append_right _ moved)))
      (fun p mem => apart p (List.mem_append_left _ mem)), passed.timer]

/-! ### With no REITERATE coupling -/

theorem endAll_pool (r : Nat) (xs : List (Nat × Nat)) (s : State) (none : xs.filterMap (s.coupledAt .reiterate) = []) :
    (endAll r xs s).pool = s.pool := by
  induction xs generalizing s with
  | nil => rfl
  | cons x rest ih =>
    rw [filterMap_cons_toList, List.append_eq_nil_iff] at none
    obtain ⟨here, later⟩ := none
    rw [endAll_cons, ih _ (by rw [coupledAt_of_touches (Touches.endCoupling r x.1 x.2 s)]; exact later)]
    obtain ⟨p, moved, -⟩ | ⟨-, same⟩ := endCoupling_pool r x s
    · rw [moved] at here
      exact absurd here (by simp)
    · exact same

/-- A strike reads the pool and the ranks alone. -/
theorem strike_pool_congr {s t : State} (p : Point) (pool : t.pool = s.pool) (rankOf : ∀ q, t.rankOf q = s.rankOf q)
    (rank : ∀ r, t.rank r = s.rank r) : (strike p t).pool = (strike p s).pool := by
  have served := servedBy_of_generators (congrArg Pool.generators pool)
  have timer : t.strikeTimer p = s.strikeTimer p := by unfold State.strikeTimer; rw [pool]
  unfold strike
  simp only [rankOf, rank, served, timer]
  cases s.rankOf p with
  | none => exact pool
  | some r =>
    dsimp only
    split
    · split
      · exact pool
      · unfold State.setStrikeTimer State.setPool
        rw [pool]
    · exact pool

theorem startAll_pool (r : Nat) (xs : List (Nat × Nat)) (s u : State) (none : xs.filterMap (u.coupledAt .reiterate) = [])
    (pool : s.pool = u.pool) (rankOf : ∀ q, s.rankOf q = u.rankOf q) (rank : ∀ r, s.rank r = u.rank r)
    (coupled : ∀ kind, s.coupledAt kind = u.coupledAt kind) :
    (startAll r xs s).pool = (forEach (xs.filterMap (u.coupledAt .struck)) strike u).pool := by
  induction xs generalizing s u with
  | nil => exact pool
  | cons x rest ih =>
    rw [filterMap_cons_toList, List.append_eq_nil_iff] at none
    obtain ⟨here, later⟩ := none
    have touched := Touches.startCoupling r x.1 x.2 s
    rw [startAll_cons, filterMap_cons_toList, forEach_append]
    obtain ⟨p, hit, -, strikes⟩ | ⟨p, -, moved, -⟩ | ⟨spared, -, same⟩ := startCoupling_pool r x s
    · rw [coupled] at hit
      have touched' := Touches.strike p u
      have first : forEach (u.coupledAt .struck x).toList strike u = strike p u := by rw [hit]; rfl
      have again := coupledAt_of_touches touched'
      rw [first, ih (startCoupling r x.1 x.2 s) (strike p u) (by rw [again]; exact later)
        (by rw [strikes]; exact strike_pool_congr p pool rankOf rank)
        (fun q => by rw [rankOf_of_touches touched, rankOf_of_touches touched', rankOf])
        (fun k => by rw [rank_of_touches touched, rank_of_touches touched', rank])
        (fun kind => by rw [coupledAt_of_touches touched, again, coupled]), again]
    · rw [coupled] at moved
      rw [moved] at here
      exact absurd here (by simp)
    · rw [coupled] at spared
      have first : forEach (u.coupledAt .struck x).toList strike u = u := by rw [spared]; rfl
      rw [first]
      exact ih _ u later (same.trans pool) (fun q => (rankOf_of_touches touched q).trans (rankOf q))
        (fun k => (rank_of_touches touched k).trans (rank k))
        (fun kind => (coupledAt_of_touches touched kind).trans (coupled kind))

/-- R67: with no REITERATE coupling among them, the couplings that start strike their points and nothing else. -/
theorem couplings_strikesTaken (r : Nat) (ended started : List (Nat × Nat)) (s : State)
    (none : (ended ++ started).filterMap (s.coupledAt .reiterate) = []) :
    StrikesTaken (started.filterMap (s.coupledAt .struck)) s (startAll r started (endAll r ended s)) := by
  rw [List.filterMap_append, List.append_eq_nil_iff] at none
  obtain ⟨lowered, raised⟩ := none
  have touched := Touches.endAll r ended s
  have pool := startAll_pool r started (endAll r ended s) s raised (endAll_pool r ended s lowered)
    (rankOf_of_touches touched) (rank_of_touches touched) (coupledAt_of_touches touched)
  exact (strikeAll_taken _ s).congr rfl pool (fun _ => rfl) fun _ => rfl

end Sys2Proof.Machine
end

section
/-! PROOF. A run of key transitions by the relay mode (R44, R56): the SCAN of a key row (R6 to R8), and a written key count
(R3, R4). -/

namespace Sys2Proof.Machine

/-! ### Runs of transitions -/

theorem forEach_still {α : Type} {f : α → State → State} {s : State} {l : List α} (still : ∀ x ∈ l, f x s = s) :
    forEach l f s = s := by
  induction l with
  | nil => rfl
  | cons a rest ih =>
    rw [forEach_cons, still a List.mem_cons_self, ih fun x mem => still x (List.mem_cons_of_mem _ mem)]

/-- R44, R56: the RELEASEs of a list of keys, then the PRESSes of another. -/
def keysRun (r : Nat) (released pressed : List Nat) (s : State) : State :=
  forEach (pressed.map (fun k => (k, true))) (handOn .key r)
    (forEach (released.map (fun k => (k, false))) (handOn .key r) s)

theorem handRun_keys (r : Nat) (old new : Image) (s : State) : handRun .key r (runOf old new) s =
    keysRun r (positions (old &&& ~~~new)) (positions (new &&& ~~~old)) s := forEach_append _ _ _ s

theorem keysRun_touches (r : Nat) (released pressed : List Nat) (s : State) :
    Touches couplingParts s (keysRun r released pressed s) :=
  (Touches.keyRun r (released.map (fun k => (k, false))) s).trans (Touches.keyRun r (pressed.map (fun k => (k, true))) _)

theorem keysRun_still {r : Nat} {s : State} (still : ∀ k press, keyTransition r k press s = s) (released pressed : List Nat) :
    keysRun r released pressed s = s := by
  have none : ∀ (ks : List Nat) (press : Bool), forEach (ks.map (fun k => (k, press))) (handOn .key r) s = s :=
    fun ks press => forEach_still fun x _ => still x.1 x.2
  rw [keysRun, none, none]

theorem keysRun_playing {r : Nat} {s : State} (play : s.mode = .play) (released pressed : List Nat) :
    keysRun r released pressed s =
      startAll r (couplings pressed (s.active r)) (endAll r (couplings released (s.active r)) s) := by
  have touched := Touches.endAll r (couplings released (s.active r)) s
  have active := active_of_touches touched (by decide) r
  have ended := keyRun_play released false play (r := r)
  have started := keyRun_play pressed true ((touched.mode (by decide)).trans play) (r := r)
  rw [active] at started
  rw [keysRun, ended]
  exact started

theorem endAll_removes (r : Nat) (xs : List (Nat × Nat)) (s : State) : ∃ ps, Removed ps s (endAll r xs s) := by
  induction xs generalizing s with
  | nil => exact ⟨[], .still rfl rfl⟩
  | cons x rest ih =>
    obtain ⟨removed, -, -⟩ := endCoupling_ends r x.1 x.2 s
    obtain ⟨ps, later⟩ := ih (endCoupling r x.1 x.2 s)
    exact ⟨_, removed.trans later⟩

/-- R44: the couplings that a run of a key row ends and starts in PLAY. -/
theorem keysRun_couplings (r : Nat) {released pressed : List Nat} (once : released.Nodup) {s : State}
    (play : s.mode = .play) : CouplingsTaken r released pressed s (keysRun r released pressed s) := by
  have touched := keysRun_touches r released pressed s
  rw [keysRun_playing play] at touched ⊢
  have ended := Touches.endAll r (couplings released (s.active r)) s
  have coupled := coupledAt_of_touches ended
  have removed (listed : (s.active r).Nodup) := endAll_removed r _ (couplings_nodup once listed) s
  have added := startAll_added r (couplings pressed (s.active r)) (endAll r (couplings released (s.active r)) s)
  have lowered := endAll_demands r (couplings released (s.active r)) s
  have raised := startAll_demands r (couplings pressed (s.active r)) (endAll r (couplings released (s.active r)) s)
  have amid := couplings_strikesAmid r (couplings released (s.active r)) (couplings pressed (s.active r)) s
  have alone := couplings_strikesTaken r (couplings released (s.active r)) (couplings pressed (s.active r)) s
  rw [coupled] at added raised
  have all : couplings (released ++ pressed) (s.active r) =
      couplings released (s.active r) ++ couplings pressed (s.active r) := List.flatMap_append
  constructor
  case claims =>
    intro listed q
    rw [coupled_eq, endedClaims_eq]
    exact (removed listed).counts_added added q
  case demands =>
    intro q
    rw [coupled_eq, coupled_eq, raised q, lowered q]
  case strikes =>
    intro none
    rw [coupled_eq]
    refine alone (List.filterMap_eq_nil_iff.2 fun x mem => if_neg (none x.2 ?_))
    obtain inEnded | inStarted := List.mem_append.1 mem
    · exact (mem_couplings.1 inEnded).2
    · exact (mem_couplings.1 inStarted).2
  case amid =>
    rw [coupled_eq, coupled_eq, all]
    exact amid
  case falls =>
    intro listed
    rw [endedClaims_eq]
    exact (removed listed).falls_added added
  case rises =>
    rw [coupled_eq]
    obtain ⟨ps, some⟩ := endAll_removes r (couplings released (s.active r)) s
    exact some.rises_added added (rankOf_of_touches ended) (rank_of_touches ended)
  case pizz =>
    intro plain
    rw [startAll_pizz, endAll_pizz]
    · refine (filter_none fun e mem => List.any_eq_false.2 fun x inList named => ?_).symm
      rw [Bool.and_eq_true] at named
      obtain ⟨named, -⟩ := named
      obtain ⟨-, entry⟩ := plain x.2 (mem_couplings.1 inList).2
      exact List.find?_eq_none.1 (entry x.1) e mem named
    · intro x inList
      rw [stops_of_touches ended]
      exact (plain x.2 (mem_couplings.1 inList).2).1
  case holds => exact touched.holds (by decide)
  case engine => exact engine_of_touches touched (by decide)
  case router => exact router_of_touches touched (by decide) (by decide)
  case sequencer => exact sequencer_of_touches touched (by decide)
  case tremulants => exact touched.tremDemand (by decide)

/-- R56: in TUNE the transitions of the selected row are those of its tuning couplings. -/
theorem keysRun_tuning {r : Nat} {s : State} (tune : s.mode = .tune) {sel : TuningSelection}
    (selected : s.engine.tuning = some sel) (own : sel.row = r) (released pressed : List Nat) :
    keysRun r released pressed s = forEach pressed (startTuning sel) (forEach released (endTuning sel) s) := by
  have each : ∀ (ks : List Nat) (press : Bool) (t : State), t.mode = .tune → t.engine.tuning = some sel →
      forEach (ks.map (fun k => (k, press))) (handOn .key r) t =
        forEach ks (if press then startTuning sel else endTuning sel) t := by
    intro ks press
    induction ks with
    | nil => exact fun _ _ _ => rfl
    | cons k rest ih =>
      intro t inTune chosen
      have one : handOn .key r (k, press) t = (if press then startTuning sel else endTuning sel) k t := by
        simp only [handOn, keyTransition, inTune, chosen, own, if_true]
        cases press <;> rfl
      have touched := Touches.keyTransition r k press t
      have touched : Touches couplingParts t (handOn .key r (k, press) t) := touched
      have engine := engine_of_touches touched (by decide)
      rw [List.map_cons, forEach_cons, ih _ ((touched.mode (by decide)).trans inTune) (by rw [engine]; exact chosen),
        one, forEach_cons]
  have touched := Touches.keyRun r (released.map (fun k => (k, false))) s
  have engine := engine_of_touches touched (by decide)
  have ended := each released false s tune selected
  have started := each pressed true (forEach (released.map (fun k => (k, false))) (handOn .key r) s)
    ((touched.mode (by decide)).trans tune) ((congrArg Engine.tuning engine).trans selected)
  rw [keysRun, started, ended]
  rfl

theorem keysRun_tuned {r : Nat} {s : State} (tune : s.mode = .tune) {sel : TuningSelection}
    (selected : s.engine.tuning = some sel) (own : sel.row = r) (released pressed : List Nat) :
    TuningTaken sel released pressed s (keysRun r released pressed s) := by
  rw [keysRun_tuning tune selected own]
  refine ⟨fun pipe => ?_, fun struck => ?_, fun none => ?_⟩
  · have ended := Touches.forEach (fun p t => Touches.removeClaim p t) (released.filterMap (s.target sel.mapping)) s
    have rank := rank_of_touches ended sel.rank
    have pipe' : ((forEach (released.filterMap (s.target sel.mapping)) removeClaim s).rank sel.rank).kind = .pipe := by
      rw [rank]
      exact pipe
    rw [endTunings_pipe sel released pipe, startTunings_pipe sel pressed pipe', targets_of_touches ended]
    have started := Touches.forEach (fun p t => Touches.addClaim p t) (pressed.filterMap (s.target sel.mapping))
      (forEach (released.filterMap (s.target sel.mapping)) removeClaim s)
    refine ⟨?_, fun q => by rw [addAll_moves, removeAll_moves]⟩
    exact (pool_of_touches started (by decide) (by decide) (by decide) (by decide) (by decide)).trans
      (pool_of_touches ended (by decide) (by decide) (by decide) (by decide) (by decide))
  · rw [endTunings_other sel released (by rw [struck]; decide), startTunings_struck sel pressed struck]
    have touched := Touches.forEach (fun p t => Touches.strike p t) (pressed.filterMap (s.target sel.mapping)) s
    exact ⟨strikeAll_taken _ s, claims_of_touches touched (by decide) (by decide) (by decide)⟩
  · rw [endTunings_other sel released (by rw [none]; decide), startTunings_none sel pressed none]
    exact .refl s

/-- R44, R56: a run of a key row, by the relay mode. -/
theorem keysRun_taken (r : Nat) {released pressed : List Nat} (once : released.Nodup) (s : State) :
    KeyRunTaken r released pressed s (keysRun r released pressed s) where
  config config := by
    rw [keysRun_still fun k press => by simp only [keyTransition, config]]
    exact .refl s
  play play := keysRun_couplings r once play
  tune tune _ selected own := keysRun_tuned tune selected own released pressed
  apart tune apart := by
    rw [keysRun_still fun k press => ?_]
    · exact .refl s
    · simp only [keyTransition, tune]
      cases selected : s.engine.tuning with
      | none => rfl
      | some sel => exact if_neg (apart sel selected)

/-! ### What a frame sent down and reports leave of a run -/

theorem ReportsOnly.setExt {s t : State} (reports : ReportsOnly s t) (e : Ext) : ReportsOnly (s.setExt e) (t.setExt e) where
  pending := reports.pending
  ext := rfl
  scan := reports.scan
  engine := reports.engine
  claims := reports.claims
  pool := reports.pool
  router := reports.router
  sequencer := reports.sequencer
  expression := reports.expression
  chambers := reports.chambers
  port := reports.port
  status := reports.status
  flags := reports.flags
  outgoing := reports.outgoing

section Passing

variable {u v t : State} {e : Ext} (reports : ReportsOnly (v.setExt e) t)

include reports

theorem unguarded_of_reports {p : Point} (free : v.Unguarded p) : t.Unguarded p := by
  obtain ⟨guard, timer, entry⟩ := free
  exact ⟨(guarded_of_reports reports _ _).trans guard, (onTimer_of_reports reports _ _).trans timer,
    by rw [ciphers_of_reports reports]; exact entry⟩

theorem FallsClear.passing {ps : List Point} (falls : FallsClear ps u v) : FallsClear ps (u.setExt e) t :=
  fun inRange p small claimed free =>
    unguarded_of_reports reports (falls inRange p small claimed ((claimCount_of_reports reports p).symm.trans free))

theorem RisesTimed.passing {ps : List Point} (rises : RisesTimed ps u v) : RisesTimed ps (u.setExt e) t :=
  fun inRange p small free claimed => by
    have mode : t.mode = (v.setExt e).mode := mode_of_reports reports
    have same : (v.setExt e).mode = v.mode := rfl
    have timer : (t.chamber p.chamber).onTimer p.point = (v.chamber p.chamber).onTimer p.point :=
      onTimer_of_reports reports _ _
    rw [mode, same, timer]
    exact rises inRange p small free (lt_of_lt_of_eq claimed (claimCount_of_reports reports p))

theorem StrikesTaken.passing {ps : List Point} (taken : StrikesTaken ps u v) : StrikesTaken ps (u.setExt e) t :=
  taken.congr rfl reports.pool (fun _ => rfl) fun _ => rfl

theorem StrikesAmid.passing {ps moved : List Point} (amid : StrikesAmid ps moved u v) :
    StrikesAmid ps moved (u.setExt e) t := by
  have pool : t.pool = v.pool := reports.pool
  have served := servedBy_of_generators (congrArg Pool.generators pool)
  have timer : ∀ p, t.strikeTimer p = v.strikeTimer p := fun p => by unfold State.strikeTimer; rw [pool]
  have waits : ∀ p, t.isWaiting p = v.isWaiting p := fun p => by unfold State.isWaiting; rw [pool]
  have bounded (b : ListsBounded (u.setExt e)) : ListsBounded u := ⟨b.pizz, b.holds, b.players, b.ciphers, b.waiting⟩
  refine ⟨fun b inRange p mem struck => ?_, fun b inRange p mem apart free free' k ranked struck => ?_,
    fun b q apart free => ?_⟩
  · rw [served, timer, waits]
    exact amid.sounds (bounded b) inRange p mem struck
  · rw [timer]
    exact amid.apart (bounded b) inRange p mem apart free free' k ranked struck
  · rw [timer]
    exact amid.others (bounded b) q apart free

theorem CouplingsTaken.passing {r : Nat} {released pressed : List Nat} (taken : CouplingsTaken r released pressed u v) :
    CouplingsTaken r released pressed (u.setExt e) t where
  claims listed q := (claimCount_of_reports reports q).trans (taken.claims listed q)
  demands q := (demandOf_of_reports reports q).trans (taken.demands q)
  strikes none := (taken.strikes none).passing reports
  amid := taken.amid.passing reports
  falls listed := (taken.falls listed).passing reports
  rises := taken.rises.passing reports
  pizz plain := (congrArg ClaimStore.pizz reports.claims).trans (taken.pizz plain)
  holds := (congrArg ClaimStore.holds reports.claims).trans taken.holds
  engine := reports.engine.trans taken.engine
  router := reports.router.trans taken.router
  sequencer := reports.sequencer.trans taken.sequencer
  tremulants := (congrArg Pool.tremDemand reports.pool).trans taken.tremulants

theorem TuningTaken.passing {sel : TuningSelection} {released pressed : List Nat}
    (taken : TuningTaken sel released pressed u v) : TuningTaken sel released pressed (u.setExt e) t where
  pipe kind := by
    obtain ⟨pool, counts⟩ := taken.pipe kind
    exact ⟨reports.pool.trans pool, fun q => (claimCount_of_reports reports q).trans (counts q)⟩
  struck kind := by
    obtain ⟨strikes, claims⟩ := taken.struck kind
    exact ⟨strikes.passing reports, reports.claims.trans claims⟩
  none kind := ((taken.none kind).setExt e).trans reports

theorem KeyRunTaken.passing {r : Nat} {released pressed : List Nat} (taken : KeyRunTaken r released pressed u v) :
    KeyRunTaken r released pressed (u.setExt e) t where
  config config := ((taken.config config).setExt e).trans reports
  play play := (taken.play play).passing reports
  tune tune sel selected own := (taken.tune tune sel selected own).passing reports
  apart tune apart := ((taken.apart tune apart).setExt e).trans reports

end Passing

/-! ### The confirm filter (R6, R7) -/

/-- R7: the row after a frame of a row with a lockout. -/
theorem accepted_locking (confirm : Nat) (row : Row) (raw : Image) :
    accepted confirm (considered { row with lockout := row.lockout &&& raw } (raw &&& ~~~(row.lockout &&& raw))) =
      filteredRow true confirm row raw := by
  simp only [filteredRow, if_true]
  generalize raw &&& ~~~(row.lockout &&& raw) = eff
  unfold considered
  by_cases same : eff = row.held
  · simp only [same, if_true, accepted]
  · rw [if_neg same, if_neg same]
    dsimp only
    split
    · simp only [accepted]
      split <;> simp_all
    · simp only [accepted]

theorem drainReleases_still {s : State} (unasked : s.scan.releaseDue = false) : drainReleases s = s := by
  have once : releaseOnce s = s := if_neg (by rw [unasked]; exact Bool.false_ne_true)
  rw [drainReleases, once, once]

/-! ### A SCAN of a key row -/

/-- R6, R7: the key row after a frame. -/
def State.keyRowAfter (s : State) (r : Nat) (image : Image) : Row :=
  filteredRow true (s.keySetting r).confirm (s.row .key r) (image &&& below (s.keySetting r).keyCount)

/-- R6 to R8: a frame of a key row is the filter and a run. -/
theorem takeRow_key (r : Nat) (image : Image) (s : State) : takeRow .key r image s =
    keysRun r (positions ((s.row .key r).held &&& ~~~(s.keyRowAfter r image).held))
      (positions ((s.keyRowAfter r image).held &&& ~~~(s.row .key r).held)) (s.setRow .key r (s.keyRowAfter r image)) := by
  rw [← handRun_keys, State.keyRowAfter, ← accepted_locking]
  rfl

/-- R8, R12: in a relay from which no general release is asked the frame is its run. -/
theorem takeScan_key {r : Nat} (inTable : r < 9) (image : Image) {s : State} (unasked : s.scan.releaseDue = false) :
    takeScan 0 r image s = takeRow .key r image s := by
  have released : (takeRow .key r image s).scan.releaseDue = false := by
    rw [takeRow_key]
    have asked := (keysRun_touches r (positions ((s.row .key r).held &&& ~~~(s.keyRowAfter r image).held))
      (positions ((s.keyRowAfter r image).held &&& ~~~(s.row .key r).held))
      (s.setRow .key r (s.keyRowAfter r image))).asked (by decide)
    exact asked.trans unasked
  have taken : takeScan 0 r image s = drainReleases (takeRow .key r image s) := if_pos inTable
  rw [taken, drainReleases_still released]

/-- Settles O24: the filter writes the row, the run is taken by the relay mode, and the frame is forwarded. -/
theorem scanFiltersKeyRow : Obligations.ScanFiltersKeyRow := by
  intro s r image up inTable unasked
  have passed : forwardFrame (.scan 0#8 r image) (takeScan (0#8 : Byte).toNat r.toNat image (renewLink s)) =
      (takeScan (0#8 : Byte).toNat r.toNat image (renewLink s)).passing
        (frameBytes 0x01#8 (0#8 :: r :: imageBytes 8 image.toNat)) := forwardFrame_eq rfl _
  have ran := (exec_scan 0#8 r image s).trans (goodFrame_up up _)
  have taken : takeScan (0#8 : Byte).toNat r.toNat image (renewLink s) = takeRow .key r.toNat image (renewLink s) :=
    takeScan_key inTable image unasked
  rw [passed, taken, takeRow_key] at ran
  have after : (renewLink s).keyRowAfter r.toNat image = s.keyRowAfter r.toNat image := rfl
  have before : (renewLink s).row .key r.toNat = s.row .key r.toNat := rfl
  rw [after, before] at ran
  have run := keysRun_taken r.toNat (released := positions ((s.row .key r.toNat).held &&& ~~~(s.keyRowAfter r.toNat image).held))
    (pressed := positions ((s.keyRowAfter r.toNat image).held &&& ~~~(s.row .key r.toNat).held)) (positions_nodup _)
    ((renewLink s).setRow .key r.toNat (s.keyRowAfter r.toNat image))
  have touched := keysRun_touches r.toNat (positions ((s.row .key r.toNat).held &&& ~~~(s.keyRowAfter r.toNat image).held))
    (positions ((s.keyRowAfter r.toNat image).held &&& ~~~(s.row .key r.toNat).held))
    ((renewLink s).setRow .key r.toNat (s.keyRowAfter r.toNat image))
  generalize keysRun r.toNat _ _ ((renewLink s).setRow .key r.toNat (s.keyRowAfter r.toNat image)) = v at ran run touched
  have quiet := conclude_quietly s (v.passing (frameBytes 0x01#8 (0#8 :: r :: imageBytes 8 image.toNat)))
  generalize conclude s (v.passing (frameBytes 0x01#8 (0#8 :: r :: imageBytes 8 image.toNat))) = t at ran quiet
  obtain ⟨reports, requests⟩ := quiet
  have scan := scan_of_touches touched (by decide) (by decide) (by decide) (by decide)
  have rows : ∀ kind q, t.row kind q = ((renewLink s).setRow .key r.toNat (s.keyRowAfter r.toNat image)).row kind q :=
    fun kind q => (row_of_reports reports kind q).trans (touched.rows kind (by cases kind <;> decide) q)
  have row : t.row .key r.toNat = s.keyRowAfter r.toNat image :=
    (rows .key r.toNat).trans ((row_setRow .key .key r.toNat r.toNat _ _).trans (if_pos ⟨rfl, rfl⟩))
  have ext : v.ext = s.ext := touched.ext
  have ext' : t.ext = { s.ext with sentDown := if s.ext.up then
      s.ext.sentDown ++ [frameBytes 0x01#8 (0#8 :: r :: imageBytes 8 image.toNat)] else s.ext.sentDown } := by
    rw [← ext]
    exact reports.ext
  have port : t.port.timer = v.port.timer ∧ t.port.badRun = v.port.badRun := by rw [reports.port]; exact ⟨rfl, rfl⟩
  have port' : v.port.timer = some 60 ∧ v.port.badRun = 0 ∧ v.port.requests = s.port.requests := by
    rw [touched.port]
    exact ⟨rfl, rfl, rfl⟩
  obtain ⟨timer, bad⟩ := port
  obtain ⟨timer', bad', requests'⟩ := port'
  have engine := engine_of_touches touched (by decide)
  have router := router_of_touches touched (by decide) (by decide)
  have sequencer := sequencer_of_touches touched (by decide)
  have settings : v.scan.keySettings = s.scan.keySettings := by rw [scan]; rfl
  refine ⟨t, ran, row, fun kind q apart => ?_, (congrArg ScanUnit.keySettings reports.scan).trans settings,
    reports.engine.trans engine, (congrArg ClaimStore.holds reports.claims).trans (touched.holds (by decide)),
    reports.router.trans router, reports.sequencer.trans sequencer, reports.expression.trans touched.expression,
    (mode_of_reports reports).trans (touched.mode (by decide)), timer.trans timer', bad.trans bad',
    requests.trans requests', ext', ?_⟩
  · exact (rows kind q).trans ((row_setRow .key kind r.toNat q _ _).trans (if_neg apart))
  · rw [row, ext', ← ext]
    exact run.passing reports

/-! ### A written key count -/

theorem mask_of_kept (held b : Image) : held &&& ~~~(held &&& b) = held &&& ~~~b := by
  ext i inRange
  simp only [BitVec.getElem_and, BitVec.getElem_not]
  cases held[i] <;> rfl

theorem kept_adds_none (held b : Image) : (held &&& b) &&& ~~~held = 0 := by
  ext i inRange
  simp only [BitVec.getElem_and, BitVec.getElem_not]
  cases held[i] <;> cases b[i] <;> simp

theorem positions_zero : positions 0 = [] := by
  refine List.eq_nil_iff_forall_not_mem.2 fun p mem => ?_
  obtain ⟨-, set⟩ := mem_positions.1 mem
  simp at set

theorem writeKeySetting_same {n : Nat} {x : KeySetting} {s : State} (same : x.keyCount = (s.keySetting n).keyCount) :
    writeKeySetting n x s = s.setKeySetting n x := if_pos same

/-- R4: a changed key count trims the row and releases what is held above it. -/
theorem writeKeySetting_other {n : Nat} {x : KeySetting} {s : State} (other : x.keyCount ≠ (s.keySetting n).keyCount) :
    writeKeySetting n x s = keysRun n (positions ((s.row .key n).held &&& ~~~below x.keyCount)) []
      ((s.setKeySetting n x).setRow .key n ((s.row .key n).trimmed x.keyCount)) := by
  have run := handRun_keys n (s.row .key n).held ((s.row .key n).held &&& below x.keyCount)
    ((s.setKeySetting n x).setRow .key n ((s.row .key n).trimmed x.keyCount))
  rw [mask_of_kept, kept_adds_none, positions_zero] at run
  exact (if_neg other).trans run

theorem keySetting_setKeySetting (n q : Nat) (x : KeySetting) (s : State) :
    (s.setKeySetting n x).keySetting q = if q = n then x else s.keySetting q := Table.get_put _ _ _ _ _

section WriteScan

variable {s : State} {hi lo b : Byte} {bytes : Bytes}

theorem writeScan_keyRow_bad {n : Nat} (keyRow : wordOf hi lo ≤ 8) (bad : readKeySetting bytes = .error n) :
    writeScan (b :: hi :: lo :: bytes) s = (s, .badRecord n) := by
  refine (withIndex_inRange (Nat.le_trans keyRow (by decide)) _ s).trans (withFields_error ?_ _ s)
  rw [readScanRecord, if_pos keyRow, bad]
  rfl

theorem writeScan_keyRow {x : KeySetting} (keyRow : wordOf hi lo ≤ 8) (ok : readKeySetting bytes = .ok x) :
    writeScan (b :: hi :: lo :: bytes) s = (writeKeySetting (wordOf hi lo) x s, .done []) := by
  refine (withIndex_inRange (Nat.le_trans keyRow (by decide)) _ s).trans (withFields_ok (v := ScanRecord.keyRow x) ?_ _ s)
  rw [readScanRecord, if_pos keyRow, ok]
  rfl

theorem writeScan_confirm_bad {n : Nat} (confirm : wordOf hi lo = 9 ∨ wordOf hi lo = 10)
    (bad : readConfirm bytes = .error n) : writeScan (b :: hi :: lo :: bytes) s = (s, .badRecord n) := by
  refine (withIndex_inRange (by omega) _ s).trans (withFields_error ?_ _ s)
  rw [readScanRecord, if_neg (by omega), bad]
  rfl

theorem writeScan_confirm {n : Nat} (confirm : wordOf hi lo = 9 ∨ wordOf hi lo = 10) (ok : readConfirm bytes = .ok n) :
    writeScan (b :: hi :: lo :: bytes) s = (takeScanRecord (wordOf hi lo) (.confirm n) s, .done []) := by
  refine (withIndex_inRange (by omega) _ s).trans (withFields_ok (v := ScanRecord.confirm n) ?_ _ s)
  rw [readScanRecord, if_neg (by omega), ok]
  rfl

end WriteScan

/-- What a written key row record leaves, after the run that it brings. -/
theorem keyRow_written {n : Nat} {x : KeySetting} {row : Row} {s w v t : State} (reports : ReportsOnly v t)
    (touched : Touches couplingParts w v) (settings : ∀ q, w.keySetting q = if q = n then x else s.keySetting q)
    (rows : ∀ kind q, w.row kind q = if kind = .key ∧ q = n then row else s.row kind q) :
    t.keySetting n = x ∧ (∀ q, q ≠ n → t.keySetting q = s.keySetting q) ∧ t.row .key n = row ∧
      (∀ kind q, ¬(kind = .key ∧ q = n) → t.row kind q = s.row kind q) ∧ t.engine = w.engine ∧ t.router = w.router ∧
      t.expression = w.expression := by
  have setting : ∀ q, t.keySetting q = w.keySetting q := fun q => by
    rw [← keySetting_of_touches touched q, State.keySetting, State.keySetting, reports.scan]
  have shows : ∀ kind q, t.row kind q = w.row kind q := fun kind q =>
    (row_of_reports reports kind q).trans (touched.rows kind (by cases kind <;> decide) q)
  have engine := engine_of_touches touched (by decide)
  have router := router_of_touches touched (by decide) (by decide)
  refine ⟨?_, fun q apart => ?_, ?_, fun kind q apart => ?_, reports.engine.trans engine, reports.router.trans router,
    reports.expression.trans touched.expression⟩
  · rw [setting, settings, if_pos rfl]
  · rw [setting, settings, if_neg apart]
  · rw [shows, rows, if_pos ⟨rfl, rfl⟩]
  · rw [shows, rows, if_neg apart]

/-- Settles O35, by the index and, for a key row, by whether its key count changes. -/
theorem scanWriteSetsCounts : Obligations.ScanWriteSetsCounts := by
  intro s r hi lo bytes head
  have served := exec_tableWriteScan s
  have own : writes .scan r = true := head.names
  refine ⟨fun keyRow n bad => ?_, fun confirm n bad => ?_, fun keyRow x ok => ?_, fun stops n ok => ?_,
    fun inputs n ok => ?_⟩
  · exact answeredUnchanged served head.first own (by rw [head.fields]; exact writeScan_keyRow_bad keyRow bad)
  · exact answeredUnchanged served head.first own (by rw [head.fields]; exact writeScan_confirm_bad confirm bad)
  · have acts : writeScan r.fields s = (writeKeySetting (wordOf hi lo) x s, .done []) := by
      rw [head.fields]
      exact writeScan_keyRow keyRow ok
    have busy : s.port.requests ≠ [] := fun empty => by
      have first := head.first
      rw [empty] at first
      exact absurd first (by simp)
    generalize wordOf hi lo = n at acts
    by_cases same : x.keyCount = (s.keySetting n).keyCount
    · rw [writeKeySetting_same same] at acts
      obtain ⟨ran, answered, reports⟩ := answers served head.first own acts rfl rfl
      obtain ⟨own, others, -, rows, engine, router, expression⟩ := keyRow_written (row := s.row .key n) reports
        (.refl _) (keySetting_setKeySetting n · x s) (fun kind q => by
          split
          case isTrue own => obtain ⟨rfl, rfl⟩ := own; rfl
          case isFalse => cases kind <;> rfl)
      refine ⟨_, ran, answered, own, others, ?_, rows, engine, router, expression,
        fun _ => ⟨reports.claims, reports.pool⟩, fun other => absurd same other⟩
      rw [if_pos same]
      exact row_of_reports reports .key n
    · rw [writeKeySetting_other same] at acts
      have touched := keysRun_touches n (positions ((s.row .key n).held &&& ~~~below x.keyCount)) []
        ((s.setKeySetting n x).setRow .key n ((s.row .key n).trimmed x.keyCount))
      have run := keysRun_taken n (released := positions ((s.row .key n).held &&& ~~~below x.keyCount)) (pressed := [])
        (positions_nodup _) ((s.setKeySetting n x).setRow .key n ((s.row .key n).trimmed x.keyCount))
      generalize keysRun n (positions ((s.row .key n).held &&& ~~~below x.keyCount)) []
        ((s.setKeySetting n x).setRow .key n ((s.row .key n).trimmed x.keyCount)) = v at acts touched run
      obtain ⟨port, -⟩ := touched.announces.serving busy
      obtain ⟨ran, answered, reports⟩ := answers served head.first own acts port touched.announces.strap
      obtain ⟨own, others, row, rows, engine, router, expression⟩ := keyRow_written reports touched
        (s := s) (keySetting_setKeySetting n · x s) (row_setRow .key · n · _ _)
      refine ⟨_, ran, answered, own, others, ?_, rows, engine, router, expression, fun equal => absurd equal same,
        fun _ => ?_⟩
      · rw [if_neg same]
        exact row
      · rw [row]
        have passed := run.passing (e := v.ext) (t := s.afterService r (v, .done [])) reports
        have still : ((s.setKeySetting n x).setRow .key n ((s.row .key n).trimmed x.keyCount)).setExt v.ext =
            (s.setKeySetting n x).setRow .key n ((s.row .key n).trimmed x.keyCount) := by
          rw [touched.ext]
          rfl
        rwa [still] at passed
  · refine answeredAs served head.first own ?_ rfl rfl
    rw [head.fields, writeScan_confirm (.inl stops) ok, takeScanRecord, if_pos stops]
  · refine answeredAs served head.first own ?_ rfl rfl
    rw [head.fields, writeScan_confirm (.inr inputs) ok, takeScanRecord, if_neg (by omega)]

end Sys2Proof.Machine
end

section
/-! PROOF. The console link DOWN (R14, R91), refuted: an input row has 64 positions in the model's image and 32 in the
relay, and nothing in the statement keeps a contact beyond the 96 inputs from being held. -/

namespace Sys2Proof.Machine

/-! ### A contact beyond the inputs -/

/-- A LEVEL entry that serves HOLD on the point of rank 0, note 0. -/
def holdingEntry : RouteEntry :=
  ⟨{ resetRouteFields with target := .hold, trigger := .level, masked := false }, .inService, true, none⟩

/-- A relay whose link timer runs out, with position 32 of input row 2 held: the contact of entry 96, beyond the 96 that
there are, which serves HOLD with the one claim on its point. -/
def strayContact : State :=
  (((State.reset.setPort { resetPort with link := .up, timer := some 1 }).setRow .input 2 ⟨0x100000000#64, none, 0, 0⟩).setRoute
    96 holdingEntry).setClaimCount (resetRank.pointOf 0) 1

/-- The model evaluated: the loss of the link ends the service of entry 96, with its claim. -/
theorem strayContact_loses_claim :
    (after (exec .linkTimerExpiry strayContact)).claimCount (resetRank.pointOf 0) = 0 := by decide +kernel

/-- None of the claims that the statement lists is on the point. -/
theorem strayContact_lists_nothing : strayContact.claimCount (resetRank.pointOf 0) = 1 ∧
    strayContact.keyClaims ++ strayContact.serviceNotes .hold (fun j => strayContact.serves j && strayContact.endsInactive j) =
      [] := by decide +kernel

/-- Refutes O23: in `strayContact`, a state that no run reaches, the link's loss removes a claim that no key and none of the
entries 0 to 95 accounts for. -/
theorem not_linkLossReleasesEverything : ¬Obligations.LinkLossReleasesEverything := by
  intro released
  obtain ⟨t, ran, -, -, -, -, -, -, -, -, -, -, -, -, -, -, -, -, -, claims, -⟩ :=
    released strayContact .linkTimerExpiry (.inl ⟨rfl, rfl⟩)
  have lists : ∀ r, (strayContact.active r).Nodup := fun r => List.nodup_nil
  have counts := claims lists (resetRank.pointOf 0)
  have result := strayContact_loses_claim
  obtain ⟨claimed, nothing⟩ := strayContact_lists_nothing
  rw [ran] at result
  rw [nothing, claimed] at counts
  exact absurd (result.symm.trans counts) (by decide)

end Sys2Proof.Machine
end

section
/-! PROOF. The cross-check (R164): each test of the model decides what the claim says of it, and the first failure is found
table by table. -/

namespace Sys2Proof.Machine

/-! ### First failures in a range -/

theorem find_range_none {p : Nat → Bool} {n : Nat} : (List.range n).find? p = none ↔ ∀ i, i < n → p i = false := by
  rw [List.find?_eq_none]
  simp only [List.mem_range, Bool.not_eq_true]

theorem find_range_some {p : Nat → Bool} {n i : Nat} :
    (List.range n).find? p = some i ↔ i < n ∧ p i = true ∧ ∀ j, j < i → p j = false := by
  rw [List.find?_range_eq_some]
  simp only [List.mem_range, Bool.not_eq_true']
  exact ⟨fun ⟨fails, inRange, before⟩ => ⟨inRange, fails, before⟩, fun ⟨inRange, fails, before⟩ => ⟨fails, inRange, before⟩⟩

theorem findSome_range_none {α : Type} {f : Nat → Option α} {n : Nat} :
    (List.range n).findSome? f = none ↔ ∀ i, i < n → f i = none := by
  rw [List.findSome?_eq_none_iff]
  simp only [List.mem_range]

theorem findSome_range_some {α : Type} {f : Nat → Option α} {n : Nat} {x : α} :
    (List.range n).findSome? f = some x ↔ ∃ i, i < n ∧ f i = some x ∧ ∀ j, j < i → f j = none := by
  induction n with
  | zero => simp
  | succ n ih =>
    rw [List.range_succ, List.findSome?_append, List.findSome?_singleton]
    cases earlier : (List.range n).findSome? f with
    | some y =>
      rw [earlier] at ih
      rw [Option.some_or, ih]
      constructor
      · exact fun ⟨i, inRange, found, before⟩ => ⟨i, Nat.lt_succ_of_lt inRange, found, before⟩
      · rintro ⟨i, inRange, found, before⟩
        obtain below | rfl := Nat.lt_succ_iff_lt_or_eq.1 inRange
        · exact ⟨i, below, found, before⟩
        · exact absurd (earlier.symm.trans (findSome_range_none.2 before)) (by simp)
    | none =>
      have none := findSome_range_none.1 earlier
      rw [Option.none_or]
      constructor
      · exact fun found => ⟨n, Nat.lt_succ_self n, found, none⟩
      · rintro ⟨i, inRange, found, -⟩
        obtain below | rfl := Nat.lt_succ_iff_lt_or_eq.1 inRange
        · exact absurd ((none i below).symm.trans found) (by simp)
        · exact found

/-! ### Stops (R30, R31) -/

/-- R31: how many stops with mapping, of the stops numbered below `n`, have a row. -/
def State.mappedBelow (s : State) (row n : Nat) : Nat :=
  ((List.range n).filter (fun m => (s.stop m).kind.hasMapping && decide ((s.stop m).row = row))).length

/-- R30, R31: the stop fails. -/
def State.stopFails (s : State) (n : Nat) : Bool :=
  (s.stop n).kind.hasMapping &&
    !(s.stopAgrees (s.stop n) && decide (s.mappedBelow (s.stop n).row (n + 1) ≤ Config.rowStopLimit))

theorem State.mappedBelow_succ (s : State) (row n : Nat) : s.mappedBelow row (n + 1) = s.mappedBelow row n +
    if (s.stop n).kind.hasMapping = true ∧ (s.stop n).row = row then 1 else 0 := by
  rw [State.mappedBelow, State.mappedBelow, List.range_succ, List.filter_append, List.length_append]
  congr 1
  by_cases mapped : (s.stop n).kind.hasMapping = true ∧ (s.stop n).row = row
  · rw [if_pos mapped]
    obtain ⟨maps, own⟩ := mapped
    simp [maps, own]
  · rw [if_neg mapped]
    rw [not_and] at mapped
    cases maps : (s.stop n).kind.hasMapping with
    | false => simp [maps]
    | true => simp [mapped maps]

/-- The model's walk over the stops finds the first that fails. -/
theorem failingStop_eq (s : State) (counts : Table Nat) (n len : Nat)
    (counted : ∀ row, counts.get 0 row = s.mappedBelow row n) :
    s.failingStop counts (List.range' n len) = (List.range' n len).find? s.stopFails := by
  induction len generalizing n counts with
  | zero => rfl
  | succ len ih =>
    rw [List.range'_succ, List.find?_cons]
    simp only [State.failingStop, counted]
    cases maps : (s.stop n).kind.hasMapping with
    | false =>
      have passes : s.stopFails n = false := by simp [State.stopFails, maps]
      rw [passes]
      simp only [Bool.false_eq_true, if_false]
      exact ih counts (n + 1) fun row => by
        rw [counted, s.mappedBelow_succ, maps, if_neg (by simp), Nat.add_zero]
    | true =>
      have count : s.mappedBelow (s.stop n).row (n + 1) = s.mappedBelow (s.stop n).row n + 1 := by
        rw [s.mappedBelow_succ, if_pos ⟨maps, rfl⟩]
      have fails : s.stopFails n = !(s.stopAgrees (s.stop n) &&
          decide (s.mappedBelow (s.stop n).row n + 1 ≤ Config.rowStopLimit)) := by
        rw [State.stopFails, maps, count, Bool.true_and]
      rw [fails]
      cases agrees : s.stopAgrees (s.stop n) && decide (s.mappedBelow (s.stop n).row n + 1 ≤ Config.rowStopLimit) with
      | false => rfl
      | true =>
        simp only [if_true, Bool.not_true]
        refine ih _ (n + 1) fun row => ?_
        rw [Table.get_put, s.mappedBelow_succ, maps]
        by_cases own : row = (s.stop n).row
        · subst own
          simp
        · rw [if_neg own, counted, if_neg fun both => own both.2.symm, Nat.add_zero]

theorem firstStop_eq (s : State) : s.failingStop .empty (List.range 320) = (List.range 320).find? s.stopFails := by
  rw [List.range_eq_range']
  exact failingStop_eq s .empty 0 320 fun _ => rfl

theorem stopFails_iff (s : State) (n : Nat) : s.stopFails n = false ↔ s.StopPasses n := by
  have limit : s.mappedBelow (s.stop n).row (n + 1) ≤ Config.rowStopLimit ↔
      ((List.range (n + 1)).filter (fun m =>
        (s.stop m).kind.hasMapping && decide ((s.stop m).row = (s.stop n).row))).length ≤ 64 := Iff.rfl
  rw [State.stopFails, State.StopPasses, ← limit, StopRecord.Maps, State.stopAgrees]
  cases kind : (s.stop n).kind with
  | silent | tremulant | routeMask => simp [StopKind.hasMapping]
  | tonal =>
    cases borrow : (s.stop n).borrow <;> simp [StopKind.hasMapping, and_assoc]
  | struck | reiterate => simp [StopKind.hasMapping]

/-! ### Ranks, tremulants and channels (R32, R75, R130) -/

theorem covers_iff (x : RankRecord) (p : Point) : x.covers p = true ↔ x.Holds p := by
  unfold RankRecord.covers RankRecord.Holds
  simp [and_assoc]

theorem rankOf_none_iff (s : State) (p : Point) : s.rankOf p = none ↔ ∀ r, r < 48 → ¬(s.rank r).Holds p := by
  rw [State.rankOf, find_range_none]
  simp only [← covers_iff, Bool.not_eq_true]

/-- R32: two ranks in range overlap when a point is in both. -/
theorem overlaps_iff {a b : RankRecord} (left : a.fits) (right : b.fits) :
    a.overlaps b = true ↔ ∃ p, a.Holds p ∧ b.Holds p := by
  obtain ⟨-, -, -, -, some, -⟩ := left
  obtain ⟨-, -, -, -, some', -⟩ := right
  simp only [RankRecord.overlaps, RankRecord.Holds, Bool.and_eq_true, decide_eq_true_eq]
  constructor
  · rintro ⟨⟨⟨⟨kind, kind'⟩, chamber⟩, before⟩, after⟩
    refine ⟨⟨a.chamber, max a.base b.base⟩, ⟨kind, rfl, ?_, ?_⟩, kind', chamber.symm, ?_, ?_⟩ <;> dsimp only <;> omega
  · rintro ⟨p, ⟨kind, chamber, from_, upTo⟩, kind', chamber', from', upTo'⟩
    exact ⟨⟨⟨⟨kind, kind'⟩, chamber.trans chamber'.symm⟩, by omega⟩, by omega⟩

theorem rankFails_iff {s : State} (sound : RecordsInRange s) (r : Nat) : s.rankFails r = false ↔ s.RankPasses r := by
  simp only [State.rankFails, List.any_eq_false, List.mem_range, overlaps_iff (sound.ranks r) (sound.ranks _),
    State.RankPasses, not_exists]

theorem namedTremulant_iff (s : State) (k : Nat) : s.namedTremulant k = true ↔ s.TremulantNamed k := by
  simp only [State.namedTremulant, List.any_eq_true, List.mem_range, Bool.and_eq_true, decide_eq_true_eq,
    State.TremulantNamed]

theorem output_eq_iff (x : TremulantRecord) (p : Point) : x.output = p ↔ x.chamber = p.chamber ∧ x.point = p.point := by
  obtain ⟨chamber, point⟩ := p
  rw [TremulantRecord.output, Point.mk.injEq]

theorem tremulantFails_iff (s : State) (k : Nat) : s.tremulantFails k = false ↔ s.TremulantPasses k := by
  have alone : ((List.range k).any fun u =>
      s.namedTremulant u && decide ((s.tremulant u).output = (s.tremulant k).output)) = false ↔
      ∀ j, j < k → s.TremulantNamed j →
        ¬((s.tremulant j).chamber = (s.tremulant k).chamber ∧ (s.tremulant j).point = (s.tremulant k).point) := by
    simp only [List.any_eq_false, List.mem_range, Bool.and_eq_true, decide_eq_true_eq, namedTremulant_iff, output_eq_iff,
      not_and]
    exact Iff.rfl
  rw [State.tremulantFails, Bool.and_eq_false_iff, Bool.or_eq_false_iff, alone, Option.isSome_eq_false_iff,
    Option.isNone_iff_eq_none, rankOf_none_iff, State.TremulantPasses, ← namedTremulant_iff]
  cases s.namedTremulant k <;> simp [TremulantRecord.output]

theorem channelFails_iff (s : State) (c : Nat) : s.channelFails c = false ↔ s.CurvePasses c := by
  simp only [State.channelFails, List.any_eq_false, List.mem_range, Bool.or_eq_true, not_or, Bool.not_eq_true,
    Option.isSome_eq_false_iff, Option.isNone_iff_eq_none, rankOf_none_iff, Bool.and_eq_true, decide_eq_true_eq,
    namedTremulant_iff, output_eq_iff, State.CurvePasses]
  refine forall_congr' fun i => imp_congr_right fun _ => and_congr_right fun _ => ?_
  refine forall_congr' fun k => imp_congr_right fun _ => ?_
  rw [not_and']

/-! ### Routes and sequences (R105, R110) -/

theorem noteFits_iff (s : State) (kind : RankKind) (rank : Nat) (note : Int) :
    s.noteFits kind rank note = true ↔ s.NotePasses kind rank note := by
  rw [State.noteFits, Bool.and_eq_true, decide_eq_true_eq, RankRecord.inCompass_iff, State.NotePasses]

theorem routeAgrees_iff (s : State) (i : Nat) : s.routeAgrees (s.route i).fields = true ↔ s.RoutePasses i := by
  rw [State.RoutePasses, State.routeAgrees]
  generalize (s.route i).fields = f
  obtain ⟨target, trigger, -, -, -, -, rank, note, sequences, tapRank, tapNote, holdKind, holdRank, holdNote, -⟩ := f
  cases trigger with
  | split => cases holdKind <;> simp [noteFits_iff]
  | edge | level => cases target <;> simp [noteFits_iff, Option.isSome_iff_ne_none]

theorem actionAgrees_iff (s : State) (a : Action) : s.actionAgrees a = true ↔
    (a.kind = .strike → s.NotePasses .struck a.rank a.note) ∧
      (a.kind = .holdOn ∨ a.kind = .holdOff → s.NotePasses .pipe a.rank a.note) := by
  unfold State.actionAgrees
  cases a.kind <;> simp [noteFits_iff]

theorem stepAgrees_iff (s : State) (i : Nat) :
    (s.stepRecord i).actions.all s.actionAgrees = true ↔ s.StepPasses i := by
  simp only [List.all_eq_true, actionAgrees_iff, State.StepPasses]

/-- The walk from a step reaches its step number `k` before the first END step. -/
def State.Reaches (s : State) (i k : Nat) : Prop := ∀ j, j ≤ k → (s.stepRecord ((i + j) % 1024)).kind = .timed

theorem reaches_succ {s : State} {i k : Nat} (inRange : i < 1024) :
    s.Reaches i (k + 1) ↔ (s.stepRecord i).kind = .timed ∧ s.Reaches ((i + 1) % 1024) k := by
  have place : ∀ j, ((i + 1) % 1024 + j) % 1024 = (i + (j + 1)) % 1024 := fun j => by omega
  have here : (i + 0) % 1024 = i := Nat.mod_eq_of_lt inRange
  constructor
  · intro timed
    have first := timed 0 (Nat.zero_le _)
    rw [here] at first
    exact ⟨first, fun j few => by rw [place]; exact timed (j + 1) (Nat.succ_le_succ few)⟩
  · rintro ⟨first, later⟩ j few
    cases j with
    | zero => rw [here]; exact first
    | succ j => rw [← place]; exact later j (Nat.le_of_succ_le_succ few)

/-- The model's walk over the steps finds the first that fails. -/
theorem failingStep_some {s : State} {fuel i x : Nat} (inRange : i < 1024) : s.failingStep fuel i = some x ↔
    ∃ k, k < fuel ∧ x = (i + k) % 1024 ∧ s.Reaches i k ∧ ¬s.StepPasses x ∧
      ∀ j, j < k → s.StepPasses ((i + j) % 1024) := by
  induction fuel generalizing i with
  | zero => simp [State.failingStep]
  | succ fuel ih =>
    have here : (i + 0) % 1024 = i := Nat.mod_eq_of_lt inRange
    have place : ∀ j, ((i + 1) % 1024 + j) % 1024 = (i + (j + 1)) % 1024 := fun j => by omega
    have later := ih (i := (i + 1) % 1024) (Nat.mod_lt _ (by decide))
    rw [State.failingStep]
    cases kind : (s.stepRecord i).kind with
    | final =>
      refine ⟨fun found => absurd found (by simp), ?_⟩
      rintro ⟨k, -, -, timed, -⟩
      have first := timed 0 (Nat.zero_le _)
      rw [here, kind] at first
      exact absurd first (by decide)
    | timed =>
      dsimp only
      by_cases agrees : (s.stepRecord i).actions.all s.actionAgrees = true
      · rw [if_pos agrees, later]
        have passes := (stepAgrees_iff s i).1 agrees
        constructor
        · rintro ⟨k, few, rfl, timed, fails, before⟩
          refine ⟨k + 1, Nat.succ_lt_succ few, place k, (reaches_succ inRange).2 ⟨kind, timed⟩, fails, fun j less => ?_⟩
          cases j with
          | zero => rw [here]; exact passes
          | succ j => rw [← place]; exact before j (Nat.lt_of_succ_lt_succ less)
        · rintro ⟨k, few, same, timed, fails, before⟩
          cases k with
          | zero =>
            rw [same, here] at fails
            exact absurd passes fails
          | succ k =>
            obtain ⟨-, timed'⟩ := (reaches_succ inRange).1 timed
            refine ⟨k, Nat.lt_of_succ_lt_succ few, same.trans (place k).symm, timed', fails, fun j less => ?_⟩
            rw [place]
            exact before (j + 1) (Nat.succ_lt_succ less)
      · rw [if_neg agrees]
        have fails : ¬s.StepPasses i := fun passes => agrees ((stepAgrees_iff s i).2 passes)
        constructor
        · rintro ⟨⟩
          refine ⟨0, Nat.succ_pos _, here.symm, fun j few => ?_, fails, fun j less => absurd less (Nat.not_lt_zero j)⟩
          rw [Nat.le_zero.1 few, here]
          exact kind
        · rintro ⟨k, -, same, -, -, before⟩
          cases k with
          | zero => rw [same, here]
          | succ k =>
            have passes := before 0 (Nat.succ_pos k)
            rw [here] at passes
            exact absurd passes fails

theorem failingStep_none {s : State} {fuel i : Nat} (inRange : i < 1024) : s.failingStep fuel i = none ↔
    ∀ k, k < fuel → s.Reaches i k → s.StepPasses ((i + k) % 1024) := by
  constructor
  · intro none k few timed
    by_contra fails
    have first : ∃ k, k < fuel ∧ s.Reaches i k ∧ ¬s.StepPasses ((i + k) % 1024) := ⟨k, few, timed, fails⟩
    classical
    obtain ⟨few', timed', fails'⟩ := Nat.find_spec first
    refine absurd (none.symm.trans ((failingStep_some inRange).2 ⟨Nat.find first, few', rfl, timed', fails',
      fun j less => ?_⟩)) (by simp)
    by_contra fails
    exact Nat.find_min first less ⟨Nat.lt_trans less few', fun m le => timed' m (Nat.le_trans le (Nat.le_of_lt less)), fails⟩
  · intro passes
    cases found : s.failingStep fuel i with
    | none => rfl
    | some x =>
      obtain ⟨k, few, rfl, timed, fails, -⟩ := (failingStep_some inRange).1 found
      exact absurd (passes k few timed) fails

theorem walks_iff {s : State} {q k i first : Nat} (starts : (s.seqEntry q).first = some first) :
    s.Walks q k i ↔ k < 1024 ∧ i = (first + k) % 1024 ∧ s.Reaches first k := by
  unfold State.Walks
  rw [starts]
  constructor
  · rintro ⟨x, ⟨⟩, walk⟩
    exact walk
  · exact fun walk => ⟨first, rfl, walk⟩

theorem walks_none {s : State} {q k i : Nat} (none : (s.seqEntry q).first = none) : ¬s.Walks q k i := by
  rintro ⟨x, starts, -⟩
  rw [none] at starts
  cases starts

section Sequence

variable {s : State} (sound : RecordsInRange s) (q : Nat)
include sound

theorem failingSequence_none : s.failingSequence q = none ↔ s.SequencePasses q := by
  unfold State.failingSequence State.SequencePasses
  cases starts : (s.seqEntry q).first with
  | none => exact ⟨fun _ k i walk => absurd walk (walks_none starts), fun _ => rfl⟩
  | some first =>
    have inRange : first < 1024 := Nat.lt_succ_of_le (sound.sequences q first starts)
    simp only [walks_iff starts]
    rw [failingStep_none inRange]
    constructor
    · rintro passes k i ⟨few, rfl, timed⟩
      exact passes k few timed
    · exact fun passes k few timed => passes k _ ⟨few, rfl, timed⟩

theorem failingSequence_some (i : Nat) : s.failingSequence q = some i ↔
    ∃ k, s.Walks q k i ∧ ¬s.StepPasses i ∧ ∀ j l, j < k → s.Walks q j l → s.StepPasses l := by
  unfold State.failingSequence
  cases starts : (s.seqEntry q).first with
  | none =>
    refine ⟨fun found => absurd found (by simp), ?_⟩
    rintro ⟨k, walk, -⟩
    exact absurd walk (walks_none starts)
  | some first =>
    have inRange : first < 1024 := Nat.lt_succ_of_le (sound.sequences q first starts)
    simp only [walks_iff starts]
    rw [failingStep_some inRange]
    constructor
    · rintro ⟨k, few, same, timed, fails, before⟩
      refine ⟨k, ⟨few, same, timed⟩, fails, ?_⟩
      rintro j l less ⟨-, rfl, -⟩
      exact before j less
    · rintro ⟨k, ⟨few, same, timed⟩, fails, before⟩
      refine ⟨k, few, same, timed, fails, fun j less => before j _ less ⟨Nat.lt_trans less few, rfl, fun m le => ?_⟩⟩
      exact timed m (Nat.le_trans le (Nat.le_of_lt less))

end Sequence

/-! ### Table by table -/

theorem failure_orElse_none (t : TableName) (o : Option Nat) (rest : Option (Nat × Nat)) :
    ((failure t o).orElse fun _ => rest) = none ↔ o = none ∧ rest = none := by
  cases o <;> simp [failure]

theorem failure_orElse_some (t : TableName) (o : Option Nat) (rest : Option (Nat × Nat)) (x : Nat × Nat) :
    ((failure t o).orElse fun _ => rest) = some x ↔ (x.1 = tableCode t ∧ o = some x.2) ∨ (o = none ∧ rest = some x) := by
  obtain ⟨code, index⟩ := x
  cases o <;> simp [failure, eq_comm]

theorem failure_none (t : TableName) (o : Option Nat) : failure t o = none ↔ o = none := by
  cases o <;> simp [failure]

theorem failure_some (t : TableName) (o : Option Nat) (x : Nat × Nat) :
    failure t o = some x ↔ x.1 = tableCode t ∧ o = some x.2 := by
  obtain ⟨code, index⟩ := x
  cases o <;> simp [failure, eq_comm]

/-- R164: the cross-check finds what the tests say, table by table. -/
theorem crossCheck_finds {s : State} (sound : RecordsInRange s) : CrossCheckFinds s := by
  have stops : (List.range 320).find? s.stopFails = none ↔ ∀ n, n < 320 → s.StopPasses n := by
    simp only [find_range_none, stopFails_iff]
  have ranks : (List.range 48).find? s.rankFails = none ↔ ∀ r, r < 48 → s.RankPasses r := by
    simp only [find_range_none, rankFails_iff sound]
  have tremulants : (List.range 8).find? s.tremulantFails = none ↔ ∀ k, k < 8 → s.TremulantPasses k := by
    simp only [find_range_none, tremulantFails_iff]
  have curves : (List.range 4).find? s.channelFails = none ↔ ∀ c, c < 4 → s.CurvePasses c := by
    simp only [find_range_none, channelFails_iff]
  have routes : inputs.find? (fun i => !s.routeAgrees (s.route i).fields) = none ↔ ∀ i, i < 96 → s.RoutePasses i := by
    simp only [inputs, find_range_none, Bool.not_eq_false', routeAgrees_iff]
  have sequences : (List.range 16).findSome? s.failingSequence = none ↔ ∀ q, q < 16 → s.SequencePasses q := by
    simp only [findSome_range_none, failingSequence_none sound]
  have fails {b : Bool} {p : Prop} (decides : b = false ↔ p) : b = true ↔ ¬p := by
    rw [← decides, Bool.not_eq_false]
  have stop : ∀ n, (List.range 320).find? s.stopFails = some n ↔
      n < 320 ∧ ¬s.StopPasses n ∧ ∀ m, m < n → s.StopPasses m := fun n => by
    simp only [find_range_some, stopFails_iff, fails (stopFails_iff s n)]
  have rank : ∀ r, (List.range 48).find? s.rankFails = some r ↔
      r < 48 ∧ ¬s.RankPasses r ∧ ∀ q, q < r → s.RankPasses q := fun r => by
    simp only [find_range_some, rankFails_iff sound, fails (rankFails_iff sound r)]
  have tremulant : ∀ k, (List.range 8).find? s.tremulantFails = some k ↔
      k < 8 ∧ ¬s.TremulantPasses k ∧ ∀ j, j < k → s.TremulantPasses j := fun k => by
    simp only [find_range_some, tremulantFails_iff, fails (tremulantFails_iff s k)]
  have curve : ∀ c, (List.range 4).find? s.channelFails = some c ↔
      c < 4 ∧ ¬s.CurvePasses c ∧ ∀ d, d < c → s.CurvePasses d := fun c => by
    simp only [find_range_some, channelFails_iff, fails (channelFails_iff s c)]
  have route : ∀ i, inputs.find? (fun i => !s.routeAgrees (s.route i).fields) = some i ↔
      i < 96 ∧ ¬s.RoutePasses i ∧ ∀ j, j < i → s.RoutePasses j := fun i => by
    simp only [inputs, find_range_some, Bool.not_eq_true', ← Bool.not_eq_true, routeAgrees_iff, not_not]
  have step : ∀ i, (List.range 16).findSome? s.failingSequence = some i ↔
      ∃ q k, q < 16 ∧ (∀ p, p < q → s.SequencePasses p) ∧ s.Walks q k i ∧ ¬s.StepPasses i ∧
        ∀ j l, j < k → s.Walks q j l → s.StepPasses l := fun i => by
    simp only [findSome_range_some, failingSequence_some sound, failingSequence_none sound]
    exact ⟨fun ⟨q, few, ⟨k, walk⟩, before⟩ => ⟨q, k, few, before, walk⟩,
      fun ⟨q, k, few, before, walk⟩ => ⟨q, few, ⟨k, walk⟩, before⟩⟩
  have chain : s.crossCheck =
      (failure .stop ((List.range 320).find? s.stopFails)).orElse fun _ =>
      (failure .rank ((List.range 48).find? s.rankFails)).orElse fun _ =>
      (failure .tremulant ((List.range 8).find? s.tremulantFails)).orElse fun _ =>
      (failure .curve ((List.range 4).find? s.channelFails)).orElse fun _ =>
      (failure .route (inputs.find? (fun i => !s.routeAgrees (s.route i).fields))).orElse fun _ =>
      failure .seqmem ((List.range 16).findSome? s.failingSequence) := by rw [State.crossCheck, firstStop_eq]
  generalize (List.range 320).find? s.stopFails = firstStop at chain stops stop
  generalize (List.range 48).find? s.rankFails = firstRank at chain ranks rank
  generalize (List.range 8).find? s.tremulantFails = firstTremulant at chain tremulants tremulant
  generalize (List.range 4).find? s.channelFails = firstCurve at chain curves curve
  generalize inputs.find? (fun i => !s.routeAgrees (s.route i).fields) = firstRoute at chain routes route
  generalize (List.range 16).findSome? s.failingSequence = firstStep at chain sequences step
  constructor
  case passes =>
    rw [chain]
    simp only [failure_orElse_none, failure_none, stops, ranks, tremulants, curves, routes, sequences]
  case stop =>
    intro n
    rw [chain, ← stop]
    simp [failure_some, tableCode]
  case rank =>
    intro r
    rw [chain, ← rank, ← stops]
    simp [failure_some, failure_none, tableCode]
  case tremulant =>
    intro k
    rw [chain, ← tremulant, ← ranks, ← stops]
    simp [failure_some, failure_none, tableCode]
  case curve =>
    intro c
    rw [chain, ← curve, ← tremulants, ← ranks, ← stops]
    simp [failure_some, failure_none, tableCode]
  case route =>
    intro i
    rw [chain, ← route, ← curves, ← tremulants, ← ranks, ← stops]
    simp [failure_some, failure_none, tableCode]
  case step =>
    intro i
    rw [chain, ← step, ← routes, ← curves, ← tremulants, ← ranks, ← stops]
    simp [failure_some, failure_none, tableCode]

end Sys2Proof.Machine
end

section
/-! PROOF. What leaving a mode takes away (R61, R63, R84, R104, R116): claims, with the guards and on-timers of the points they
leave, and demands. -/

namespace Sys2Proof.Machine

theorem Removed.after_still {ps : List Point} {s t u : State} (removed : Removed ps t u)
    (counts : t.claims.counts = s.claims.counts) (chambers : t.chambers = s.chambers) : Removed ps s u :=
  (Removed.still counts chambers).trans removed

/-! ### The key rows, row by row (R61) -/

/-- The couplings of the keys held on the rows of a list end. -/
def endRows (rows : List Nat) (s : State) : State := forEach rows (fun r u => forEach (u.heldKeys r) (endKey r) u) s

theorem Touches.endRows (rows : List Nat) (s : State) : Touches couplingParts s (endRows rows s) :=
  Touches.forEach (f := fun r u => Machine.forEach (u.heldKeys r) (Machine.endKey r) u)
    (fun r t => Touches.forEach (fun k u => Touches.endKey r k u) _ t) rows s

theorem heldKeys_of_touches {A : List Part} {s t : State} (touched : Touches A s t) (key : .row .key ∉ A) (r : Nat) :
    t.heldKeys r = s.heldKeys r := by
  rw [State.heldKeys, State.heldKeys, touched.rows .key key]

theorem drawn_of_touches {A : List Part} {s t : State} (touched : Touches A s t) (stop : .row .stop ∉ A) :
    t.drawn = s.drawn := funext (drawn_of_row (touched.rows .stop stop))

theorem heldKeys_nodup (s : State) (r : Nat) : (s.heldKeys r).Nodup := positions_nodup _

/-- R53: the ends of couplings of one row leave the entries of another. -/
theorem endedClaims_endAll {r r' : Nat} (apart : r' ≠ r) (xs : List (Nat × Nat)) (s : State) :
    (endAll r xs s).endedClaims r' = s.endedClaims r' := by
  induction xs generalizing s with
  | nil => rfl
  | cons x rest ih =>
    have touched := Touches.endCoupling r x.1 x.2 s
    have entry : ∀ k n, (endCoupling r x.1 x.2 s).pizzEntry r' k n = s.pizzEntry r' k n := fun k n =>
      pizzEntry_endCoupling (fun ⟨row, _⟩ => apart row) s
    rw [endAll_cons, ih]
    funext k
    simp only [State.endedClaims, active_of_touches touched (by decide), stops_of_touches touched]
    refine congrArg (fun f => List.filterMap f _) (funext fun n => ?_)
    simp only [State.endedClaim, stops_of_touches touched, targets_of_touches touched, entry]

theorem endRows_removed (rows : List Nat) (once : rows.Nodup) (s : State) (listed : ∀ r, (s.active r).Nodup) :
    Removed (rows.flatMap fun r => (s.heldKeys r).flatMap (s.endedClaims r)) s (endRows rows s) := by
  induction rows generalizing s with
  | nil => exact .still rfl rfl
  | cons r rest ih =>
    obtain ⟨apart, onceRest⟩ := List.nodup_cons.1 once
    have touched := Touches.endAll r (couplings (s.heldKeys r) (s.active r)) s
    have removed := endAll_removed r _ (couplings_nodup (heldKeys_nodup s r) (listed r)) s
    have later := ih onceRest (endAll r (couplings (s.heldKeys r) (s.active r)) s) fun q => by
      rw [active_of_touches touched (by decide)]
      exact listed q
    have same : (rest.flatMap fun q => ((endAll r (couplings (s.heldKeys r) (s.active r)) s).heldKeys q).flatMap
        ((endAll r (couplings (s.heldKeys r) (s.active r)) s).endedClaims q)) =
        rest.flatMap fun q => (s.heldKeys q).flatMap (s.endedClaims q) :=
      List.flatMap_congr fun q mem => by
        rw [heldKeys_of_touches touched (by decide), endedClaims_endAll fun same : q = r => apart (same ▸ mem)]
    have first : endRows (r :: rest) s = endRows rest (endAll r (couplings (s.heldKeys r) (s.active r)) s) :=
      congrArg (endRows rest) (endKeys_eq r (s.heldKeys r) s)
    rw [same] at later
    rw [List.flatMap_cons, endedClaims_eq, first]
    exact removed.trans later

theorem coupled_of_touches {A : List Part} {s t : State} (touched : Touches A s t) (active : .active ∉ A)
    (kind : StopKind) : t.coupled kind = s.coupled kind := by
  funext r k
  simp only [State.coupled, active_of_touches touched active, stops_of_touches touched, targets_of_touches touched]

theorem endRows_demands (rows : List Nat) (s : State) :
    DemandsFall (rows.flatMap fun r => (s.heldKeys r).flatMap (s.coupled .reiterate r)) s (endRows rows s) := by
  induction rows generalizing s with
  | nil => exact .still rfl
  | cons r rest ih =>
    have touched := Touches.endAll r (couplings (s.heldKeys r) (s.active r)) s
    have lowered := endAll_demands r (couplings (s.heldKeys r) (s.active r)) s
    have later := ih (endAll r (couplings (s.heldKeys r) (s.active r)) s)
    have first : endRows (r :: rest) s = endRows rest (endAll r (couplings (s.heldKeys r) (s.active r)) s) :=
      congrArg (endRows rest) (endKeys_eq r (s.heldKeys r) s)
    simp only [heldKeys_of_touches touched (by decide), coupled_of_touches touched (by decide)] at later
    rw [List.flatMap_cons, coupled_eq, first]
    exact lowered.trans later

/-! ### The drawn TREMULANT stops (R61, R84) -/

theorem tremulantDemand_lowerTremulant (k j : Nat) (s : State) :
    (lowerTremulant k s).tremulantDemand j = if j = k then s.tremulantDemand j - 1 else s.tremulantDemand j := by
  have written : (s.setTremulantDemand k (s.tremulantDemand k - 1)).tremulantDemand j =
      if j = k then s.tremulantDemand j - 1 else s.tremulantDemand j := by
    rw [tremulantDemand_setTremulantDemand]
    by_cases same : j = k
    · rw [if_pos same, if_pos same, same]
    · rw [if_neg same, if_neg same]
  unfold lowerTremulant
  dsimp only
  split
  · exact (tremulantDemand_of_tremDemand ((Touches.tremulantFall k _).tremDemand (by decide)) j).trans written
  · exact written

theorem Touches.cancelAtLeaving (n : Nat) (s : State) : Touches (.tremDemand :: poolParts) s (cancelAtLeaving n s) := by
  unfold Machine.cancelAtLeaving
  split
  · exact Touches.lowerTremulant _ s
  · exact .refl s

/-- R25: the stop is a TREMULANT stop of tremulant `k`. -/
def State.shakes (s : State) (k n : Nat) : Bool := decide ((s.stop n).kind = .tremulant) && decide ((s.stop n).tremulant = k)

theorem cancelAtLeaving_demand (k n : Nat) (s : State) :
    (cancelAtLeaving n s).tremulantDemand k = s.tremulantDemand k - if s.shakes k n then 1 else 0 := by
  unfold cancelAtLeaving State.shakes
  by_cases kind : (s.stop n).kind = .tremulant
  · rw [if_pos kind, tremulantDemand_lowerTremulant]
    by_cases own : (s.stop n).tremulant = k
    · simp [kind, own]
    · simp [kind, own, Ne.symm own]
  · simp [kind]

theorem cancelStops_demand (k : Nat) (ns : List Nat) (s : State) :
    (forEach ns cancelAtLeaving s).tremulantDemand k = s.tremulantDemand k - ns.countP (s.shakes k) := by
  induction ns generalizing s with
  | nil => rfl
  | cons n rest ih =>
    have same : (cancelAtLeaving n s).shakes k = s.shakes k := by
      funext m
      rw [State.shakes, State.shakes, stops_of_touches (Touches.cancelAtLeaving n s)]
    rw [forEach_cons, ih, same, cancelAtLeaving_demand, List.countP_cons, Nat.sub_sub, Nat.add_comm]

/-! ### The route entries (R94, R104) -/

/-- R94: the point of the hold note of an entry, if its service is a hold or roll of that kind. -/
def State.noteOf (s : State) (kind : HoldKind) (i : Nat) : Option Point :=
  (s.route i).fields.heldNote.bind fun x => if x.1 = kind then some (s.notePoint x.2.1 x.2.2) else none

/-- R94: the point that the service of an entry holds, while it is IN-SERVICE. -/
def State.servedNote (s : State) (kind : HoldKind) (i : Nat) : Option Point := if s.serves i then s.noteOf kind i else none

theorem serviceNotes_eq (s : State) (kind : HoldKind) :
    s.serviceNotes kind s.serves = (List.range 96).filterMap (s.servedNote kind) := by
  rw [State.serviceNotes, List.filterMap_filter]
  refine congrArg (fun f => List.filterMap f _) (funext fun i => ?_)
  unfold State.servedNote State.noteOf
  congr 1
  cases (s.route i).fields.heldNote <;> rfl

theorem endHold_ends (kind : HoldKind) (p : Point) (s : State) :
    Removed (if kind = .hold then [p] else []) s (endHold kind p s) ∧
      DemandsFall (if kind = .roll then [p] else []) s (endHold kind p s) := by
  cases kind with
  | hold => exact ⟨.one p s, .still ((Touches.removeClaim p s).demand (by decide))⟩
  | roll => exact ⟨.untouched (Touches.lowerDemand p s) (by decide) (by decide), .one p s⟩

/-- R94, R104: what the end of a service at a leaving is: the end of its hold or roll, if it has one. -/
theorem endService_leaving (i : Nat) (s : State) : endService .leaving i s =
    (((s.route i).fields.heldNote.map fun x => endHold x.1 (s.notePoint x.2.1 x.2.2) s).getD s) := by
  unfold endService RouteFields.heldNote
  dsimp only
  generalize (s.route i).fields = f
  cases f.trigger <;> cases f.target <;> rfl

theorem noteOf_of_touches {A : List Part} {s t : State} (touched : Touches A s t) : t.noteOf = s.noteOf := by
  funext kind i
  simp only [State.noteOf, touched.fields, notePoint_of_touches touched]

theorem servedNote_of_touches {A : List Part} {s t : State} (touched : Touches A s t) (route : .route ∉ A) :
    t.servedNote = s.servedNote := by
  funext kind i
  rw [State.servedNote, State.servedNote, State.serves, State.serves, route_of_touches touched route,
    noteOf_of_touches touched]

theorem endService_players (i : Nat) (s : State) : (endService .leaving i s).sequencer.players = s.sequencer.players := by
  rw [endService_leaving]
  cases (s.route i).fields.heldNote with
  | none => rfl
  | some x =>
    obtain ⟨kind, rank, note⟩ := x
    cases kind with
    | hold => exact (Touches.removeClaim (s.notePoint rank note) s).players (by decide)
    | roll => exact (Touches.lowerDemand (s.notePoint rank note) s).players (by decide)

theorem noteOf_none {s : State} {i : Nat} (silent : (s.route i).fields.heldNote = none) (kind : HoldKind) :
    s.noteOf kind i = none := by
  rw [State.noteOf, silent]
  rfl

theorem noteOf_some {s : State} {i rank : Nat} {own : HoldKind} {note : Int}
    (held : (s.route i).fields.heldNote = some (own, rank, note)) (kind : HoldKind) :
    s.noteOf kind i = if own = kind then some (s.notePoint rank note) else none := by
  rw [State.noteOf, held]
  rfl

theorem endService_ends (i : Nat) (s : State) : Removed (s.noteOf .hold i).toList s (endService .leaving i s) ∧
    DemandsFall (s.noteOf .roll i).toList s (endService .leaving i s) := by
  rw [endService_leaving]
  cases held : (s.route i).fields.heldNote with
  | none =>
    rw [noteOf_none held, noteOf_none held]
    exact ⟨.still rfl rfl, .still rfl⟩
  | some x =>
    obtain ⟨kind, rank, note⟩ := x
    have ends := endHold_ends kind (s.notePoint rank note) s
    rw [noteOf_some held, noteOf_some held]
    cases kind <;> exact ends

/-- R104: one entry left. -/
theorem routeLeavePlay_ends (i : Nat) (s : State) : Removed (s.servedNote .hold i).toList s (routeLeavePlay i s) ∧
    DemandsFall (s.servedNote .roll i).toList s (routeLeavePlay i s) := by
  have none : (s.route i).state ≠ .inService → ∀ kind, s.servedNote kind i = none := fun other kind =>
    if_neg (by rw [State.serves, decide_eq_true_iff]; exact other)
  cases state : (s.route i).state with
  | inService =>
    have note : ∀ kind, s.servedNote kind i = (setRouteState i .idle Option.none s).noteOf kind i := fun kind => by
      have fields : ((setRouteState i .idle Option.none s).route i).fields = (s.route i).fields := by
        rw [setRouteState, route_setRoute, if_pos rfl]
      have serves : s.serves i = true := decide_eq_true state
      rw [State.servedNote, if_pos serves, State.noteOf, State.noteOf, fields]
      rfl
    obtain ⟨removed, lowered⟩ := endService_ends i (setRouteState i .idle Option.none s)
    have removed := removed.after_still (s := s) rfl rfl
    have lowered := (DemandsFall.still (s := s) (t := setRouteState i .idle Option.none s) rfl).trans lowered
    rw [note, note]
    simp only [routeLeavePlay, state]
    exact ⟨removed, lowered⟩
  | measuring | pending | idle =>
    rw [none (by rw [state]; decide), none (by rw [state]; decide)]
    simp only [routeLeavePlay, state]
    exact ⟨.still rfl rfl, .still rfl⟩

theorem servedNote_routeLeavePlay {i j : Nat} (apart : j ≠ i) (kind : HoldKind) (s : State) :
    (routeLeavePlay i s).servedNote kind j = s.servedNote kind j := by
  have touched := Touches.routeLeavePlay i s
  have state : ((routeLeavePlay i s).route j).state = (s.route j).state := by rw [routeLeavePlay_state, if_neg apart]
  have serves : (routeLeavePlay i s).serves j = s.serves j := congrArg (fun x => decide (x = RouteState.inService)) state
  rw [State.servedNote, State.servedNote, serves, noteOf_of_touches touched]

theorem routesLeft_ends (l : List Nat) (once : l.Nodup) (s : State) :
    Removed (l.filterMap (s.servedNote .hold)) s (forEach l routeLeavePlay s) ∧
      DemandsFall (l.filterMap (s.servedNote .roll)) s (forEach l routeLeavePlay s) := by
  induction l generalizing s with
  | nil => exact ⟨.still rfl rfl, .still rfl⟩
  | cons i rest ih =>
    obtain ⟨apart, onceRest⟩ := List.nodup_cons.1 once
    obtain ⟨removed, lowered⟩ := routeLeavePlay_ends i s
    have later := ih onceRest (routeLeavePlay i s)
    have same : ∀ kind, rest.filterMap ((routeLeavePlay i s).servedNote kind) = rest.filterMap (s.servedNote kind) :=
      fun kind => List.filterMap_congr fun j mem =>
        servedNote_routeLeavePlay (fun same : j = i => apart (same ▸ mem)) kind s
    rw [same, same] at later
    obtain ⟨removed', lowered'⟩ := later
    rw [filterMap_cons_toList, filterMap_cons_toList, forEach_cons]
    exact ⟨removed.trans removed', lowered.trans lowered'⟩

theorem routerLeavePlay_ends (s : State) : Removed (s.serviceNotes .hold s.serves) s (routerLeavePlay s) ∧
    DemandsFall (s.serviceNotes .roll s.serves) s (routerLeavePlay s) := by
  obtain ⟨removed, lowered⟩ := routesLeft_ends inputs List.nodup_range s
  rw [serviceNotes_eq, serviceNotes_eq]
  unfold routerLeavePlay
  generalize forEach inputs routeLeavePlay s = t at removed lowered
  exact ⟨removed.then_still rfl rfl, lowered⟩

/-! ### The players (R116) -/

theorem routerLeavePlay_players (s : State) : (routerLeavePlay s).sequencer.players = s.sequencer.players := by
  have each : ∀ i t, (routeLeavePlay i t).sequencer.players = t.sequencer.players := by
    intro i t
    cases state : (t.route i).state with
    | inService =>
      simp only [routeLeavePlay, state]
      exact endService_players i _
    | measuring | pending =>
      simp only [routeLeavePlay, state]
      rfl
    | idle => simp only [routeLeavePlay, state]
  have all : ∀ l t, (forEach l routeLeavePlay t).sequencer.players = t.sequencer.players := by
    intro l
    induction l with
    | nil => exact fun _ => rfl
    | cons i rest ih =>
      intro t
      rw [forEach_cons, ih, each]
  have routes := all inputs s
  unfold routerLeavePlay
  generalize forEach inputs routeLeavePlay s = t at routes
  exact routes

/-- R111: the holds of a player, none while it is IDLE. -/
def State.holdsOf (s : State) (n : Nat) : List Point := ((s.player n).map (·.holds)).getD []

theorem stopPlayer_removed (n : Nat) (s : State) : Removed (s.holdsOf n) s (stopPlayer n s) := by
  unfold stopPlayer State.holdsOf
  cases playing : s.player n with
  | none => exact .still rfl rfl
  | some run => exact (Removed.all run.holds (s.setPlayer n none)).after_still rfl rfl

theorem stopPlayers_removed (ns : List Nat) (once : ns.Nodup) (s : State) :
    Removed (ns.flatMap s.holdsOf) s (forEach ns stopPlayer s) := by
  induction ns generalizing s with
  | nil => exact .still rfl rfl
  | cons n rest ih =>
    obtain ⟨apart, onceRest⟩ := List.nodup_cons.1 once
    have later := ih onceRest (stopPlayer n s)
    have same : rest.flatMap (stopPlayer n s).holdsOf = rest.flatMap s.holdsOf := List.flatMap_congr fun m mem => by
      rw [State.holdsOf, State.holdsOf, stopPlayer_player, if_neg fun same : m = n => apart (same ▸ mem)]
    rw [same] at later
    rw [List.flatMap_cons, forEach_cons]
    exact (stopPlayer_removed n s).trans later

theorem stopAllPlayers_removed (s : State) : Removed s.playerHolds s (stopAllPlayers s) :=
  stopPlayers_removed players List.nodup_range s

/-! ### Leaving PLAY -/

/-- R61: the active lists and the pizzicato list emptied. -/
def listsEmptied (s : State) : State :=
  (s.setEngine { s.engine with active := .empty }).setClaims { s.claims with pizz := [] }

theorem listsEmptied_claims (s : State) : Removed [] s (listsEmptied s) := .still rfl rfl

theorem listsEmptied_demands (s : State) : DemandsFall [] s (listsEmptied s) := .still rfl

theorem tremulantDemand_listsEmptied (s : State) (k : Nat) :
    (listsEmptied s).tremulantDemand k = s.tremulantDemand k := rfl

theorem shakes_listsEmptied (s : State) (k : Nat) : (listsEmptied s).shakes k = s.shakes k := rfl

theorem drawnStops_listsEmptied (s : State) : (listsEmptied s).drawnStops = s.drawnStops := rfl

theorem servedNote_listsEmptied (s : State) : (listsEmptied s).servedNote = s.servedNote := rfl

theorem players_listsEmptied (s : State) : (listsEmptied s).sequencer.players = s.sequencer.players := rfl

theorem engineLeavePlay_eq (s : State) :
    engineLeavePlay s = forEach s.drawnStops cancelAtLeaving (listsEmptied (endRows keyRows s)) := by
  have drawn : (listsEmptied (endRows keyRows s)).drawnStops = s.drawnStops :=
    (drawnStops_listsEmptied _).trans
      (congrArg (fun f => List.filter f (List.range 320)) (drawn_of_touches (Touches.endRows keyRows s) (by decide)))
  rw [← drawn]
  rfl

theorem strikeTimer_cancelStrikes (s : State) (p : Point) : (cancelStrikes s).strikeTimer p = none := rfl

/-- R61, R104, R116: what leaving PLAY takes away. -/
structure PlayLeft (s t : State) : Prop where
  claims : (∀ r, (s.active r).Nodup) → Removed
    (((List.range 9).flatMap fun r => (s.heldKeys r).flatMap (s.endedClaims r)) ++ s.serviceNotes .hold s.serves ++
      s.playerHolds) s t
  demands : DemandsFall
    (((List.range 9).flatMap fun r => (s.heldKeys r).flatMap (s.coupled .reiterate r)) ++ s.serviceNotes .roll s.serves)
    s t
  tremulants : ∀ k, t.tremulantDemand k = s.tremulantDemand k - s.drawnStops.countP (s.shakes k)
  strikes : ∀ p, t.strikeTimer p = none
  rest : AtRest t

/-- R61: what the couplings, the lists and the drawn TREMULANT stops give up. -/
theorem engineLeavePlay_ends (s : State) :
    ((∀ r, (s.active r).Nodup) →
      Removed ((List.range 9).flatMap fun r => (s.heldKeys r).flatMap (s.endedClaims r)) s (engineLeavePlay s)) ∧
    DemandsFall ((List.range 9).flatMap fun r => (s.heldKeys r).flatMap (s.coupled .reiterate r)) s (engineLeavePlay s) ∧
    (∀ k, (engineLeavePlay s).tremulantDemand k = s.tremulantDemand k - s.drawnStops.countP (s.shakes k)) ∧
    (engineLeavePlay s).servedNote = s.servedNote ∧
    (engineLeavePlay s).sequencer.players = s.sequencer.players := by
  have ended := Touches.endRows keyRows s
  have removed := endRows_removed keyRows List.nodup_range s
  have lowered := endRows_demands keyRows s
  rw [engineLeavePlay_eq]
  generalize endRows keyRows s = w at ended removed lowered
  have cancelled : Touches (.tremDemand :: poolParts) (listsEmptied w)
      (forEach s.drawnStops cancelAtLeaving (listsEmptied w)) :=
    Touches.forEach (fun n t => Touches.cancelAtLeaving n t) _ _
  refine ⟨fun listed => ?_, fun q => ?_, fun k => ?_, ?_, ?_⟩
  · exact ((removed listed).then_still rfl rfl).then_still (cancelled.counts (by decide)) (cancelled.chambers (by decide))
  · exact (demandOf_of_demand (cancelled.demand (by decide)) q).trans (lowered q)
  · have shakes : w.shakes k = s.shakes k := by
      funext n
      rw [State.shakes, State.shakes, stops_of_touches ended]
    rw [cancelStops_demand, tremulantDemand_listsEmptied, shakes_listsEmptied, shakes,
      tremulantDemand_of_tremDemand (ended.tremDemand (by decide))]
  · rw [servedNote_of_touches cancelled (by decide), servedNote_listsEmptied, servedNote_of_touches ended (by decide)]
  · rw [cancelled.players (by decide), players_listsEmptied, ended.players (by decide)]

theorem playerHolds_of_players {s t : State} (same : t.sequencer.players = s.sequencer.players) :
    t.playerHolds = s.playerHolds := by
  unfold State.playerHolds State.player
  rw [same]

theorem leavePlay_left (s : State) : PlayLeft s (leavePlay s) := by
  have rest := leavePlay_rest s
  obtain ⟨claims, demands, tremulants, served, players⟩ := engineLeavePlay_ends s
  unfold leavePlay at rest ⊢
  generalize engineLeavePlay s = u at rest claims demands tremulants served players
  obtain ⟨services, rolls⟩ := routerLeavePlay_ends u
  have routed := Touches.routerLeavePlay u
  have holds := playerHolds_of_players ((routerLeavePlay_players u).trans players)
  rw [serviceNotes_eq, served, ← serviceNotes_eq] at services rolls
  generalize routerLeavePlay u = v at rest services rolls routed holds
  have stops := stopAllPlayers_removed v
  have stopped := Touches.stopAllPlayers v
  rw [holds] at stops
  generalize stopAllPlayers v = w at rest stops stopped
  have quiet := Touches.cancelStrikes w
  constructor
  case claims =>
    exact fun listed => (((claims listed).trans services).trans stops).then_still (quiet.counts (by decide))
      (quiet.chambers (by decide))
  case demands =>
    intro q
    rw [demandOf_of_demand (quiet.demand (by decide)), demandOf_of_demand (stopped.demand (by decide))]
    exact demands.trans rolls q
  case tremulants =>
    intro k
    rw [tremulantDemand_of_tremDemand (quiet.tremDemand (by decide)),
      tremulantDemand_of_tremDemand (stopped.tremDemand (by decide)),
      tremulantDemand_of_tremDemand (routed.tremDemand (by decide)), tremulants]
  case strikes => exact strikeTimer_cancelStrikes w
  case rest => exact rest

/-! ### Leaving TUNE (R63) -/

/-- R56: the points of the tuning couplings of the selection, if there is one. -/
def State.selectedTargets (s : State) : List Point := (s.engine.tuning.map s.tuningTargets).getD []

theorem endTuningRow_removed (sel : TuningSelection) (s : State) :
    Removed (s.tuningTargets sel) s (endTuningRow sel s) := by
  unfold endTuningRow State.tuningTargets
  by_cases pipe : (s.rank sel.rank).kind = .pipe
  · rw [endTunings_pipe sel _ pipe, if_pos pipe]
    exact .all _ s
  · rw [endTunings_other sel _ pipe, if_neg pipe]
    exact .still rfl rfl

theorem emptyTuningHolds_removed (s : State) : Removed s.claims.holds s (emptyTuningHolds s) :=
  (Removed.all s.claims.holds (s.setClaims { s.claims with holds := [] })).after_still rfl rfl

theorem engineLeaveTune_removed (s : State) : Removed (s.selectedTargets ++ s.claims.holds) s (engineLeaveTune s) := by
  unfold engineLeaveTune State.selectedTargets
  cases s.engine.tuning with
  | none => exact emptyTuningHolds_removed s
  | some sel =>
    have holds := (Touches.endTuningRow sel s).holds (by decide)
    have emptied := emptyTuningHolds_removed (endTuningRow sel s)
    rw [holds] at emptied
    exact (endTuningRow_removed sel s).trans emptied

theorem leaveTune_removed (s : State) : Removed (s.selectedTargets ++ s.claims.holds) s (leaveTune s) :=
  (engineLeaveTune_removed s).then_still rfl rfl


/-! ### Leaving the mode in force (R163) -/

theorem leaveMode_config {s : State} (config : s.mode = .config) : leaveMode s = s := by
  have still : setMode .config s = s := if_pos config.symm
  simp only [leaveMode, config, still]

theorem leaveMode_play {s : State} (play : s.mode = .play) : leaveMode s = leavePlay (setMode .config s) := by
  simp only [leaveMode, play]

theorem leaveMode_tune {s : State} (tune : s.mode = .tune) : leaveMode s = leaveTune (setMode .config s) := by
  simp only [leaveMode, tune]

theorem leftClaims_config {s : State} (config : s.mode = .config) : s.leftClaims = [] := by
  simp only [State.leftClaims, config]

theorem leftClaims_play {s : State} (play : s.mode = .play) : s.leftClaims =
    ((List.range 9).flatMap fun r => (s.heldKeys r).flatMap (s.endedClaims r)) ++ s.serviceNotes .hold s.serves ++
      s.playerHolds := by
  have rows : s.rowClaims = fun r => (s.heldKeys r).flatMap (s.endedClaims r) := by
    funext r
    simp only [State.rowClaims, play]
  simp only [State.leftClaims, play, State.keyClaims, rows]

theorem leftClaims_tune {s : State} (tune : s.mode = .tune) : s.leftClaims = s.selectedTargets ++ s.claims.holds := by
  unfold State.selectedTargets
  cases selected : s.engine.tuning <;> simp [State.leftClaims, tune, selected]

theorem leftDemands_play {s : State} (play : s.mode = .play) : s.leftDemands =
    ((List.range 9).flatMap fun r => (s.heldKeys r).flatMap (s.coupled .reiterate r)) ++ s.serviceNotes .roll s.serves := by
  rw [State.leftDemands, State.keyDemands, if_pos play]

section Touched

variable {A : List Part} {s t : State} (touched : Touches A s t)

include touched

theorem endedClaims_of_touches (active : .active ∉ A) (pizz : .pizz ∉ A) : t.endedClaims = s.endedClaims := by
  funext r k
  simp only [State.endedClaims, active_of_touches touched active, stops_of_touches touched]
  refine congrArg (fun f => List.filterMap f _) (funext fun n => ?_)
  simp only [State.endedClaim, stops_of_touches touched, targets_of_touches touched, State.pizzEntry, touched.pizz pizz]

theorem tuningTargets_of_touches (key : .row .key ∉ A) : t.tuningTargets = s.tuningTargets := by
  funext sel
  rw [State.tuningTargets, State.tuningTargets, rank_of_touches touched, heldKeys_of_touches touched key,
    targets_of_touches touched]

theorem tuning_of_touches : t.engine.tuning = s.engine.tuning := by rw [touched.engine]

theorem selectedTargets_of_touches (key : .row .key ∉ A) : t.selectedTargets = s.selectedTargets := by
  rw [State.selectedTargets, State.selectedTargets, tuningTargets_of_touches touched key, tuning_of_touches touched]

end Touched

theorem setMode_claims (m : Mode) (s : State) : Removed [] s (setMode m s) :=
  .untouched (Touches.setMode m s) (by decide) (by decide)

/-- R61, R63, R104, R116: the claims that leaving a mode removes. -/
theorem leaveMode_removed (s : State) (listed : ∀ r, (s.active r).Nodup) : Removed s.leftClaims s (leaveMode s) := by
  have set := Touches.setMode .config s
  cases mode : s.mode with
  | config =>
    rw [leaveMode_config mode, leftClaims_config mode]
    exact .still rfl rfl
  | play =>
    have left := (leavePlay_left (setMode .config s)).claims fun r => by
      rw [active_of_touches set (by decide)]
      exact listed r
    rw [endedClaims_of_touches set (by decide) (by decide), serviceNotes_eq, servedNote_of_touches set (by decide),
      ← serviceNotes_eq, playerHolds_of_players (set.players (by decide))] at left
    simp only [heldKeys_of_touches set (by decide)] at left
    rw [leaveMode_play mode, leftClaims_play mode]
    exact (setMode_claims .config s).trans left
  | tune =>
    have left := leaveTune_removed (setMode .config s)
    rw [selectedTargets_of_touches set (by decide), set.holds (by decide)] at left
    rw [leaveMode_tune mode, leftClaims_tune mode]
    exact (setMode_claims .config s).trans left

/-- R84: the demands that leaving PLAY lowers, the struck points' and the tremulants'. -/
theorem leaveMode_lowered {s : State} (play : s.mode = .play) : DemandsFall s.leftDemands s (leaveMode s) ∧
    ∀ k, (leaveMode s).tremulantDemand k = s.tremulantDemand k - s.drawnStops.countP (s.shakes k) := by
  have set := Touches.setMode .config s
  obtain ⟨-, demands, tremulants, -, -⟩ := leavePlay_left (setMode .config s)
  have shakes : (setMode .config s).shakes = s.shakes := by
    funext k n
    rw [State.shakes, State.shakes, stops_of_touches set]
  have drawn : (setMode .config s).drawnStops = s.drawnStops :=
    congrArg (fun f => List.filter f (List.range 320)) (drawn_of_touches set (by decide))
  rw [coupled_of_touches set (by decide), serviceNotes_eq, servedNote_of_touches set (by decide),
    ← serviceNotes_eq] at demands
  simp only [heldKeys_of_touches set (by decide)] at demands
  rw [leaveMode_play play, leftDemands_play play]
  refine ⟨(DemandsFall.still (set.demand (by decide))).trans demands, fun k => ?_⟩
  rw [tremulants, drawn, shakes, tremulantDemand_of_tremDemand (set.tremDemand (by decide))]

end Sys2Proof.Machine
end

section
/-! PROOF. Entry to PLAY (R60, R93, R103): the drawn stops, the held keys and the route entries. -/

namespace Sys2Proof.Machine

/-! ### The drawn stops -/

/-- R25: the stop is a ROUTE-MASK stop of group `g`. -/
def State.masks (s : State) (g n : Nat) : Bool := decide ((s.stop n).kind = .routeMask) && decide ((s.stop n).group = g)

/-- R41: the stop has mapping and stands on row `r`. -/
def State.maps (s : State) (r n : Nat) : Bool := (s.stop n).kind.hasMapping && decide ((s.stop n).row = r)

/-- What taking up drawn stops raises. -/
structure StopsDrawn (ns : List Nat) (s t : State) : Prop where
  active : ∀ r, t.active r = s.active r ++ ns.filter (s.maps r)
  tremulants : ∀ k, t.tremulantDemand k = s.tremulantDemand k + ns.countP (s.shakes k)
  masks : ∀ g, t.maskDemand g = s.maskDemand g + ns.countP (s.masks g)

theorem tremulantDemand_raiseTremulant (k j : Nat) (s : State) :
    (raiseTremulant k s).tremulantDemand j = if j = k then s.tremulantDemand j + 1 else s.tremulantDemand j := by
  have written : (s.setTremulantDemand k (s.tremulantDemand k + 1)).tremulantDemand j =
      if j = k then s.tremulantDemand j + 1 else s.tremulantDemand j := by
    rw [tremulantDemand_setTremulantDemand]
    by_cases same : j = k
    · rw [if_pos same, if_pos same, same]
    · rw [if_neg same, if_neg same]
  unfold raiseTremulant
  dsimp only
  split
  · exact (tremulantDemand_of_tremDemand ((Touches.tremulantRise k _).tremDemand (by decide)) j).trans written
  · exact written

theorem maskDemand_setMaskDemand (s : State) (g h n : Nat) :
    (s.setMaskDemand g n).maskDemand h = if h = g then n else s.maskDemand h := Table.get_put _ _ _ _ _

theorem maskDemand_of_touches {A : List Part} {s t : State} (touched : Touches A s t) (mask : .maskDemand ∉ A) (g : Nat) :
    t.maskDemand g = s.maskDemand g := congrArg (fun x => Table.get x 0 g) (touched.maskDemand mask)

theorem joinList_drawn {s : State} {n : Nat} (mapped : (s.stop n).kind.hasMapping = true) :
    StopsDrawn [n] s (joinList n s) where
  active r := by
    rw [joinList, active_setActive, List.filter_singleton, State.maps, mapped]
    by_cases own : (s.stop n).row = r
    · simp [own]
    · simp [own, Ne.symm own]
  tremulants k := by
    have other : s.shakes k n = false := by
      rw [State.shakes]
      cases kind : (s.stop n).kind <;> simp_all [StopKind.hasMapping]
    simp only [List.countP_singleton, other]
    rfl
  masks g := by
    have other : s.masks g n = false := by
      rw [State.masks]
      cases kind : (s.stop n).kind <;> simp_all [StopKind.hasMapping]
    simp only [List.countP_singleton, other]
    rfl

theorem drawAtEntry_drawn (n : Nat) (s : State) : StopsDrawn [n] s (drawAtEntry n s) := by
  have unlisted : (s.stop n).kind.hasMapping = false → ∀ r, [n].filter (s.maps r) = [] := fun mapped r => by
    rw [List.filter_singleton, State.maps, mapped]
    rfl
  have calm : (s.stop n).kind ≠ .tremulant → ∀ k, [n].countP (s.shakes k) = 0 := fun other k => by
    simp [State.shakes, other]
  have bare : (s.stop n).kind ≠ .routeMask → ∀ g, [n].countP (s.masks g) = 0 := fun other g => by
    simp [State.masks, other]
  cases kind : (s.stop n).kind with
  | tonal | struck | reiterate =>
    simp only [drawAtEntry, kind]
    exact joinList_drawn (by rw [kind]; rfl)
  | silent =>
    simp only [drawAtEntry, kind]
    rw [kind] at unlisted calm bare
    exact ⟨fun r => by rw [unlisted rfl, List.append_nil], fun k => by rw [calm (by decide)]; rfl,
      fun g => by rw [bare (by decide)]; rfl⟩
  | tremulant =>
    simp only [drawAtEntry, kind]
    rw [kind] at unlisted bare
    have touched := Touches.raiseTremulant (s.stop n).tremulant s
    refine ⟨fun r => ?_, fun k => ?_, fun g => ?_⟩
    · rw [unlisted rfl, List.append_nil, active_of_touches touched (by decide)]
    · rw [tremulantDemand_raiseTremulant, List.countP_singleton, State.shakes, kind]
      by_cases own : (s.stop n).tremulant = k
      · simp [own]
      · simp [own, Ne.symm own]
    · rw [bare (by decide), maskDemand_of_touches touched (by decide)]
      rfl
  | routeMask =>
    simp only [drawAtEntry, kind]
    rw [kind] at unlisted calm
    refine ⟨fun r => ?_, fun k => ?_, fun g => ?_⟩
    · rw [unlisted rfl, List.append_nil]
      rfl
    · rw [calm (by decide)]
      rfl
    · rw [maskDemand_setMaskDemand, List.countP_singleton, State.masks, kind]
      by_cases own : (s.stop n).group = g
      · simp [own]
      · simp [own, Ne.symm own]

theorem drawAll_drawn (ns : List Nat) (s : State) : StopsDrawn ns s (forEach ns drawAtEntry s) := by
  induction ns generalizing s with
  | nil => exact ⟨fun r => (List.append_nil _).symm, fun _ => rfl, fun _ => rfl⟩
  | cons n rest ih =>
    have touched := Touches.drawAtEntry n s
    obtain ⟨active, tremulants, masks⟩ := drawAtEntry_drawn n s
    obtain ⟨active', tremulants', masks'⟩ := ih (drawAtEntry n s)
    have stops := stops_of_touches touched
    have maps : (drawAtEntry n s).maps = s.maps := by
      funext r m
      rw [State.maps, State.maps, stops]
    have shakes : (drawAtEntry n s).shakes = s.shakes := by
      funext r m
      rw [State.shakes, State.shakes, stops]
    have masks'' : (drawAtEntry n s).masks = s.masks := by
      funext r m
      rw [State.masks, State.masks, stops]
    have cons : n :: rest = [n] ++ rest := rfl
    rw [forEach_cons, cons]
    refine ⟨fun r => ?_, fun k => ?_, fun g => ?_⟩
    · rw [active', active, maps, List.filter_append, List.append_assoc]
    · rw [tremulants', tremulants, shakes, List.countP_append, Nat.add_assoc]
    · rw [masks', masks, masks'', List.countP_append, Nat.add_assoc]

/-! ### The held keys -/

/-- The couplings of the keys held on the rows of a list start. -/
def startRows (rows : List Nat) (s : State) : State := forEach rows (fun r u => forEach (u.heldKeys r) (startKey r) u) s

theorem Touches.startRows (rows : List Nat) (s : State) : Touches couplingParts s (startRows rows s) :=
  Touches.forEach (f := fun r u => Machine.forEach (u.heldKeys r) (Machine.startKey r) u)
    (fun r t => Touches.forEach (fun k u => Touches.startKey r k u) _ t) rows s

theorem startRows_added (rows : List Nat) (s : State) :
    Added (rows.flatMap fun r => (s.heldKeys r).flatMap (s.coupled .tonal r)) s (startRows rows s) := by
  induction rows generalizing s with
  | nil => exact .still rfl rfl rfl (fun _ => rfl) fun _ => rfl
  | cons r rest ih =>
    have touched := Touches.startAll r (couplings (s.heldKeys r) (s.active r)) s
    have added := startAll_added r (couplings (s.heldKeys r) (s.active r)) s
    have later := ih (startAll r (couplings (s.heldKeys r) (s.active r)) s)
    have first : startRows (r :: rest) s = startRows rest (startAll r (couplings (s.heldKeys r) (s.active r)) s) :=
      congrArg (startRows rest) (startKeys_eq r (s.heldKeys r) s)
    simp only [heldKeys_of_touches touched (by decide), coupled_of_touches touched (by decide)] at later
    rw [List.flatMap_cons, coupled_eq, first]
    exact added.trans later

theorem engineEnterPlay_eq (s : State) :
    engineEnterPlay s = startRows keyRows (forEach s.drawnStops drawAtEntry s) := rfl

/-! ### The route entries (R103) -/

/-- R103: an entry as entry to PLAY leaves it. -/
def State.enteredEntry (s : State) (i : Nat) : RouteEntry :=
  let e := s.route i
  if s.maskedRoute i || !e.active || decide (e.fields.trigger = .edge) ||
      (decide (e.fields.trigger = .level) && decide (e.fields.target = .none)) then e
  else if e.fields.trigger = .split then { e with state := .measuring, timer := some e.fields.splitTime }
  else { e with state := .inService, timer := none }

theorem route_of_startService (i j : Nat) (s : State) : (startService i s).route j = s.route j :=
  route_of_touches (Touches.startService i s) (by decide) j

theorem route_setRouteState (i j : Nat) (x : RouteState) (timer : Option Nat) (s : State) :
    (setRouteState i x timer s).route j = if j = i then { s.route i with state := x, timer := timer } else s.route j :=
  route_setRoute s i j _

theorem routeEnterPlay_route (i j : Nat) (s : State) :
    (routeEnterPlay i s).route j = if j = i then s.enteredEntry i else s.route j := by
  have still : s.route j = if j = i then s.route i else s.route j := by
    by_cases own : j = i
    · rw [if_pos own, own]
    · rw [if_neg own]
  unfold routeEnterPlay State.enteredEntry
  dsimp only
  by_cases rests : (s.maskedRoute i || !(s.route i).active) = true
  · rw [rests, if_pos rfl]
    exact still
  · rw [Bool.not_eq_true] at rests
    rw [rests, if_neg Bool.false_ne_true]
    cases trigger : (s.route i).fields.trigger with
    | edge => exact still
    | split => simpa [beginSplit] using route_setRouteState i j _ _ s
    | level =>
      unfold beginLevel
      by_cases none : (s.route i).fields.target = .none
      · simpa [none] using still
      · simpa [none, route_of_startService] using route_setRouteState i j _ _ s

theorem maskedRoute_routeEnterPlay (i j : Nat) (s : State) : (routeEnterPlay i s).maskedRoute j = s.maskedRoute j := by
  have touched := Touches.routeEnterPlay i s
  rw [State.maskedRoute, State.maskedRoute, touched.fields, maskDemand_of_touches touched (by decide),
    mode_of_touches touched (by decide)]

theorem routesEntered (l : List Nat) (once : l.Nodup) (s : State) (j : Nat) :
    (forEach l routeEnterPlay s).route j = if j ∈ l then s.enteredEntry j else s.route j := by
  induction l generalizing s with
  | nil => simp [forEach]
  | cons i rest ih =>
    obtain ⟨apart, onceRest⟩ := List.nodup_cons.1 once
    rw [forEach_cons, ih onceRest]
    by_cases later : j ∈ rest
    · have other : j ≠ i := fun same => apart (same ▸ later)
      rw [if_pos later, if_pos (List.mem_cons_of_mem _ later), State.enteredEntry, State.enteredEntry,
        maskedRoute_routeEnterPlay, routeEnterPlay_route, if_neg other]
    · rw [if_neg later, routeEnterPlay_route]
      by_cases own : j = i
      · rw [if_pos own, if_pos (by rw [own]; exact List.mem_cons_self), own]
      · rw [if_neg own, if_neg (by simp [own, later])]

theorem routerEnterPlay_route (s : State) (j : Nat) :
    (routerEnterPlay s).route j = if j < 96 then s.enteredEntry j else s.route j := by
  have entered := routesEntered inputs List.nodup_range s j
  simp only [inputs, List.mem_range] at entered
  exact entered

theorem enteredEntry_of_touches {A : List Part} {s t : State} (touched : Touches A s t) (route : .route ∉ A)
    (mask : .maskDemand ∉ A) (mode : .mode ∉ A) : t.enteredEntry = s.enteredEntry := by
  funext i
  rw [State.enteredEntry, State.enteredEntry, State.maskedRoute, State.maskedRoute, route_of_touches touched route,
    maskDemand_of_touches touched mask, mode_of_touches touched mode]

theorem routerEnterPlay_masked {s : State} (masked : ∀ j, j < 96 → (s.route j).fields.masked = true) :
    routerEnterPlay s = s :=
  forEach_still (s := s) (f := routeEnterPlay) fun i mem => by
    have inTable : i < 96 := List.mem_range.1 mem
    simp only [routeEnterPlay, State.maskedRoute, masked i inTable, Bool.true_or, if_true]

/-! ### Entry to PLAY -/

section Enter

variable {s : State}

theorem enterPlay_eq (s : State) :
    enterPlay s = routerEnterPlay (startRows keyRows (forEach s.drawnStops drawAtEntry s)) := rfl

theorem drawAll_touches (ns : List Nat) (s : State) :
    Touches (.maskDemand :: .active :: .tremDemand :: poolParts) s (forEach ns drawAtEntry s) :=
  Touches.forEach (fun n t => Touches.drawAtEntry n t) ns s

/-- R60: with the lists empty, the couplings of the held keys with the drawn stops are those that entry to PLAY starts. -/
theorem drawn_coupled {t : State} (drawn : StopsDrawn s.drawnStops s t) (empty : ∀ r, s.active r = [])
    (stops : t.stop = s.stop) (targets : t.target = s.target) (keys : ∀ r, t.heldKeys r = s.heldKeys r) :
    ((List.range 9).flatMap fun r => (t.heldKeys r).flatMap (t.coupled .tonal r)) = s.drawnTargets := by
  refine List.flatMap_congr fun r _ => ?_
  rw [keys]
  refine List.flatMap_congr fun k _ => ?_
  have listed : (t.active r).filter (fun n => decide ((s.stop n).kind = .tonal)) =
      s.drawnStops.filter (fun n => decide ((s.stop n).kind = .tonal) && decide ((s.stop n).row = r)) := by
    rw [drawn.active, empty, List.nil_append, List.filter_filter]
    refine List.filter_congr fun n _ => ?_
    rw [State.maps]
    cases (s.stop n).kind <;> simp [StopKind.hasMapping]
  rw [State.coupled, stops, targets, listed]

theorem enterPlay_added (empty : ∀ r, s.active r = []) (masked : ∀ j, j < 96 → (s.route j).fields.masked = true) :
    Added s.drawnTargets s (enterPlay s) := by
  have touched := drawAll_touches s.drawnStops s
  have drawn := drawAll_drawn s.drawnStops s
  rw [enterPlay_eq]
  generalize forEach s.drawnStops drawAtEntry s = t at touched drawn
  have started := Touches.startRows keyRows t
  have added := startRows_added keyRows t
  have targets : (keyRows.flatMap fun r => (t.heldKeys r).flatMap (t.coupled .tonal r)) = s.drawnTargets :=
    drawn_coupled drawn empty (stops_of_touches touched) (targets_of_touches touched)
      (heldKeys_of_touches touched (by decide))
  rw [targets] at added
  rw [routerEnterPlay_masked fun j inTable => by rw [started.fields, touched.fields]; exact masked j inTable]
  exact (Added.untouched touched (by decide) (by decide) (by decide)).trans added

/-- R60, R93, R103: what entry to PLAY leaves, with the play state at rest before. -/
theorem enterPlay_entered (play : s.mode = .play) (rest : AtRest s) : PlayEntered s (enterPlay s) := by
  have touched := drawAll_touches s.drawnStops s
  have drawn := drawAll_drawn s.drawnStops s
  rw [enterPlay_eq]
  generalize forEach s.drawnStops drawAtEntry s = v at touched drawn
  have started := Touches.startRows keyRows v
  generalize startRows keyRows v = w at started
  have routed := Touches.routerEnterPlay w
  have routes := routerEnterPlay_route w
  generalize routerEnterPlay w = t at routed routes
  have before : ∀ i, w.route i = s.route i := fun i =>
    (route_of_touches started (by decide) i).trans (route_of_touches touched (by decide) i)
  have inPlay : w.mode = .play :=
    (mode_of_touches started (by decide)).trans ((mode_of_touches touched (by decide)).trans play)
  have fields : ∀ i, (t.route i).fields = (s.route i).fields ∧ (t.route i).active = (s.route i).active := fun i => by
    rw [routes]
    split
    · rw [← before, State.enteredEntry]
      split
      · exact ⟨rfl, rfl⟩
      · split <;> exact ⟨rfl, rfl⟩
    · exact ⟨by rw [before], by rw [before]⟩
  have begins : ∀ i, t.routeBegins i = !(w.maskedRoute i || !(w.route i).active) := fun i => by
    obtain ⟨same, level⟩ := fields i
    rw [State.routeBegins, State.maskedRoute, same, level, before, maskDemand_of_touches routed (by decide), inPlay]
    cases (s.route i).fields.masked <;> cases (s.route i).active <;>
      simp [Nat.pos_iff_ne_zero]
  constructor
  case active =>
    intro q
    rw [active_of_touches routed (by decide), active_of_touches started (by decide), drawn.active, rest.active]
    rfl
  case tremulants =>
    intro k
    rw [tremulantDemand_of_tremDemand (routed.tremDemand (by decide)),
      tremulantDemand_of_tremDemand (started.tremDemand (by decide)), drawn.tremulants]
    rfl
  case masks =>
    intro g
    rw [maskDemand_of_touches routed (by decide), maskDemand_of_touches started (by decide), drawn.masks, rest.masks,
      Nat.zero_add]
    rfl
  case levels =>
    intro i inTable level
    have idle := rest.routes i inTable
    rw [begins, routes, if_pos inTable, State.enteredEntry, before]
    cases (w.maskedRoute i || !(s.route i).active)
    · by_cases none : (s.route i).fields.target = .none <;> simp [level, none, idle]
    · simp [idle]
  case splits =>
    intro i inTable split
    have idle := rest.routes i inTable
    rw [begins, routes, if_pos inTable, State.enteredEntry, before]
    cases (w.maskedRoute i || !(s.route i).active) <;> simp [split, idle]
  case edges =>
    intro i inTable edge
    have idle := rest.routes i inTable
    rw [routes, if_pos inTable, State.enteredEntry, before]
    simp [edge, idle]
  case fields => exact fields

theorem PlayEntered.from_touches {A : List Part} {u t : State} (touched : Touches A s u) (stop : .row .stop ∉ A)
    (tremDemand : .tremDemand ∉ A) (route : .route ∉ A) (entered : PlayEntered u t) : PlayEntered s t := by
  have drawn : u.drawnStops = s.drawnStops :=
    congrArg (fun f => List.filter f (List.range 320)) (drawn_of_touches touched stop)
  have stops := stops_of_touches touched
  have routes := route_of_touches touched route
  obtain ⟨active, tremulants, masks, levels, splits, edges, fields⟩ := entered
  simp only [drawn, stops, routes, tremulantDemand_of_tremDemand (touched.tremDemand tremDemand)]
    at active tremulants masks levels splits edges fields
  exact ⟨active, tremulants, masks, levels, splits, edges, fields⟩

theorem PlayEntered.reported {u t : State} (reports : ReportsOnly u t) (entered : PlayEntered s u) : PlayEntered s t := by
  have active : ∀ r, t.active r = u.active r := fun r => by rw [State.active, State.active, reports.engine]
  have tremulant : ∀ k, t.tremulantDemand k = u.tremulantDemand k :=
    tremulantDemand_of_tremDemand (congrArg Pool.tremDemand reports.pool)
  have mask : ∀ g, t.maskDemand g = u.maskDemand g := fun g => by
    rw [State.maskDemand, State.maskDemand, reports.router]
  have route := route_of_reports reports
  have begins : t.routeBegins = u.routeBegins := by
    funext i
    rw [State.routeBegins, State.routeBegins, route, mask]
  obtain ⟨active', tremulants, masks, levels, splits, edges, fields⟩ := entered
  simp only [← active, ← tremulant, ← mask, ← route, ← begins] at active' tremulants masks levels splits edges fields
  exact ⟨active', tremulants, masks, levels, splits, edges, fields⟩

end Enter

end Sys2Proof.Machine
end

section
/-! PROOF. Entry to TUNE (R62, R149), and MODE-SET as a whole (R163). -/

namespace Sys2Proof.Machine

/-! ### Every guard lifted (R149) -/

/-- R149: a chamber with its guards lifted and its list emptied. -/
def liftWhole (c : Nat) (s : State) : State := s.setChamber c { s.chamber c with guards := .empty, ciphers := [] }

theorem chamber_liftWhole (c d : Nat) (s : State) : (liftWhole c s).chamber d =
    if d = c then { s.chamber d with guards := .empty, ciphers := [] } else s.chamber d := by
  rw [liftWhole, chamber_setChamber]
  by_cases own : d = c
  · rw [if_pos own, if_pos own, own]
  · rw [if_neg own, if_neg own]

theorem chamber_liftAll (l : List Nat) (s : State) (c : Nat) : (forEach l liftWhole s).chamber c =
    if c ∈ l then { s.chamber c with guards := .empty, ciphers := [] } else s.chamber c := by
  induction l generalizing s with
  | nil => simp [forEach]
  | cons d rest ih =>
    rw [forEach_cons, ih, chamber_liftWhole]
    by_cases later : c ∈ rest <;> by_cases own : c = d <;> simp [later, own]

theorem claims_liftAll (l : List Nat) (s : State) : (forEach l liftWhole s).claims = s.claims := by
  induction l generalizing s with
  | nil => rfl
  | cons d rest ih => exact ih _

theorem liftAllGuards_eq (s : State) : liftAllGuards s = latchCipherChange s (forEach (List.range 4) liftWhole s) := rfl

/-- R149: no guard is left, and claims, on-timers and the pool stand. -/
structure AllGuardsLifted (s t : State) : Prop where
  lists : ∀ c, c < 4 → (t.chamber c).ciphers = [] ∧ ∀ p, (t.chamber c).guarded p = false
  timers : ∀ c p, (t.chamber c).onTimer p = (s.chamber c).onTimer p
  counts : t.claims.counts = s.claims.counts

theorem liftAllGuards_lifted (s : State) : AllGuardsLifted s (liftAllGuards s) := by
  rw [liftAllGuards_eq]
  have chambers := chamber_liftAll (List.range 4) s
  have claims := claims_liftAll (List.range 4) s
  generalize forEach (List.range 4) liftWhole s = t at chambers claims
  have touched := Touches.latchCipherChange s t
  have same := chamber_of_chambers (touched.chambers (by decide))
  refine ⟨fun c inTable => ?_, fun c p => ?_, (touched.counts (by decide)).trans (congrArg ClaimStore.counts claims)⟩
  · rw [same, chambers, if_pos (List.mem_range.2 inTable)]
    exact ⟨rfl, fun p => rfl⟩
  · rw [same, chambers]
    split <;> rfl

/-! ### The tuning couplings that start (R62) -/

theorem startTuningRow_chambers (sel : TuningSelection) {s : State} (quiet : s.mode ≠ .play) :
    (startTuningRow sel s).chambers = s.chambers := by
  have adds : ∀ (ps : List Point) (t : State), t.mode ≠ .play → (forEach ps addClaim t).chambers = t.chambers := by
    intro ps
    induction ps with
    | nil => exact fun _ _ => rfl
    | cons p rest ih =>
      intro t other
      rw [forEach_cons, addClaim_quiet other]
      exact ih _ other
  unfold startTuningRow
  cases kind : (s.rank sel.rank).kind with
  | pipe =>
    rw [startTunings_pipe sel _ kind]
    exact adds _ s quiet
  | struck =>
    rw [startTunings_struck sel _ kind]
    exact (Touches.forEach (fun p t => Touches.strike p t) _ s).chambers (by decide)
  | none => rw [startTunings_none sel _ kind]

/-- R62, R149: what entry to TUNE leaves. -/
structure TuneEntered (sel : TuningSelection) (s t : State) : Prop where
  claims : ∀ p : Point, t.claimCount p = s.claimCount p + occurrences p (s.tuningTargets sel)
  strikes : (s.rank sel.rank).kind = .struck → StrikesTaken ((s.heldKeys sel.row).filterMap (s.target sel.mapping)) s t
  lists : ∀ c, c < 4 → (t.chamber c).ciphers = [] ∧ ∀ p, (t.chamber c).guarded p = false
  timers : ∀ c p, (t.chamber c).onTimer p = (s.chamber c).onTimer p

theorem enterTune_entered {s : State} {sel : TuningSelection} (tune : s.mode = .tune)
    (selected : s.engine.tuning = some sel) : TuneEntered sel s (enterTune s) := by
  have lifted := Touches.liftAllGuards s
  obtain ⟨lists, timers, counts⟩ := liftAllGuards_lifted s
  have chosen : (liftAllGuards s).engine.tuning = some sel := (tuning_of_touches lifted).trans selected
  have entered : enterTune s = startTuningRow sel (liftAllGuards s) := by simp only [enterTune, engineEnterTune, chosen]
  rw [entered]
  generalize liftAllGuards s = u at lifted lists timers counts
  have quiet : u.mode ≠ .play := by rw [mode_of_touches lifted (by decide), tune]; decide
  have chambers := chamber_of_chambers (startTuningRow_chambers sel quiet)
  have pool := pool_of_touches lifted (by decide) (by decide) (by decide) (by decide) (by decide)
  have moves := startTuningRow_moves sel u
  refine ⟨fun p => ?_, fun struck => ?_, fun c inTable => ?_, fun c p => ?_⟩
  · rw [moves, claimCount_of_counts counts, tuningTargets_of_touches lifted (by decide)]
  · have taken := startTuningRow_strikes sel (s := u) (by rw [rank_of_touches lifted]; exact struck)
    rw [heldKeys_of_touches lifted (by decide), targets_of_touches lifted] at taken
    exact taken.congr pool rfl (rankOf_of_touches lifted) (rank_of_touches lifted)
  · rw [chambers]
    exact lists c inTable
  · rw [chambers]
    exact timers c p

/-! ### What every change of mode leaves -/

section Kept

theorem forEach_leaves {α β : Type} {f : α → State → State} (g : State → β) (each : ∀ x s, g (f x s) = g s) (l : List α)
    (s : State) : g (forEach l f s) = g s :=
  forEach_keeps (P := fun t => g t = g s) (fun x t same => (each x t).trans same) l s rfl

theorem routeLeavePlay_scan (i : Nat) (s : State) : (routeLeavePlay i s).scan = s.scan := by
  have ends : ∀ t, (endService .leaving i t).scan = t.scan := fun t =>
    scan_of_touches (Touches.endService .leaving i t) (by decide) (by decide) (by decide) (by decide)
  unfold routeLeavePlay
  split
  · exact ends _
  · rfl
  · rfl
  · rfl

theorem routerLeavePlay_scan (s : State) : (routerLeavePlay s).scan = s.scan := by
  have all := forEach_leaves State.scan routeLeavePlay_scan inputs s
  unfold routerLeavePlay
  generalize forEach inputs routeLeavePlay s = t at all
  exact all

theorem routeEnterPlay_scan (i : Nat) (s : State) : (routeEnterPlay i s).scan = s.scan := by
  have starts : ∀ t, (startService i t).scan = t.scan := fun t =>
    scan_of_touches (Touches.startService i t) (by decide) (by decide) (by decide) (by decide)
  simp only [routeEnterPlay, beginLevel, beginSplit]
  split
  · rfl
  · split
    · rfl
    · split
      · rfl
      · exact starts _
    · rfl

theorem leavePlay_scan (s : State) : (leavePlay s).scan = s.scan := by
  have ended := Touches.endRows keyRows s
  have engine : (engineLeavePlay s).scan = s.scan := by
    rw [engineLeavePlay_eq]
    generalize endRows keyRows s = w at ended
    have cancelled := forEach_leaves State.scan (fun n t => scan_of_touches (Touches.cancelAtLeaving n t) (by decide)
      (by decide) (by decide) (by decide)) s.drawnStops (listsEmptied w)
    have rows : w.scan = s.scan := scan_of_touches ended (by decide) (by decide) (by decide) (by decide)
    exact cancelled.trans rows
  have routed := routerLeavePlay_scan (engineLeavePlay s)
  unfold leavePlay
  generalize routerLeavePlay (engineLeavePlay s) = v at routed
  have stopped := scan_of_touches (Touches.stopAllPlayers v) (by decide) (by decide) (by decide) (by decide)
  have quiet := scan_of_touches (Touches.cancelStrikes (stopAllPlayers v)) (by decide) (by decide) (by decide) (by decide)
  exact quiet.trans (stopped.trans (routed.trans engine))

theorem enterPlay_scan (s : State) : (enterPlay s).scan = s.scan := by
  have touched := drawAll_touches s.drawnStops s
  rw [enterPlay_eq]
  generalize forEach s.drawnStops drawAtEntry s = v at touched
  have started := scan_of_touches (Touches.startRows keyRows v) (by decide) (by decide) (by decide) (by decide)
  have routed := forEach_leaves State.scan routeEnterPlay_scan inputs (startRows keyRows v)
  exact routed.trans (started.trans (scan_of_touches touched (by decide) (by decide) (by decide) (by decide)))

theorem setMode_scan (m : Mode) (s : State) : (setMode m s).scan = s.scan :=
  scan_of_touches (Touches.setMode m s) (by decide) (by decide) (by decide) (by decide)

theorem leaveMode_scan (s : State) : (leaveMode s).scan = s.scan := by
  cases mode : s.mode with
  | config => rw [leaveMode_config mode]
  | play => rw [leaveMode_play mode, leavePlay_scan, setMode_scan]
  | tune =>
    rw [leaveMode_tune mode, scan_of_touches (Touches.leaveTune _) (by decide) (by decide) (by decide) (by decide),
      setMode_scan]

theorem enterMode_scan (m : Mode) (s : State) : (enterMode m s).scan = s.scan := by
  cases m with
  | config => exact setMode_scan .config s
  | play => exact (enterPlay_scan _).trans (setMode_scan .play s)
  | tune =>
    exact (scan_of_touches (Touches.enterTune _) (by decide) (by decide) (by decide) (by decide)).trans
      (setMode_scan .tune s)

theorem leaveMode_mode (s : State) : (leaveMode s).mode = .config := by
  cases mode : s.mode with
  | config => rw [leaveMode_config mode, mode]
  | play => rw [leaveMode_play mode, mode_of_touches (Touches.leavePlay _) (by decide), setMode_mode]
  | tune => rw [leaveMode_tune mode, mode_of_touches (Touches.leaveTune _) (by decide), setMode_mode]

theorem enterMode_mode (m : Mode) (s : State) : (enterMode m s).mode = m := by
  cases m with
  | config => exact setMode_mode .config s
  | play => exact (mode_of_touches (Touches.enterPlay _) (by decide)).trans (setMode_mode .play s)
  | tune => exact (mode_of_touches (Touches.enterTune _) (by decide)).trans (setMode_mode .tune s)

theorem setMode_latched {m : Mode} {s : State} (other : m ≠ s.mode) : (setMode m s).latched .mode = true := by
  rw [setMode, if_neg other]
  exact latch_latched_same .mode _

theorem leaveMode_latched {s : State} (other : s.mode ≠ .config) : (leaveMode s).latched .mode = true := by
  have set := setMode_latched (m := .config) (Ne.symm other)
  cases mode : s.mode with
  | config => exact absurd mode other
  | play =>
    rw [leaveMode_play mode, (Touches.leavePlay _).latched_same (by decide) (by decide)]
    exact set
  | tune =>
    rw [leaveMode_tune mode, (Touches.leaveTune _).latched_same (by decide) (by decide)]
    exact set

theorem enterMode_config (s : State) : enterMode .config (leaveMode s) = leaveMode s := if_pos (leaveMode_mode s).symm

/-- R163, R165: MODE is latched at a change of mode. -/
theorem enterMode_latched {m : Mode} {s : State} (other : s.mode ≠ m) :
    (enterMode m (leaveMode s)).latched .mode = true := by
  have set : m ≠ .config → (setMode m (leaveMode s)).latched .mode = true := fun apart =>
    setMode_latched (by rw [leaveMode_mode]; exact apart)
  cases m with
  | config =>
    rw [enterMode_config]
    exact leaveMode_latched other
  | play => exact ((Touches.enterPlay _).latched_same (by decide) (by decide)).trans (set (by decide))
  | tune => exact ((Touches.enterTune _).latched_same (by decide) (by decide)).trans (set (by decide))

end Kept

/-! ### Points that a leaving leaves with no claim (R146, R149) -/

theorem Removed.clears {ps : List Point} {s t : State} (removed : Removed ps s t) (inRange : ∀ q ∈ ps, q.point < 1024)
    {p : Point} (small : p.point < 1024) (few : s.claimCount p ≤ occurrences p ps)
    (free : s.claimCount p = 0 → s.Unguarded p) : t.Unguarded p := by
  by_cases unclaimed : s.claimCount p = 0
  · exact removed.stays p (free unclaimed)
  · refine removed.falls inRange p small (Nat.pos_of_ne_zero unclaimed) ?_
    rw [removed.counts]
    omega

/-! ### The three changes -/

section Change

variable {s : State}

theorem leaveMode_few (other : s.mode ≠ .play) :
    Touches (.mode :: .report .mode :: .hold :: .strike :: claimParts) s (leaveMode s) := by
  cases mode : s.mode with
  | config =>
    rw [leaveMode_config mode]
    exact .refl s
  | play => exact absurd mode other
  | tune =>
    rw [leaveMode_tune mode]
    exact ((Touches.setMode .config s).mono (by decide)).trans ((Touches.leaveTune _).mono (by decide))

theorem drawnTargets_of_touches {A : List Part} {t : State} (touched : Touches A s t) (key : .row .key ∉ A)
    (stop : .row .stop ∉ A) : t.drawnTargets = s.drawnTargets := by
  have drawn : t.drawnStops = s.drawnStops :=
    congrArg (fun f => List.filter f (List.range 320)) (drawn_of_touches touched stop)
  simp only [State.drawnTargets, heldKeys_of_touches touched key, drawn, stops_of_touches touched,
    targets_of_touches touched]

/-- R60, R103: entry to PLAY from another mode. -/
theorem play_entered (other : s.mode ≠ .play) (quiet : QuietOutsidePlay s) :
    PlayEntered s (enterMode .play (leaveMode s)) := by
  obtain ⟨⟨-, rest⟩, -, -⟩ := leaveMode_rests quiet
  have set := Touches.setMode .play (leaveMode s)
  have few : Touches (.mode :: .report .mode :: .hold :: .strike :: claimParts) s (setMode .play (leaveMode s)) :=
    (leaveMode_few other).trans (set.mono (by decide))
  have entered := enterPlay_entered (setMode_mode .play (leaveMode s))
    (rest.touched set (by decide) (by decide) (by decide) (by decide) (by decide))
  exact entered.from_touches few (by decide) (by decide) (by decide)

theorem play_added (other : s.mode ≠ .play) (quiet : QuietOutsidePlay s)
    (masked : ∀ j, j < 96 → (s.route j).fields.masked = true) :
    Added s.drawnTargets (setMode .play (leaveMode s)) (enterMode .play (leaveMode s)) := by
  obtain ⟨⟨-, rest⟩, -, -⟩ := leaveMode_rests quiet
  have set := Touches.setMode .play (leaveMode s)
  have few : Touches (.mode :: .report .mode :: .hold :: .strike :: claimParts) s (setMode .play (leaveMode s)) :=
    (leaveMode_few other).trans (set.mono (by decide))
  rw [← drawnTargets_of_touches few (by decide) (by decide)]
  exact enterPlay_added (rest.touched set (by decide) (by decide) (by decide) (by decide) (by decide)).active
    fun j inTable => by rw [few.fields]; exact masked j inTable

/-- R62: entry to TUNE from another mode, against the state left. -/
theorem tune_entered {sel : TuningSelection} (selected : s.engine.tuning = some sel) :
    TuneEntered sel (setMode .tune (leaveMode s)) (enterMode .tune (leaveMode s)) :=
  enterTune_entered (setMode_mode .tune (leaveMode s)) (by
    rw [tuning_of_touches (Touches.setMode .tune _), tuning_of_touches (Touches.leaveMode s)]
    exact selected)

theorem leaveMode_then_set (m : Mode) (listed : ∀ r, (s.active r).Nodup) :
    Removed s.leftClaims s (setMode m (leaveMode s)) :=
  have set := Touches.setMode m (leaveMode s)
  (leaveMode_removed s listed).then_still (set.counts (by decide)) (set.chambers (by decide))

theorem tuned_targets (m : Mode) : (setMode m (leaveMode s)).tuningTargets = s.tuningTargets := by
  rw [tuningTargets_of_touches (Touches.setMode m _) (by decide), tuningTargets_of_touches (Touches.leaveMode s) (by decide)]

/-- R61, R63, R60, R62: the claim counts after a change of mode. -/
theorem changed_claims (listed : ∀ r, (s.active r).Nodup) (p : Point) :
    ((enterMode .config (leaveMode s)).claimCount p = s.claimCount p - occurrences p s.leftClaims) ∧
    (∀ sel, s.engine.tuning = some sel → (enterMode .tune (leaveMode s)).claimCount p =
      s.claimCount p - occurrences p s.leftClaims + occurrences p (s.tuningTargets sel)) ∧
    (s.mode ≠ .play → QuietOutsidePlay s → (∀ j, j < 96 → (s.route j).fields.masked = true) →
      (enterMode .play (leaveMode s)).claimCount p =
        s.claimCount p - occurrences p s.leftClaims + occurrences p s.drawnTargets) := by
  refine ⟨?_, fun sel selected => ?_, fun other quiet masked => ?_⟩
  · rw [enterMode_config]
    exact (leaveMode_removed s listed).counts p
  · rw [(tune_entered selected).claims, (leaveMode_then_set .tune listed).counts, tuned_targets]
  · exact (leaveMode_then_set .play listed).counts_added (play_added other quiet masked) p

/-- R84: what leaving PLAY lowers stands lowered in the new mode. -/
theorem changed_demands {m : Mode} (play : s.mode = .play) (other : m ≠ .play) :
    (∀ p : Point, (enterMode m (leaveMode s)).demandOf p = s.demandOf p - occurrences p s.leftDemands) ∧
    ∀ k, (enterMode m (leaveMode s)).tremulantDemand k =
      s.tremulantDemand k - s.drawnStops.countP (s.shakes k) := by
  obtain ⟨demands, tremulants⟩ := leaveMode_lowered play
  have touched : Touches (.mode :: .report .mode :: .strike :: claimParts) (leaveMode s) (enterMode m (leaveMode s)) := by
    have set := Touches.setMode m (leaveMode s)
    cases m with
    | config => exact set.mono (by decide)
    | play => exact absurd rfl other
    | tune => exact (set.mono (by decide)).trans ((Touches.enterTune _).mono (by decide))
  exact ⟨fun p => (demandOf_of_demand (touched.demand (by decide)) p).trans (demands p),
    fun k => (tremulantDemand_of_tremDemand (touched.tremDemand (by decide)) k).trans (tremulants k)⟩

/-- R149: leaving PLAY leaves no guard, on-timer or entry, where each claim was one of those that end. -/
theorem changed_unguarded {m : Mode} (other : m ≠ .play) (selects : m = .tune → s.engine.tuning ≠ none)
    (listed : ∀ r, (s.active r).Nodup) (inRange : ∀ q ∈ s.leftClaims, q.point < 1024) {p : Point} (chamber : p.chamber < 4)
    (small : p.point < 1024) (few : s.claimCount p ≤ occurrences p s.leftClaims)
    (free : s.claimCount p = 0 → s.Unguarded p) : (enterMode m (leaveMode s)).Unguarded p := by
  have left := (leaveMode_then_set m listed).clears inRange small few free
  cases m with
  | config => exact left
  | play => exact absurd rfl other
  | tune =>
    obtain ⟨sel, selected⟩ := Option.ne_none_iff_exists'.1 (selects rfl)
    obtain ⟨-, -, lists, timers⟩ := tune_entered selected
    obtain ⟨ciphers, guards⟩ := lists p.chamber chamber
    obtain ⟨-, timer, -⟩ := left
    exact ⟨guards _, (timers _ _).trans timer, by rw [ciphers]; exact nofun⟩

/-- R61, R84, R104, R116: what is at rest after PLAY has been left for CONFIG. -/
theorem config_rests (play : s.mode = .play) : AtRest (enterMode .config (leaveMode s)) ∧
    ∀ p, (enterMode .config (leaveMode s)).strikeTimer p = none := by
  rw [enterMode_config, leaveMode_play play]
  exact ⟨leavePlay_rest _, (leavePlay_left _).strikes⟩

theorem strikeTimer_leaveTune (s : State) (p : Point) : (leaveTune s).strikeTimer p = none :=
  strikeTimer_cancelStrikes (engineLeaveTune s) p

/-- R63, R85: what is left of TUNE in CONFIG. -/
theorem config_untuned (tune : s.mode = .tune) : (enterMode .config (leaveMode s)).claims.holds = [] ∧
    ∀ p, (enterMode .config (leaveMode s)).strikeTimer p = none := by
  rw [enterMode_config, leaveMode_tune tune]
  exact ⟨leaveTune_holds _, strikeTimer_leaveTune _⟩

/-- R62: entry to TUNE from CONFIG. -/
theorem tune_from_config (config : s.mode = .config) {sel : TuningSelection} (selected : s.engine.tuning = some sel) :
    (∀ p : Point, (enterMode .tune (leaveMode s)).claimCount p = s.claimCount p + occurrences p (s.tuningTargets sel)) ∧
    ((s.rank sel.rank).kind = .struck →
      StrikesTaken ((s.heldKeys sel.row).filterMap (s.target sel.mapping)) s (enterMode .tune (leaveMode s))) := by
  obtain ⟨claims, strikes, -, -⟩ := tune_entered selected
  have same := leaveMode_config config
  rw [same] at claims strikes ⊢
  have set := Touches.setMode .tune s
  rw [tuningTargets_of_touches set (by decide)] at claims
  rw [rank_of_touches set, heldKeys_of_touches set (by decide), targets_of_touches set] at strikes
  refine ⟨fun p => ?_, fun struck => ?_⟩
  · rw [claims, claimCount_of_counts (set.counts (by decide))]
  · have pool := pool_of_touches set (by decide) (by decide) (by decide) (by decide) (by decide)
    exact (strikes struck).congr pool rfl (rankOf_of_touches set) (rank_of_touches set)

/-- R60, R146: entry to PLAY from CONFIG with every route entry masked. -/
theorem play_from_config (config : s.mode = .config) (quiet : QuietOutsidePlay s)
    (masked : ∀ j, j < 96 → (s.route j).fields.masked = true) :
    (∀ p : Point, (enterMode .play (leaveMode s)).claimCount p = s.claimCount p + occurrences p s.drawnTargets) ∧
      RisesTimed s.drawnTargets s (enterMode .play (leaveMode s)) := by
  have added := play_added (by rw [config]; decide) quiet masked
  have same := leaveMode_config config
  rw [same] at added ⊢
  have set := Touches.setMode .play s
  have still := setMode_claims .play s
  exact ⟨fun p => still.counts_added added p, still.rises_added added (rankOf_of_touches set) (rank_of_touches set)⟩

end Change

/-! ### MODE-SET (R163) -/

section ModeSet

variable {s : State} {r : Request} {m : Mode} {i : Instr} {code : Byte}

theorem serveMode_eq (named : modes[code.toNat]? = some m) : serveMode [code] s = modeSet m s := by
  refine withFields_ok (v := m) ?_ modeSet s
  simp [readMode, field, takeEnum, named, endFields]

theorem asksMode_own (head : HeadIs s r 0x02#8 [code]) (own : code = byteOf (modeCode m)) : asksMode m r = true := by
  simp [asksMode, head.hasCode, head.fields, own]

/-- The three MODE-SET commands, with their mode and its byte. -/
theorem modeSet_served (mem : (i, m, code) ∈ [(Instr.modeSetConfig, Mode.config, 0#8), (.modeSetPlay, .play, 1#8),
    (.modeSetTune, .tune, 2#8)]) (s : State) : exec i s = serveHead (asksMode m) serveMode s ∧
      modes[code.toNat]? = some m ∧ code = byteOf (modeCode m) := by
  simp only [List.mem_cons, Prod.mk.injEq, List.not_mem_nil, or_false] at mem
  obtain ⟨rfl, rfl, rfl⟩ | ⟨rfl, rfl, rfl⟩ | ⟨rfl, rfl, rfl⟩ := mem
  · exact ⟨exec_modeSetConfig s, rfl, rfl⟩
  · exact ⟨exec_modeSetPlay s, rfl, rfl⟩
  · exact ⟨exec_modeSetTune s, rfl, rfl⟩

theorem modeSet_same (same : s.mode = m) : modeSet m s = (s, .done []) := if_pos same.symm

theorem modeSet_unset (other : s.mode ≠ .tune) (unset : s.engine.tuning = none) : modeSet .tune s = (s, .unset) := by
  rw [modeSet, if_neg (Ne.symm other), if_pos ⟨rfl, by rw [unset]; rfl⟩]

theorem selection_held (selects : m = .tune → s.engine.tuning ≠ none) : ¬(m = .tune ∧ s.engine.tuning.isNone = true) :=
  fun ⟨tune, unset⟩ => selects tune (Option.isNone_iff_eq_none.1 unset)

theorem modeSet_inconsistent (other : s.mode ≠ m) (notConfig : m ≠ .config)
    (selects : m = .tune → s.engine.tuning ≠ none) {x : Nat × Nat} (fails : s.crossCheck = some x) :
    modeSet m s = (s, .inconsistent x.1 x.2) := by
  rw [modeSet, if_neg (Ne.symm other), if_neg (selection_held selects), if_neg notConfig, fails]

theorem modeSet_changes (other : s.mode ≠ m) (selects : m = .tune → s.engine.tuning ≠ none)
    (passes : m ≠ .config → s.crossCheck = none) : modeSet m s = (enterMode m (leaveMode s), .done []) := by
  rw [modeSet, if_neg (Ne.symm other), if_neg (selection_held selects)]
  by_cases config : m = .config
  · rw [if_pos config, config, enterMode_config]
  · rw [if_neg config, passes config]

end ModeSet

/-! ### What reports leave of a run of claims -/

section Reports

variable {u t : State} (reports : ReportsOnly u t)

include reports

theorem FallsClear.reported {s : State} {ps : List Point} (falls : FallsClear ps s u) : FallsClear ps s t :=
  falls.passing (e := u.ext) reports

theorem RisesTimed.reported {s : State} {ps : List Point} (rises : RisesTimed ps s u) : RisesTimed ps s t :=
  rises.passing (e := u.ext) reports

theorem State.Unguarded.reported {p : Point} (free : u.Unguarded p) : t.Unguarded p :=
  unguarded_of_reports (e := u.ext) reports free

end Reports

/-- Settles O37: the cross-check by its tables, and MODE-SET by its cases, a change as a leaving followed by an entry. -/
theorem modeSetChangesMode : Obligations.ModeSetChangesMode := by
  refine ⟨fun s => crossCheck_finds, fun s r i m code head mem => ?_⟩
  obtain ⟨served, named, byte⟩ := modeSet_served mem s
  have own : asksMode m r = true := asksMode_own head byte
  have acts : serveMode r.fields s = modeSet m s := by
    rw [head.fields]
    exact serveMode_eq named
  refine ⟨fun same => ?_, fun other tune unset => ?_, fun other notConfig selects x fails => ?_,
    fun other selects passes => ?_⟩
  · exact answeredUnchanged served head.first own (acts.trans (modeSet_same same))
  · subst tune
    exact answeredUnchanged served head.first own (acts.trans (modeSet_unset other unset))
  · exact answeredUnchanged served head.first own (acts.trans (modeSet_inconsistent other notConfig selects fails))
  have taken := modeSet_changes other selects passes
  have touched := Touches.modeSet m s
  rw [taken] at touched
  obtain ⟨ran, answered, reports⟩ := answers_touched served head.first own (acts.trans taken) touched
  have counts := claimCount_of_reports reports
  have timers := strikeTimer_of_reports reports
  have lists := ciphers_of_reports reports
  have guards := guarded_of_reports reports
  have engine := reports.engine
  have claims := reports.claims
  refine ⟨_, ran, answered, (mode_of_reports reports).trans (enterMode_mode m _),
    (reports.flags _ (by decide)).trans (enterMode_latched other),
    reports.scan.trans ((enterMode_scan m _).trans (leaveMode_scan s)), reports.expression.trans touched.expression,
    by rw [engine, touched.engine], by rw [engine, touched.engine], by rw [engine, touched.engine], fun c => ?_,
    fun play config => ?_, fun play quiet => ?_, fun tune config sel selected => ?_, fun listed p => ?_, fun play => ?_,
    fun tune config => ?_, fun listed config => ?_, fun play away listed inRange few free p chamber small => ?_,
    fun tune c inTable => ?_, fun play config quiet masked => ?_⟩
  · obtain ⟨only, -⟩ := touched.chamber c
    rw [chamberState_of_reports reports, only]
  · subst config
    obtain ⟨⟨active, pizz, players, routes, masks⟩, strikes⟩ := config_rests play
    refine ⟨fun q => ?_, by rw [claims]; exact pizz, fun n few => (player_of_reports reports n).trans (players n few),
      fun p => (timers p).trans (strikes p), fun g => ?_, fun j few => by rw [route_of_reports reports]; exact routes j few⟩
    · rw [State.active, engine]
      exact active q
    · rw [State.maskDemand, reports.router]
      exact masks g
  · subst play
    refine ⟨(play_entered other quiet).reported reports, fun config masked p => ?_⟩
    obtain ⟨added, -⟩ := play_from_config config quiet masked
    exact (counts p).trans (added p)
  · subst tune
    obtain ⟨added, strikes⟩ := tune_from_config config selected
    obtain ⟨-, -, lifted, -⟩ := tune_entered selected
    refine ⟨fun p => (counts p).trans (added p),
      fun struck => (strikes struck).congr rfl reports.pool (fun _ => rfl) fun _ => rfl, fun c inTable => ?_⟩
    obtain ⟨ciphers, unguarded⟩ := lifted c inTable
    exact ⟨(lists c).trans ciphers, fun p => (guards c p).trans (unguarded p)⟩
  · obtain ⟨config, tune, play⟩ := changed_claims listed p
    refine ⟨fun same => ?_, fun same sel selected => ?_, fun same quiet masked => ?_⟩
    · subst same
      exact (counts p).trans config
    · subst same
      exact (counts p).trans (tune sel selected)
    · subst same
      exact (counts p).trans (play other quiet masked)
  · obtain ⟨demands, tremulants⟩ := changed_demands play fun same => other (play.trans same.symm)
    exact ⟨fun p => (demandOf_of_reports reports p).trans (demands p),
      fun k => (tremulantDemand_of_tremDemand (congrArg Pool.tremDemand reports.pool) k).trans (tremulants k)⟩
  · subst config
    obtain ⟨holds, strikes⟩ := config_untuned tune
    exact ⟨(congrArg ClaimStore.holds claims).trans holds, fun p => (timers p).trans (strikes p)⟩
  · subst config
    have falls := (leaveMode_then_set .config listed).falls
    exact FallsClear.reported reports falls
  · have selected : m = .tune → s.engine.tuning ≠ none := selects
    exact (changed_unguarded away selected listed inRange chamber small (few p chamber small)
      (free p chamber small)).reported reports
  · subst tune
    obtain ⟨sel, selected⟩ := Option.ne_none_iff_exists'.1 (selects rfl)
    obtain ⟨-, -, lifted, -⟩ := tune_entered selected
    obtain ⟨ciphers, unguarded⟩ := lifted c inTable
    exact ⟨(lists c).trans ciphers, fun p => (guards c p).trans (unguarded p)⟩
  · subst play
    obtain ⟨-, rises⟩ := play_from_config config quiet masked
    exact rises.reported reports

end Sys2Proof.Machine
end
